-- ==== Sys2Proof/Word.lean ====
section
/-!
DEFINITION. The register word of the MRD-9160 (R5: 32 bits, little-endian), bytes, and their plainest arithmetic.
-/
namespace Sys2Proof

/-- A register or table word (R5). -/
abbrev Word := BitVec 32

/-- A byte of a record, a datagram or a table. -/
abbrev Byte := BitVec 8

/-- A 64-bit queue item (R333) or counter. -/
abbrev DWord := BitVec 64

end Sys2Proof
end

