-- ==== Sys2Proof/Syntax.lean ====
section
/-!
DEFINITION. The commands of the MRD-9160: one constructor for each row of spec/opcode_table.json, in the table's order, with
the operands that the rows' rules name. A register command carries its requester (R87) and the value written; an event
command carries what the outside world determines (a measured eye, a received frame, a time out's port). The table gives no
row any bits, so no command has an encoding.
-/
namespace Sys2Proof

/-- The six requesters of the access matrix, in the order of its mask bits (R87). -/
inductive Requester where
  | host | prt | sc | pp | fp | rp
  deriving DecidableEq, Repr

/-- The four control processors (R13). -/
inductive Proc where
  | sc | pp | fp | rp
  deriving DecidableEq, Repr

/-- The five firmware images, coded 0 to 4 (R438). -/
inductive Image where
  | sc | pp | fp | rp | lnk
  deriving DecidableEq, Repr

/-- The PLLs of R44. -/
inductive Pll where
  | sys | eng | gyzor | serdes | dram
  deriving DecidableEq, Repr

/-- What an EVR target, a queue side or a pin is told apart by: the two event pins (R95). -/
abbrev EvtPin := Fin 2

/-- Where an ECC error was found (R31, R209, R228, R159, R341). -/
inductive EccSite where
  /-- a read of map entry `e` (R209) -/
  | mapEntry (e : Fin 8388608)
  /-- a read of the solver tables of profile `p` (R228) -/
  | solver (p : Fin 4096)
  /-- a read of the cached copy of a clip (R159) -/
  | clipCache (clip : BitVec 16)
  /-- a journalled or reloadable table of the block at `pg` (R31) -/
  | table (pg : Fin 256)
  /-- the frame store of a video stream, which holds its complete pictures (R33, R150) -/
  | frameStore (s : Fin 8)
  /-- an ingest buffer: that of a video stream, 0 to 7, or of AUD, 8 (R33, R151, R169) -/
  | ingest (n : Fin 9)
  deriving DecidableEq, Repr

/-- The conditions of R241: the eight faults in the bit order of LINE_FAULT (R256). -/
inductive LineCond where
  | shortP1P2 | shortP1Pe | shortP2Pe | shortP1Intra | shortP2Intra | openP1 | openP2 | foreignV
  deriving DecidableEq, Repr

/-- What a start finds (R49, R53, R414, R434, R445, R456): the parts that no rule lets the model compute. -/
structure StartInfo where
  /-- BOOT_SEL0 and BOOT_SEL1 as sampled (R53) -/
  sel0 : Bool
  sel1 : Bool
  /-- the root was reconstructed (R414) -/
  rootOk : Bool
  /-- slots, as image and B-slot flag, whose stored bytes no longer pass R439 -/
  badSlots : List (Image × Bool)
  /-- the HMAC of the anti-rollback record verifies (R445) -/
  arbOk : Bool
  /-- SEQ of a journal record whose bytes in MRAM are damaged, if there is one (R34, EV007) -/
  journalBad : Option Word
  /-- lanes that fail the power-up lane BIST (R186) -/
  laneFails : List (Fin 68)
  /-- SRAM instances with soft repair, and pages with an instance beyond repair (R456) -/
  softRepairs : Nat
  unrepaired : List (Fin 256)
  /-- calibration sets, as KIND, INSTANCE and POINT, whose bytes no longer match their CHECK (R459) -/
  calBad : List (Fin 3 × Fin 4 × Fin 16)
  /-- tamper sources active at the start (R428) -/
  tamper : BitVec 7
  deriving DecidableEq, Repr

/-- A PRT request datagram, field by field (R103). The opcode is the command's own. -/
structure PrtReq where
  /-- the ETH port on which it comes, its destination address and UDP port, and the address and port that it comes from; an IPv4 address is held in the low 32
  bits (R102) -/
  eth : Fin 4
  v6 : Bool
  dst : BitVec 128
  udpPort : BitVec 16
  src : BitVec 128
  srcPort : BitVec 16
  /-- datagram length in bytes -/
  len : Nat
  version : Byte
  client : Fin 8
  /-- bits 7:3 of byte 2 and FLAGS, reserved -/
  clientRsv : BitVec 5
  flags : Byte
  count : BitVec 16
  rsv1 : BitVec 16
  seq : BitVec 64
  addr : Word
  table : Byte
  rsv2 : BitVec 24
  data : List Word
  tag : List Byte
  deriving DecidableEq, Repr

/-- How a PTP message travels (R121): UDP over IPv4 or IPv6, or directly on Ethernet. -/
inductive PtpTransport where
  | udp4 | udp6 | ethernet
  deriving DecidableEq, Repr

/-- A PTP Announce data set (R121, IEEE 1588 default data set comparison), with the ETH port and the transport that it comes by and its logMessageInterval. -/
structure Announce where
  port : Fin 4
  transport : PtpTransport
  logInterval : Int
  priority1 : Nat
  clockClass : Nat
  accuracy : Nat
  variance : Nat
  priority2 : Nat
  gmIdentity : BitVec 64
  stepsRemoved : Nat
  sender : BitVec 80
  domain : Byte
  /-- current UTC offset, s -/
  utcOffset : Int
  deriving DecidableEq, Repr

/-- The PTP messages that an instance sends (R121): Sync and Announce, Delay_Req, the Delay_Resp to a request (its port identity and sequenceId), a request for unicast
transmission. -/
inductive PtpMsg where
  | sync | announce | delayReq
  | delayResp (req : BitVec 80) (seq : BitVec 16)
  | unicastReq
  deriving DecidableEq, Repr

/-- What one PTP exchange with the master gives (R119, R121): the Sync with its Follow_Up, if it is a two-step one, and the Delay_Req with its Delay_Resp. Times in ns: `t1`
and `t4` the master's, `t2` and `t3` the module's stamps on the time base that is measured; corrections as the messages give them. -/
structure PtpExchange where
  port : Fin 4
  transport : PtpTransport
  domain : Byte
  sender : BitVec 80
  /-- logMessageInterval of the Sync messages -/
  logSync : Int
  twoStep : Bool
  followUp : Bool
  t1 : Int
  t2 : Int
  t3 : Int
  t4 : Int
  syncCorr : Int
  delayCorr : Int
  /-- the ST 2059-2 synchronization metadata TLV, where the master has sent it -/
  sm : Option (List Byte)
  deriving DecidableEq, Repr

/-- A measurement of a source (R119): a PTP exchange, or the reference edge captured last. -/
inductive Measurement where
  | ptp (x : PtpExchange)
  | edge
  deriving DecidableEq, Repr

/-- One ST 2110-20 packet of a stream: the fields of R148 to R151 and R328 that matter, and its pixel octets. -/
structure VinPacket where
  /-- RTP timestamp of its picture -/
  rtpTs : Word
  /-- 32-bit extended sequence number -/
  seq : Word
  /-- picture width and height it was packed for, and whether sampling is 4:2:2 10-bit narrow -/
  width : Nat
  height : Nat
  sampling422 : Bool
  /-- progressive scan (R148) -/
  progressive : Bool
  /-- line and first pixel of its sample row data, and the pgroup octets -/
  line : Nat
  offset : Nat
  octets : List Byte
  /-- first and last packet of its picture -/
  first : Bool
  last : Bool
  deriving DecidableEq, Repr

/-- An sACN data packet (R163). -/
structure SacnPacket where
  /-- ETH port that it came in on, and whether it was sent to the port's own address (R164) -/
  port : Fin 4
  unicast : Bool
  uni : Nat
  cid : BitVec 128
  prio : Nat
  seq : Byte
  syncAddr : Nat
  startCode : Byte
  preview : Bool
  terminated : Bool
  slots : List Byte
  deriving DecidableEq, Repr

/-- A source of a universe (R165, R167): an sACN sender by its CID, or a DMX input. -/
inductive UniSender where
  | cid (c : BitVec 128)
  | dmx (n : Fin 4)
  deriving DecidableEq, Repr

/-- An ST 2110-30 packet (R169): RTP timestamp of its first frame, samples by frame and channel, signed. -/
structure AudPacket where
  channels : Nat
  seq : BitVec 16
  ts : Word
  frames : List (List Int)
  deriving DecidableEq, Repr

/-- What a TDR echo comes from (R256). -/
inductive TdrKind where
  | opened | short | rise | fall
  deriving DecidableEq, Repr

/-- An echo of a TDR run (R245): round trip in ps, its kind, its reflection coefficient in 1/1000. -/
structure TdrEcho where
  trip : Nat
  kind : TdrKind
  refl : Int
  deriving DecidableEq, Repr

/-- A leakage measurement (R247): the readings of each pair under +12 V and under -12 V, in kOhm. -/
structure LeakReadings where
  p1Plus : Nat
  p1Minus : Nat
  p2Plus : Nat
  p2Minus : Nat
  deriving DecidableEq, Repr

/-- What a domino count found (R289, R290). -/
inductive DomCount where
  | length (stages : Fin 6145)
  | fault (bit : Fin 8)
  deriving DecidableEq, Repr

/-- An RDM response as the port decodes it (R301, R302). -/
inductive RdmAnswer where
  | ack | ackTimer | nack | ackOverflow | badSum
  deriving DecidableEq, Repr

/-- A received Ethernet frame (R312 to R318): its bytes from the destination address to the end of the payload, with its tag and without its FCS; whether the FCS is
right; whether it came in preemption fragments. -/
structure EthFrame where
  bytes : List Byte
  fcsOk : Bool
  frag : Bool
  deriving DecidableEq, Repr

/-- Which queue a queue command names: one of 256 on-die queues or of 16,384 cell-pool queues (R336, R338). -/
inductive QueueId where
  | onDie (q : Fin 256)
  | pool (q : Fin 16384)
  deriving DecidableEq, Repr

/-- What a cell ECC error is (R341). -/
inductive CellError where
  | corrected
  | uncorrData
  | uncorrLink
  deriving DecidableEq, Repr

/-- What the internal tamper sources see (R426): AON supply in mV, length of a glitch in ns, AON_TEMP in 0.125 degC, time in us for which the 32.768 kHz oscillator has stood still, whether the
active shield is broken. -/
structure TamperInputs where
  mv : Nat
  glitch : Nat
  temp : BitVec 16
  still : Nat
  shield : Bool
  deriving DecidableEq, Repr

/-- Destination address of a received radio frame (R356). -/
inductive RadAddr where
  | absent
  | short (a : BitVec 16)
  | ext (a : BitVec 64)
  deriving DecidableEq, Repr

/-- What the receiver reads of a radio frame beside the fields that a command names (R350, R353, R356, R375): frame version, auxiliary security header, destination PAN and address, TYPE, length
of the MAC payload, RSSI in signed dBm. -/
structure RadHead where
  version : BitVec 2
  secured : Bool
  pan : BitVec 16
  dst : RadAddr
  type : Byte
  bytes : Nat
  rssi : BitVec 8
  deriving DecidableEq, Repr

/-- A Pleano fleet record without its TYPE, which the command names (R376). -/
structure FleetRec where
  flags : Byte
  id : BitVec 24
  key : Byte
  rsv : BitVec 16
  seq : Word
  /-- bytes 12 to 51 -/
  body : List Byte
  /-- bytes 52 to 63 -/
  tag : List Byte
  deriving DecidableEq, Repr

/-- The sender of a fleet record (R377). -/
inductive FleetVia where
  /-- the node or gateway named by ID -/
  | node
  /-- the host client of FLT.HOST_CFG -/
  | hostClient
  deriving DecidableEq, Repr

/-- The datagram that a record came in (R380): ETH port, whether it is IPv6, source address, UDP destination port, and the bytes before its records; `records` is the number of whole records
that follow. -/
structure FleetDgram where
  eth : Fin 4
  v6 : Bool
  src : BitVec 128
  port : BitVec 16
  head : List Byte
  records : Nat
  deriving DecidableEq, Repr

/-- The way a fleet record came (R380). -/
inductive FleetPath where
  | gyzor
  | udp (d : FleetDgram)
  deriving DecidableEq, Repr

/-- An EDUP path (R328). -/
inductive EdupPath where
  | a | b
  deriving DecidableEq, Repr

/-- Readings of one metered phase (R484). -/
structure PhaseReading where
  vRms : Word
  iRms : Word
  p : Word
  q : Word
  s : Word
  pf : BitVec 16
  deriving DecidableEq, Repr, Inhabited

/-- The commands. Each constructor is one row of spec/opcode_table.json; docstrings cite the row's rule. -/
inductive Instr where
  /-- REGISTER_WRITE (R8, R75, R77): the upper word of a 64-bit access, if it is one, the bits that hardware sets in the register in the same cycle, and the writes of
  other requesters to the page (requester, address, value) that arrive in the same cycle -/
  | registerWrite (r : Requester) (addr : Word) (v : Word) (hi : Option Word) (sets : Word) (same : List (Requester × Word × Word))
  /-- BAD_ACCESS (R75): byte address and byte enables as they came -/
  | badAccess (r : Requester) (write : Bool) (addr : Word) (strobe : BitVec 4) (v : Word)
  /-- ENABLE_SET (R81) -/
  | enableSet (r : Requester) (pg : Fin 256)
  /-- ENABLE_CLEAR (R81) -/
  | enableClear (r : Requester) (pg : Fin 256)
  /-- SOFT_RESET (R81) -/
  | softReset (r : Requester) (pg : Fin 256)
  /-- BIST_REQ (R450) -/
  | bistReq (r : Requester) (pg : Fin 256)
  /-- SWAP_REQ (R20, R85) -/
  | swapReq (r : Requester) (pg : Fin 256)
  /-- BANK_SWAP (R85) -/
  | bankSwap (pg : Fin 256)
  /-- CTL_HOLD_SET (R81) -/
  | ctlHoldSet (r : Requester) (pg : Fin 256)
  /-- CTL_HOLD_CLEAR (R81) -/
  | ctlHoldClear (r : Requester) (pg : Fin 256)
  /-- BLOCK_STARTUP_DONE (R81) -/
  | blockStartupDone (pg : Fin 256)
  /-- BLOCK_SHUTDOWN_DONE (R81) -/
  | blockShutdownDone (pg : Fin 256)
  /-- EVT_CLR (R95): mask written, and causes that occur in the same cycle -/
  | evtClr (r : Requester) (pg : Fin 256) (mask : Word) (causes : Word)
  /-- SWGEN_SET (R99) -/
  | swgenSet (r : Requester) (source : Fin 256)
  /-- SWGEN_CLR (R99) -/
  | swgenClr (r : Requester) (source : Fin 256)
  /-- EVT_PULSE_END (R107) -/
  | evtPulseEnd (pin : EvtPin)
  /-- TABLE_WINDOW_WRITE (R91): byte offset in BAR2, bytes -/
  | tableWindowWrite (off : Nat) (bytes : List Byte)
  /-- DOORBELL_WRITE (R92): queue, descriptor, whether the write is 64 bits wide -/
  | doorbellWrite (q : Fin 16384) (desc : DWord) (wide : Bool)
  /-- PRT_READ (R103) -/
  | prtRead (q : PrtReq)
  /-- PRT_WRITE (R105) -/
  | prtWrite (q : PrtReq)
  /-- PRT_READ_TABLE (R103) -/
  | prtReadTable (q : PrtReq)
  /-- PRT_WRITE_TABLE (R103) -/
  | prtWriteTable (q : PrtReq)
  /-- PRT_NOP (R103) -/
  | prtNop (q : PrtReq)
  /-- PRT_BAD_OPCODE (R103): the opcode received -/
  | prtBadOpcode (op : Byte) (q : PrtReq)
  /-- CLIENT_CFG_WRITE (R106) -/
  | clientCfgWrite (r : Requester) (c : Fin 8) (v : Word)
  /-- PROC_WATCHDOG_RESET (R14) -/
  | procWatchdogReset (p : Proc)
  /-- PROC_RESTARTED (R31, R34): SEQ of a damaged journal record, if there is one -/
  | procRestarted (p : Proc) (journalBad : Option Word)
  /-- RECOVERY_WINDOW_END (R31) -/
  | recoveryWindowEnd (pg : Fin 256)
  /-- CORRECTED_ERROR (R31) -/
  | correctedError (site : EccSite)
  /-- UNCORRECTABLE_ERROR (R31) -/
  | uncorrectableError (site : EccSite)
  /-- TABLE_RELOAD_DONE (R31) -/
  | tableReloadDone (site : EccSite)
  /-- SOLVER_REBUILD_DONE (R228) -/
  | solverRebuildDone (p : Fin 4096)
  /-- AON_POWER_ON (R49): tamper sources active at the power-on -/
  | aonPowerOn (tamper : BitVec 7)
  /-- MAINS_GOOD (R467) -/
  | mainsGood (i : StartInfo)
  /-- DRAM_TRAINING_DONE (R49) -/
  | dramTrainingDone (ok : Bool)
  /-- BRINGUP_END (R49) -/
  | bringupEnd
  /-- MODE_REQ (R49) -/
  | modeReq (r : Requester) (v : Word)
  /-- MODE_TRANSITION_DONE (R50) -/
  | modeTransitionDone
  /-- DOZE_AUTO_REQUEST (R52) -/
  | dozeAutoRequest
  /-- WAKE (R54): the source's bit in WAKE_EN -/
  | wake (src : Fin 9)
  /-- POWER_FAIL_WARNING (R56) -/
  | powerFailWarning
  /-- VBAT_CHANGEOVER (R42): the time since the warning that AON measured, µs -/
  | vbatChangeover (holdup : Word)
  /-- MRST_N_ASSERT (R62) -/
  | mrstAssert
  /-- MRST_N_RELEASE (R53) -/
  | mrstRelease (i : StartInfo)
  /-- RESET_REQ_MODULE (R62) -/
  | resetReqModule (r : Requester) (i : StartInfo)
  /-- DIE_TEMP_WARNING (R63): die temperature, 0.125 degC -/
  | dieTempWarning (t : BitVec 16)
  /-- THERMAL_STOP (R63) -/
  | thermalStop (t : BitVec 16)
  /-- THERMAL_RESTART (R49): AON temperature, 0.125 degC -/
  | thermalRestart (t : BitVec 16) (i : StartInfo)
  /-- PLL_LOCK_LOSS (R45) -/
  | pllLockLoss (p : Pll)
  /-- PLL_LOCK_TIMEOUT (R45) -/
  | pllLockTimeout (p : Pll)
  /-- PLL_LOCK (R45) -/
  | pllLock (p : Pll)
  /-- HF_OSC_FAULT (R45): whether it falls during a radio exchange -/
  | hfOscFault (inExchange : Bool)
  /-- HF_OSC_RETRY (R45): whether the oscillator is stable now -/
  | hfOscRetry (stable : Bool)
  /-- XTAL32K_FAULT (R400) -/
  | xtal32kFault
  /-- RAIL_FAULT (R485): rail, measured mV -/
  | railFault (rail : Fin 8) (mv : BitVec 16)
  /-- PERST_N_DEASSERT (R59): SPEED 1 to 4 and WIDTH trained, and the configuration requests that come before HIF is READY, by register -/
  | perstDeassert (speed : BitVec 4) (width : BitVec 6) (cfg : List (Fin 1024))
  /-- INCR_FRAC_WRITE (R111) -/
  | incrFracWrite (r : Requester) (n : Fin 4) (v : Word)
  /-- INCR_INT_WRITE (R111) -/
  | incrIntWrite (r : Requester) (n : Fin 4) (v : Word)
  /-- ADJ_WRITE (R112) -/
  | adjWrite (r : Requester) (n : Fin 4) (v : Word)
  /-- TB_STEP (R112) -/
  | tbStep (n : Fin 4)
  /-- TB_WRAP (R113) -/
  | tbWrap (n : Fin 4)
  /-- TB_HALF (R113) -/
  | tbHalf (n : Fin 4)
  /-- SEC_PHASE_WRAP (R123) -/
  | secPhaseWrap (n : Fin 4)
  /-- PPS_OUT_END (R123) -/
  | ppsOutEnd
  /-- TIME_READ (R114) -/
  | timeRead (r : Requester) (n : Fin 4)
  /-- SRC_WRITE (R118) -/
  | srcWrite (r : Requester) (n : Fin 4) (v : Word)
  /-- FOLLOW_OFFSET_WRITE (R119) -/
  | followOffsetWrite (r : Requester) (n : Fin 4) (v : Word)
  /-- SERVO_MEASUREMENT (R119): what is measured, ns since the previous measurement -/
  | servoMeasurement (n : Fin 4) (m : Measurement) (t : Nat)
  /-- MEASUREMENT_TIMEOUT (R119) -/
  | measurementTimeout (n : Fin 4)
  /-- LEAP_SECOND (R120) -/
  | leapSecond (positive : Bool)
  /-- REF_EDGE_CAPTURE (R122): input, LTC time address and user bits -/
  | refEdgeCapture (k : Fin 5) (code : Word) (user : Word)
  /-- SNAP_REQ (R128) -/
  | snapReq (r : Requester) (n : Fin 4) (v : Word)
  /-- SNAP_CAPTURE (R128) -/
  | snapCapture
  /-- PTP_ANNOUNCE_RX (R121): instance (true is B), data set -/
  | ptpAnnounceRx (instB : Bool) (a : Announce)
  /-- PLAN_COMMIT (R21) -/
  | planCommit
  /-- COMMIT_GO (R201) -/
  | commitGo (r : Requester) (v : Word)
  /-- BANK_FLIP (R19) -/
  | bankFlip (pg : Fin 256)
  /-- COMMIT_COMPLETE (R19) -/
  | commitComplete
  /-- FRAME_ADMIT (R197): zone and grid index -/
  | frameAdmit (z : Fin 256) (k : Nat) (late : List (Fin 8))
  /-- LANE_TAKE_TILE (R188) -/
  | laneTakeTile (lane : Fin 68)
  /-- TILE_DONE (R189) -/
  | tileDone (lane : Fin 68)
  /-- LANE_ERROR (R187) -/
  | laneError (lane : Fin 68)
  /-- RENDER_DEADLINE (R198): zone and grid index -/
  | renderDeadline (z : Fin 256) (k : Nat)
  /-- ZCMD_HOLD (R204) -/
  | zcmdHold (r : Requester) (z : Fin 256) (now : Bool)
  /-- ZCMD_RELEASE_HOLD (R204) -/
  | zcmdReleaseHold (r : Requester) (z : Fin 256) (now : Bool)
  /-- ZCMD_BLACKOUT (R204) -/
  | zcmdBlackout (r : Requester) (z : Fin 256) (now : Bool)
  /-- ZCMD_RELEASE_BLACKOUT (R204) -/
  | zcmdReleaseBlackout (r : Requester) (z : Fin 256) (now : Bool)
  /-- ZCMD_BAD_OP (R204): the reserved OP written -/
  | zcmdBadOp (r : Requester) (z : Fin 256) (op : BitVec 4) (now : Bool)
  /-- ZCMD_APPLY (R204): zone and the grid index of its frame -/
  | zcmdApply (z : Fin 256) (k : Nat)
  /-- CUE_DATA_ACCESS (R176): a write of a value, or a read -/
  | cueDataAccess (r : Requester) (w : Option Word)
  /-- CUE_GO (R145) -/
  | cueGo (r : Requester) (v : Word)
  /-- CUE_SWAP (R145): zone and the grid index of its frame -/
  | cueSwap (z : Fin 256) (k : Nat)
  /-- S_CTL_WRITE (R149) -/
  | sCtlWrite (r : Requester) (s : Fin 8) (v : Word)
  /-- VIN_PACKET_RX (R151) -/
  | vinPacketRx (s : Fin 8) (p : VinPacket)
  /-- VIN_STREAM_LOST (R152) -/
  | vinStreamLost (s : Fin 8)
  /-- CLIP_LOAD (R158): clip number and file bytes -/
  | clipLoad (clip : BitVec 16) (file : List Byte)
  /-- CLIP_DELETE (R161) -/
  | clipDelete (r : Requester) (clip : BitVec 16)
  /-- CLIP_PRELOAD (R159) -/
  | clipPreload (r : Requester) (p : Fin 8)
  /-- CLIP_PRELOAD_DONE (R159) -/
  | clipPreloadDone (p : Fin 8)
  /-- CLIP_GO (R161) -/
  | clipGo (r : Requester) (p : Fin 8)
  /-- CLIP_STOP (R161) -/
  | clipStop (r : Requester) (p : Fin 8)
  /-- CLIP_PLAY_START (R160) -/
  | clipPlayStart (p : Fin 8)
  /-- SACN_PACKET_RX (R165) -/
  | sacnPacketRx (p : SacnPacket)
  /-- SACN_SYNC_RX (R166) -/
  | sacnSyncRx (addr : Nat)
  /-- SACN_SYNC_TIMEOUT (R166): input entry -/
  | sacnSyncTimeout (i : Fin 2048)
  /-- SACN_SOURCE_TIMEOUT (R165): input entry and source -/
  | sacnSourceTimeout (i : Fin 2048) (source : UniSender)
  /-- IN_DATA_ACCESS (R177) -/
  | inDataAccess (r : Requester) (w : Option Word)
  /-- AUD_PACKET_RX (R169) -/
  | audPacketRx (p : AudPacket)
  /-- AUD_BLOCK (R170) -/
  | audBlock
  /-- AUD_STREAM_LOST (R169) -/
  | audStreamLost
  /-- GM_DATA_ACCESS (R215) -/
  | gmDataAccess (r : Requester) (w : Option Word)
  /-- GM_GO (R216) -/
  | gmGo (r : Requester) (v : Word)
  /-- GM_SWAP (R216) -/
  | gmSwap
  /-- GM_OLD_BANK_RETIRE (R216) -/
  | gmOldBankRetire
  /-- RESID_SEL (R226) -/
  | residSel (r : Requester) (v : Word)
  /-- REPORT_STALE (R232): seconds without a heatsink report of the fixture -/
  | reportStale (f : Fin 131072) (seconds : Nat)
  /-- THM_REARM (R235) -/
  | thmRearm (r : Requester) (f : Fin 131072)
  /-- AUTO_REARM (R236): seconds for which REARM_OK has stayed 1 -/
  | autoRearm (f : Fin 131072) (seconds : Nat)
  /-- LINE_CHECKS_DONE (R243): faults found in LINE_FAULT order, polarity, swap, node answered, TDR of both pairs, line temperature -/
  | lineChecksDone (n : Fin 32) (faults : BitVec 8) (polInv swapped partner : Bool) (p1 p2 : List TdrEcho) (temp : BitVec 16)
  /-- TRAIN_DONE (R243): eye at both ends in 1/64 UI, line temperature, length in 0.5 m -/
  | trainDone (n : Fin 32) (eye eyeFar : BitVec 6) (temp : BitVec 16) (len : BitVec 12)
  /-- LINE_FAULT_RECHECK (R243): faults present at the check -/
  | lineFaultRecheck (n : Fin 32) (faults : BitVec 8)
  /-- LINE_CONDITION (R241) -/
  | lineCondition (n : Fin 32) (c : LineCond)
  /-- LOSS_OF_SIGNAL (R243) -/
  | lossOfSignal (n : Fin 32)
  /-- RETUNE_TRIGGER (R251): eye and temperature as measured now -/
  | retuneTrigger (n : Fin 32) (eye : BitVec 6) (temp : BitVec 16)
  /-- RETUNE_START (R252): whether no zone has struck for one second; the line temperature -/
  | retuneStart (n : Fin 32) (idle : Bool) (temp : BitVec 16)
  /-- RETUNE_DONE (R243) -/
  | retuneDone (n : Fin 32) (eye eyeFar : BitVec 6) (temp : BitVec 16)
  /-- REMEASURE (R257) -/
  | remeasure (r : Requester) (n : Fin 32)
  /-- RETUNE (R257) -/
  | retune (r : Requester) (n : Fin 32)
  /-- TDR (R246) -/
  | tdr (r : Requester) (n : Fin 32)
  /-- TDR_DONE (R245) -/
  | tdrDone (n : Fin 32) (p1 p2 : List TdrEcho)
  /-- LEAK (R247) -/
  | leak (r : Requester) (n : Fin 32)
  /-- LEAK_PERIOD (R247): seconds since the last measurement began -/
  | leakPeriod (n : Fin 32) (seconds : Nat)
  /-- LEAK_DONE (R249) -/
  | leakDone (n : Fin 32) (l : LeakReadings)
  /-- PIX_SEND (R262) -/
  | pixSend (n : Fin 32)
  /-- STRIKE_DEPART (R127) -/
  | strikeDepart (n : Fin 32)
  /-- SYNC_SEND (R267): ms since the port's last SYNC and since its last frame; on a ring, the departure at B less that at A, in ps (R286) -/
  | syncSend (n : Fin 32) (sinceSync sinceFrame : Nat) (skew : Word)
  /-- SYNC_RETURN (R267): whose SYNC arrives (true: the end's own), its SEQ and its flight time in 1/16 ns -/
  | syncReturn (n : Fin 32) (own : Bool) (seq : BitVec 16) (rt : Word)
  /-- ASSIGN_RETURN (R270): NEXT_ADDR that returns -/
  | assignReturn (n : Fin 32) (next : BitVec 16)
  /-- DESC_RX (R272): the address whose reply slot passes, and the code groups that the port end receives in it (R258) -/
  | descRx (n : Fin 32) (addr : Fin 4096) (codes : List (BitVec 10))
  /-- REPLY_SLOT_MISS (R272) -/
  | replySlotMiss (n : Fin 32) (addr : Fin 4096)
  /-- REENUM (R285) -/
  | reenum (r : Requester) (n : Fin 32)
  /-- RESEND_CONFIG (R285) -/
  | resendConfig (r : Requester) (n : Fin 32)
  /-- POLL_CYCLE (R277): ms since the last poll -/
  | pollCycle (n : Fin 32) (ms : Nat)
  /-- NODE_STATUS_RX (R277): the address whose reply slot passes, and the code groups that the port end receives in it (R258) -/
  | nodeStatusRx (n : Fin 32) (addr : Fin 4096) (codes : List (BitVec 10))
  /-- SAFE_LOOK_RESEND (R265) -/
  | safeLookResend
  /-- RING_ENABLE (R282) -/
  | ringEnable (r : Requester) (k : Fin 16) (v : Word)
  /-- RING_DISABLE (R282) -/
  | ringDisable (r : Requester) (k : Fin 16) (v : Word)
  /-- DOM_RECOUNT (R289) -/
  | domRecount (r : Requester) (n : Fin 16)
  /-- DOM_COUNT_DONE (R289) -/
  | domCountDone (n : Fin 16) (c : DomCount)
  /-- DOM_FAULT_RECHECK (R290): faults present at the check -/
  | domFaultRecheck (n : Fin 16) (faults : BitVec 8)
  /-- DOM_SHIFT_START (R292, R293): the stages that leave on RET during the shift -/
  | domShiftStart (n : Fin 16) (ret : List (BitVec 64))
  /-- DOM_LAT (R292) -/
  | domLat (n : Fin 16)
  /-- DMX_ALIGNED_PACKET (R296) -/
  | dmxAlignedPacket (n : Fin 4)
  /-- DMX_REPEAT (R297): break of the next aligned packet, if one is due -/
  | dmxRepeat (n : Fin 4) (nextBreak : Option Word)
  /-- DMX_PACKET_RX (R299): break and mark after break in us, start code, slots, framing error -/
  | dmxPacketRx (n : Fin 4) (brk mab : Nat) (startCode : Byte) (slots : List Byte) (framing : Bool)
  /-- DMX_LINE_FAULT (R300): bit of LINE_FAULT, or 4 for an inverted idle line -/
  | dmxLineFault (n : Fin 4) (bit : Fin 5)
  /-- RDM_SEND (R302) -/
  | rdmSend (r : Requester) (n : Fin 4)
  /-- RDM_DISCOVER (R301) -/
  | rdmDiscover (r : Requester) (n : Fin 4)
  /-- RDM_DISCOVERY_DONE (R301) -/
  | rdmDiscoveryDone (n : Fin 4) (uids : List (BitVec 48))
  /-- RDM_RESPONSE_RX (R302) -/
  | rdmResponseRx (n : Fin 4) (a : RdmAnswer) (data : List Byte)
  /-- RDM_TIMEOUT (R302) -/
  | rdmTimeout (n : Fin 4)
  /-- RDM_NO_GAP (R302) -/
  | rdmNoGap (n : Fin 4)
  /-- UID_DATA_READ (R308) -/
  | uidDataRead (r : Requester) (n : Fin 4)
  /-- AIN_UPDATE (R303): the latest samples, in 0.5 mV or 1 µA, signed; whether the test current finds a path -/
  | ainUpdate (i : Fin 8) (samples : List Int) (path : Bool)
  /-- DIN_EDGE (R304): the voltage of the input in mV, and the current that it reads in MONITOR mode in µA -/
  | dinEdge (j : Fin 8) (mv : Int) (ua : Nat)
  /-- ACT_GO (R305) -/
  | actGo (r : Requester) (v : Word)
  /-- ACT_APPLY (R305) -/
  | actApply
  /-- ACT_FAULT (R305): output and status bit 1 OPEN, 2 SHORT, 3 REVERSED -/
  | actFault (m : Fin 4) (kind : Fin 3)
  /-- ACT_CLEAR (R305) -/
  | actClear (r : Requester) (v : Word)
  /-- ETH_LINK_CHANGE (R310): new state, SPEED code, FEC running -/
  | ethLinkChange (n : Fin 4) (up : Bool) (speed : BitVec 3) (fec : Bool)
  /-- ETH_FRAME_RX (R314) -/
  | ethFrameRx (n : Fin 4) (f : EthFrame)
  /-- ETH_FRAME_TX (R321) -/
  | ethFrameTx (n : Fin 4)
  /-- TSQ_POP (R126) -/
  | tsqPop (r : Requester) (n : Fin 4)
  /-- SFP_INSERT (R311): identifier names SFP or SFP28; diagnostics present -/
  | sfpInsert (n : Fin 2) (idOk diag : Bool)
  /-- SFP_REMOVE (R311) -/
  | sfpRemove (n : Fin 2)
  /-- SFP_TX_FAULT (R311) -/
  | sfpTxFault (n : Fin 2)
  /-- SFP_DIAG_POLL (R311) -/
  | sfpDiagPoll (n : Fin 2) (d0 d1 d2 : Word)
  /-- GATE_APPLY (R323) -/
  | gateApply (r : Requester) (n : Fin 4)
  /-- GATE_LIST_SWITCH (R323) -/
  | gateListSwitch (n : Fin 2)
  /-- GATE_INTERVAL_END (R322) -/
  | gateIntervalEnd (n : Fin 2)
  /-- PREEMPT_VERIFY (R324): whether the partner answered, and ms since the verify exchange began -/
  | preemptVerify (n : Fin 4) (ok : Bool) (ms : Nat)
  /-- PAUSE_RX (R325) -/
  | pauseRx (n : Fin 4) (quanta : BitVec 16)
  /-- PFC_RX (R325): priority enables and quanta -/
  | pfcRx (n : Fin 4) (en : BitVec 8) (quanta : BitVec 16)
  /-- PAUSE_EXPIRE (R325) -/
  | pauseExpire (n : Fin 4) (q : Fin 8)
  /-- PAUSE_WATCHDOG (R326) -/
  | pauseWatchdog (n : Fin 4) (q : Fin 8)
  /-- WAKE_MATCH_RX (R327): a frame that comes in DOZE -/
  | wakeMatchRx (n : Fin 4) (f : EthFrame)
  /-- EDUP_PACKET_RX (R328) -/
  | edupPacketRx (s : Fin 8) (path : EdupPath) (p : VinPacket)
  /-- EDUP_PATH_LOST (R329) -/
  | edupPathLost (s : Fin 8) (path : EdupPath)
  /-- EDUP_SKEW_UPDATE (R329): mean skew over the last second, µs -/
  | edupSkewUpdate (s : Fin 8) (skew : Int)
  /-- ITEM_ENQUEUE (R23) -/
  | itemEnqueue (q : QueueId) (item : DWord)
  /-- ITEM_DEQUEUE (R23) -/
  | itemDequeue (q : QueueId)
  /-- CELL_ALLOC (R339) -/
  | cellAlloc (q : Fin 16384)
  /-- FLUSH (R343) -/
  | flush (r : Requester) (q : Fin 16384)
  /-- FLUSH_APPLY (R25) -/
  | flushApply (q : Fin 16384)
  /-- POINTER_MISMATCH (R337): queue and side, true for the write pointers, and the frames, by zone and grid number, that lose items there (R31) -/
  | pointerMismatch (q : Fin 256) (writeSide : Bool) (lost : List (Fin 256 × Nat))
  /-- CELL_ECC_ERROR (R341): queue that holds the cell, cell, kind -/
  | cellEccError (q : Fin 16384) (cell : Fin 8388608) (kind : CellError)
  /-- SCRUB_PASS (R341): seconds since the last pass, cells that the pass found with a corrected error, and cells that failed -/
  | scrubPass (seconds : Nat) (corrected failed : List (Fin 8388608))
  /-- HOST_DMA_FETCH (R345): queue and the bytes read from host memory -/
  | hostDmaFetch (q : Fin 16384) (bytes : List Byte)
  /-- HOST_RX_FILL (R346): host ring index -/
  | hostRxFill (h : Fin 4)
  /-- HOST_DMA_ERROR (R347) -/
  | hostDmaError (q : Fin 16384)
  /-- BEACON_SEND (R358) -/
  | beaconSend
  /-- JOIN_REQ_RX (R359): the frame, its source's extended address, requested SAMPLE in ms, SFD stamp in TB3, whether RP's queue has room -/
  | joinReqRx (h : RadHead) (ext : BitVec 64) (sample : BitVec 16) (sfd : Word) (room : Bool)
  /-- SCHEDULED_TX (R361): child and channel energy at the CCA in signed dBm -/
  | scheduledTx (k : Fin 1024) (energy : BitVec 8)
  /-- WAKE_TRAIN_TX (R364): as SCHEDULED_TX -/
  | wakeTrainTx (k : Fin 1024) (energy : BitVec 8)
  /-- ACK_TIME_RX (R362): child, ERR in µs, SFD stamp in TB3 -/
  | ackTimeRx (k : Fin 1024) (err : BitVec 32) (sfd : Word)
  /-- ACK_TIMEOUT (R361) -/
  | ackTimeout (k : Fin 1024)
  /-- TULLE_FLEET_RX (R360): the frame, its source address as k above CHILD_BASE, event and phase, SFD stamp, record type and record, room in RP's queue -/
  | tulleFleetRx (h : RadHead) (k : Fin 1024) (event phase sfd : Word) (type : Byte) (rec : FleetRec) (room : Bool)
  /-- KEEPALIVE_RX (R362): as TULLE_FLEET_RX -/
  | keepaliveRx (h : RadHead) (k : Fin 1024) (event phase sfd : Word) (room : Bool)
  /-- CHILD_SUP_TIMEOUT (R365): child and the time since its last frame, ms -/
  | childSupTimeout (k : Fin 1024) (ms : Nat)
  /-- CHMAP_WRITE (R366): high word, value -/
  | chmapWrite (r : Requester) (high : Bool) (v : Word)
  /-- CHMAP_INSTANT (R366) -/
  | chmapInstant (k : Fin 1024)
  /-- RFE_CONFIG_WRITE (R351): 0 BAND_CFG, 1 CH0, 2 SPACING -/
  | rfeConfigWrite (r : Requester) (which : Fin 3) (v : Word)
  /-- SYNTH_UNLOCK (R358) -/
  | synthUnlock
  /-- DUTY_RELEASE (R371) -/
  | dutyRelease
  /-- CHILD_SEL (R373) -/
  | childSel (r : Requester) (v : Word)
  /-- MEMBER_ENABLE (R367) -/
  | memberEnable (r : Requester)
  /-- MEMBER_DISABLE (R367) -/
  | memberDisable (r : Requester)
  /-- MEMBER_SCAN_STEP (R367): ms on the present channel -/
  | memberScanStep (ms : Nat)
  /-- PARENT_BEACON_RX (R367): the frame, its source PAN and short address, DEPTH, INTERVAL ms, TIME, TB3 at its SFD -/
  | parentBeaconRx (h : RadHead) (pan short : BitVec 16) (depth : Byte) (interval : BitVec 16) (time sfd : Word)
  /-- PARENT_BEACON_MISS (R367) -/
  | parentBeaconMiss
  /-- MEMBER_JOIN_RSP (R367): the frame, RESULT and SHORT, SFD stamp, room in RP's queue -/
  | memberJoinRsp (h : RadHead) (result : Byte) (short : BitVec 16) (sfd : Word) (room : Bool)
  /-- MEMBER_JOIN_TIMEOUT (R367): ms since the JOIN_REQ -/
  | memberJoinTimeout (ms : Nat)
  /-- PARENT_SUP_TIMEOUT (R367): ms since the last parent beacon -/
  | parentSupTimeout (ms : Nat)
  /-- STATUS_RECORD (R378) -/
  | statusRecord (path : FleetPath) (rec : FleetRec)
  /-- PRESENCE_RECORD (R390) -/
  | presenceRecord (path : FleetPath) (rec : FleetRec)
  /-- SENSOR_RECORD (R389) -/
  | sensorRecord (path : FleetPath) (rec : FleetRec)
  /-- IMG_NACK (R394) -/
  | imgNack (path : FleetPath) (rec : FleetRec)
  /-- IMG_DONE (R394) -/
  | imgDone (path : FleetPath) (rec : FleetRec)
  /-- IMG_OFFER (R393) -/
  | imgOffer (path : FleetPath) (rec : FleetRec)
  /-- IMG_CHUNK (R393) -/
  | imgChunk (path : FleetPath) (rec : FleetRec)
  /-- IMG_SEAL (R393) -/
  | imgSeal (path : FleetPath) (rec : FleetRec)
  /-- REG_WRITE (R383) -/
  | regWrite (path : FleetPath) (rec : FleetRec)
  /-- REG_COMMIT (R383) -/
  | regCommit (path : FleetPath) (rec : FleetRec)
  /-- SCHED_SET (R385) -/
  | schedSet (path : FleetPath) (rec : FleetRec)
  /-- RULE_SET (R390) -/
  | ruleSet (path : FleetPath) (rec : FleetRec)
  /-- MB_GO (R380) -/
  | mbGo (r : Requester)
  /-- NODE_REPORT_TIMEOUT (R391): fleet ID and the time since the node was heard, s -/
  | nodeReportTimeout (f : Fin 131072) (seconds : Nat)
  /-- SCHEDULE_EVAL (R386) -/
  | scheduleEval
  /-- RAMP_TICK (R388) -/
  | rampTick
  /-- RULE_HOLD_END (R390) -/
  | ruleHoldEnd (rule : Fin 4096)
  /-- LOSS_PERIOD_END (R392): node energy in mWh with bracketing reports by fleet ID -/
  | lossPeriodEnd
  /-- IMG_START (R394) -/
  | imgStart (r : Requester)
  /-- IMG_STOP (R394) -/
  | imgStop (r : Requester)
  /-- IMG_DELETE (R394) -/
  | imgDelete (r : Requester)
  /-- IMG_ACTIVATE (R394) -/
  | imgActivate (r : Requester)
  /-- IMG_ROUND (R394) -/
  | imgRound
  /-- LOG_SEL (R395) -/
  | logSel (r : Requester) (v : Word)
  /-- GROUP_SEL (R396) -/
  | groupSel (r : Requester) (v : Word)
  /-- IMG_MAP_READ (R395) -/
  | imgMapRead (r : Requester)
  /-- RTC_SECOND (R401) -/
  | rtcSecond
  /-- SUBSEC_READ (R399) -/
  | subsecRead (r : Requester)
  /-- RTC_SET_GO (R402) -/
  | rtcSetGo (r : Requester)
  /-- RTC_SET_APPLY (R402) -/
  | rtcSetApply
  /-- RTC_SHIFT (R403) -/
  | rtcShift (r : Requester) (v : Word)
  /-- RTC_SHIFT_APPLY (R403) -/
  | rtcShiftApply
  /-- ALARM_ARM (R406) -/
  | alarmArm (r : Requester) (a : Fin 2)
  /-- ALARM_DISARM (R407) -/
  | alarmDisarm (r : Requester) (a : Fin 2)
  /-- ALARM_FIRE (R406) -/
  | alarmFire (a : Fin 2)
  /-- YEAR_WRAP (R398) -/
  | yearWrap
  /-- TRIM_SAMPLE (R409): AON temperature, 0.125 degC, and seconds since the last sample that gave an N -/
  | trimSample (temp : BitVec 16) (seconds : Nat)
  /-- TRIM_WINDOW (R408) -/
  | trimWindow
  /-- PERIODIC_WAKE (R410) -/
  | periodicWake
  /-- WAKE_PERIOD_WRITE (R410): to WAKE_CFG (false) or WAKE_PERIOD (true) -/
  | wakePeriodWrite (r : Requester) (period : Bool) (v : Word)
  /-- RTC_DISCIPLINE (R405): seconds since the last comparison -/
  | rtcDiscipline (seconds : Nat)
  /-- KEY_GENERATE (R415) -/
  | keyGenerate (r : Requester) (slot aux : BitVec 6)
  /-- KEY_DERIVE (R416) -/
  | keyDerive (r : Requester) (slot aux : BitVec 6)
  /-- KEY_IMPORT (R419) -/
  | keyImport (r : Requester) (slot aux : BitVec 6)
  /-- KEY_REVOKE (R421) -/
  | keyRevoke (r : Requester) (slot aux : BitVec 6)
  /-- KEY_FREE (R419) -/
  | keyFree (r : Requester) (slot aux : BitVec 6)
  /-- GCM_ENCRYPT (R419) -/
  | gcmEncrypt (r : Requester) (slot aux : BitVec 6)
  /-- GCM_DECRYPT (R419) -/
  | gcmDecrypt (r : Requester) (slot aux : BitVec 6)
  /-- HMAC (R419) -/
  | hmac (r : Requester) (slot aux : BitVec 6)
  /-- HMAC_VERIFY (R419) -/
  | hmacVerify (r : Requester) (slot aux : BitVec 6)
  /-- SHA_256 (R419) -/
  | sha256 (r : Requester) (slot aux : BitVec 6)
  /-- ECDSA_SIGN (R419) -/
  | ecdsaSign (r : Requester) (slot aux : BitVec 6)
  /-- ECDSA_VERIFY (R419) -/
  | ecdsaVerify (r : Requester) (slot aux : BitVec 6)
  /-- PUBKEY (R419) -/
  | pubkey (r : Requester) (slot aux : BitVec 6)
  /-- ATTEST (R425) -/
  | attest (r : Requester) (slot aux : BitVec 6)
  /-- RANDOM (R419) -/
  | random (r : Requester) (slot aux : BitVec 6)
  /-- KEY_OP_DONE (R419) -/
  | keyOpDone
  /-- KEY_REMASK (R423): ms since the last pass -/
  | keyRemask (ms : Nat)
  /-- SLOT_SEL (R435) -/
  | slotSel (r : Requester) (v : Word)
  /-- TAMPER_SAMPLE (R426): ms since the last sample, resistance to ground at TAMP_LOOP_A and TAMP_LOOP_B in ohms, bits of the mesh pattern that do not return as driven -/
  | tamperSample (ms loopA loopB : Nat) (mesh : BitVec 16)
  /-- TAMPER_DETECT (R426, R428): what the internal sources see -/
  | tamperDetect (x : TamperInputs)
  /-- SAFE_DATA_ACCESS (R436) -/
  | safeDataAccess (r : Requester) (w : Option Word)
  /-- SAFE_SEAL (R430) -/
  | safeSeal (r : Requester)
  /-- SAFE_SEAL_DONE (R430) -/
  | safeSealDone
  /-- ROW_SEL (R437) -/
  | rowSel (r : Requester) (v : Word)
  /-- BURN_ARM (R433) -/
  | burnArm (r : Requester) (v : Word)
  /-- BURN_ARM_EXPIRE (R433) -/
  | burnArmExpire
  /-- BURN_ROW (R433) -/
  | burnRow (r : Requester)
  /-- BURN_SEAL (R433) -/
  | burnSeal (r : Requester)
  /-- BURN_TAMP_WIPE (R433) -/
  | burnTampWipe (r : Requester)
  /-- BURN_TAMP_FORCE (R433) -/
  | burnTampForce (r : Requester)
  /-- BURN_JTAG_LOCK (R433) -/
  | burnJtagLock (r : Requester)
  /-- BURN_CONSOLE_LOCK (R433) -/
  | burnConsoleLock (r : Requester)
  /-- BURN_DONE (R437): whether the burned copy verifies -/
  | burnDone (ok : Bool)
  /-- LOAD_BEGIN (R440) -/
  | loadBegin (r : Requester)
  /-- LOAD_PUSH (R440) -/
  | loadPush (r : Requester) (v : Word)
  /-- LOAD_END (R440) -/
  | loadEnd (r : Requester)
  /-- LOAD_ABORT (R440) -/
  | loadAbort (r : Requester)
  /-- LOAD_CHECK_DONE (R440) -/
  | loadCheckDone
  /-- ACTIVATE (R442) -/
  | activate (r : Requester)
  /-- ACTIVATION_PAUSE_END (R447): length of the pause in µs -/
  | activationPauseEnd (us : Word)
  /-- COMMIT (R443) -/
  | commit (r : Requester)
  /-- UPD_COMMIT_DONE (R443) -/
  | updCommitDone
  /-- REVERT (R444) -/
  | revert (r : Requester)
  /-- TRIAL_EXPIRE (R444) -/
  | trialExpire
  /-- BIST_RUN (R450) -/
  | bistRun (r : Requester)
  /-- BIST_DONE (R453): 0 pass, 1 pass repaired, 2 fail; coverage in 0.01 %, µs -/
  | bistDone (outcome : Fin 3) (coverage : BitVec 14) (us : Word)
  /-- REPAIR_BURN (R457) -/
  | repairBurn (r : Requester)
  /-- LANE_TEST_START (R455): seconds since the last test -/
  | laneTestStart (seconds : Nat)
  /-- LANE_TEST_DONE (R455) -/
  | laneTestDone (pass : Bool)
  /-- CAL_SEL (R460) -/
  | calSel (r : Requester) (v : Word)
  /-- CAL_WRITE (R460) -/
  | calWrite (r : Requester)
  /-- CAL_CLEAR (R460) -/
  | calClear (r : Requester)
  /-- CAL_RUN (R461): measured temperature, whether a reference is present -/
  | calRun (r : Requester) (temp : BitVec 16) (reference : Bool)
  /-- CAL_RUN_DONE (R461): what was measured, quality, UTC s, aborted. GZ_EQ: the 12 coefficient words; MTR: V_RMS in mV, I_RMS in 0.1 mA and the signed phase in 0.001° of
  the reference, as the path reads them without a correction; RTC: the crystal's error, signed, 0.01 ppm -/
  | calRunDone (coef : List Word) (quality : Word) (when_ : Word) (aborted : Bool)
  /-- BROWNOUT (R467): RMS of the input over the last 100 ms, 0.1 V -/
  | brownout (rms : BitVec 16)
  /-- VBAT_SAMPLE (R485): mV -/
  | vbatSample (mv : BitVec 16)
  /-- AUX_OVERLOAD (R470): false AUX12, true AUX3V3; the current of the last 2 ms, mA -/
  | auxOverload (aux3v3 : Bool) (ma : Nat)
  /-- AUX_CLEAR (R470) -/
  | auxClear (r : Requester) (v : Word)
  /-- MTR_READING_UPDATE (R458, R471): phases as measured, before their correction, FREQ, rotation 1-2-3, the MTR die sensor in 0.125 °C -/
  | mtrReadingUpdate (p0 p1 p2 : PhaseReading) (freq : BitVec 16) (rotation : Bool) (die : BitVec 16)
  /-- MTR_ENERGY_UPDATE (R458, R471): per phase the mWh and mvarh of the 10 ms as measured, signed, before their correction, and the MTR die sensor in 0.125 °C -/
  | mtrEnergyUpdate (active reactive : List Int) (die : BitVec 16)
  /-- MTR_ENERGY_PERSIST (R473) -/
  | mtrEnergyPersist
  /-- IMP_LO_READ (R473) -/
  | impLoRead (r : Requester) (p : Fin 3)
  /-- AON_STATE_LOSS (R43) -/
  | aonStateLoss
  /-- PCIE_LINK_CHANGE (R101): new LINK_STATUS fields -/
  | pcieLinkChange (up : Bool) (speed : BitVec 4) (width : BitVec 6) (pm : BitVec 2)
  /-- LTC_OUT_FRAME (R123): time address supplied by SC -/
  | ltcOutFrame (n : Fin 4)
  /-- GATE_CYCLE (R278) -/
  | gateCycle (n : Fin 32)
  /-- REGISTER_READ (R75, R88, R93): whether the access is 64 bits wide -/
  | registerRead (r : Requester) (addr : Word) (wide : Bool)
  /-- TABLE_WINDOW_READ (R90): byte offset in BAR2, length -/
  | tableWindowRead (off : Nat) (len : Nat)
  /-- WAKE_N_PULSE_END (R479) -/
  | wakeNPulseEnd
  /-- PTP_MESSAGE_TX (R121): instance (true is B), message -/
  | ptpMessageTx (instB : Bool) (m : PtpMsg)
  deriving DecidableEq, Repr

end Sys2Proof
end

