-- ==== Sys2Proof/Config.lean ====
section
/-!
DEFINITION. What the spec leaves open: opaque constants and functions, so that no proof can rest on a value. Each is named in a log
entry. Free values drawn during a run are `freeWord n` and `freeBytes n k` for the counter `State.free` (DESIGN CHOICE, log entry 6).
-/
namespace Sys2Proof.Config

/-- ID.TYPE of a page (R78 gives the field and no value; DESIGN CHOICE, log entry 7). -/
opaque idType : Nat → BitVec 16

/-- CAP of a page (R78; DESIGN CHOICE, log entry 7). -/
opaque cap : Nat → Word

/-- The n-th free word (DESIGN CHOICE, log entry 6). -/
opaque freeWord : Nat → Word

/-- The n-th free byte string: byte k of it (DESIGN CHOICE, log entry 6). -/
opaque freeByte : Nat → Nat → Byte

/-- The root that KEY reconstructs (R414): 32 bytes that no rule gives. -/
opaque root : Nat → Byte

/-- The private key of the factory identity in slot 0 (R424). -/
opaque identity : Nat → Byte

/-- The PCIe Vendor ID (R89; DESIGN CHOICE, log entry 7). -/
opaque vendorId : BitVec 16

/-- The step of TB1, in ns, to which a received ST 2059-2 synchronization metadata TLV aligns it (R121): the spec does not say how (log entry 103). -/
opaque smAlign : List (BitVec 8) → Int

/-- The clockIdentity of PTP instance A or B (R121; PRESUMED, log entry 21). -/
opaque clockIdentity : Bool → BitVec 64

/-- The error of cos (2 pi x), of a square root and of exp (-x), held to 2^-40 where it is used (R138, R139, R225, R230, R231; PRESUMED, log entry 23). -/
opaque cosError : Rat → Rat
opaque rootError : Rat → Rat
opaque expError : Rat → Rat

/-- The errors of the EOTF of R153 for a TRANSFER code, held to 2^-40 where they are used (PRESUMED, log entry 23). -/
opaque eotfError : Nat → Rat × Rat × Rat → Rat × Rat × Rat

/-- How far T_J of a fixture lies from the rounded expression, in 0.125 degC, held to R230's 0.25 degC where it is used: fixture, T_UPD (PRESUMED, log entry 23). -/
opaque tjError : Nat → Word → Int

/-- The H.265 decoder (R155): Y, Cb and Cr of a pixel of a frame of a .plc file (PRESUMED, log entry 23). -/
opaque h265 : List Byte → Nat → Nat → Nat → Nat × Nat × Nat

/-- Chromaticity u', v' of a slot that achieves no light (R225 gives no value; DESIGN CHOICE, log entry 24). -/
opaque blackUv : Rat × Rat

/-- Whether 0 dBFS is the level of a full-scale sine, or else of a mean square of full scale (R170 does not say; log entry 110). -/
opaque dbfsSine : Bool

/-- Depth, and page of the consumer, of an on-die queue (R336, R337: the firmware that couples the two blocks fixes them; DESIGN CHOICE, log entry 41). -/
opaque onDie : Nat → Fin 64 × Fin 256

/-- DEPTH less 1, MIN, MAX, and the codes of PRODUCER and CONSUMER, that QM assigns at bring-up to a queue that is not a host queue (R344, R348; DESIGN CHOICE, log entry
41). -/
opaque poolAssign : Nat → Fin 65535 × Fin 8388609 × Fin 8388609 × Fin 14 × Fin 14

/-- The page of the block that consumes such a queue, whose CONSUMER code names a kind of block; none for a processor (R81, R349; DESIGN CHOICE, log entry 41). -/
opaque poolConsumer : Nat → Option (Fin 256)

/-- The multicast group of the fleet network, by IP version, if it has one (R313 names none; DESIGN CHOICE, log entry 121). -/
opaque fleetGroup : Bool → Option (BitVec 128)

/-- How a phase's readings follow from those measured under V_GAIN and I_GAIN, 2.22, and PHASE, 0.001 degrees, of its calibration (R458, R459 give the fields and not the
arithmetic; DESIGN CHOICE, log entry 125). -/
opaque mtrCorrect : Rat × Rat × Rat → PhaseReading → PhaseReading

/-- The mWh and mvarh of an interval under the same correction (DESIGN CHOICE, log entry 125). -/
opaque mtrEnergy : Rat × Rat × Rat → Int × Int → Int × Int

/-- SIGMA of a fit through two measurements, which leave no residual to estimate it from (R362; DESIGN CHOICE, log entry 44). -/
opaque sigmaOfTwo : Int × Int → Int × Int → Rat

/-- Octets of a Tulle frame's MAC header and FCS by the TYPE of its payload, 0 for an Enh-Ack (R353 to R357 spell WAKE only; DESIGN CHOICE, log entry 43). -/
opaque macOctets : Nat → Fin 64

/-- Local second of dusk (true) or dawn of a local day at a latitude beyond 60 degrees, none where the sun does not cross the zenith angle: SITE_LAT,
SITE_LON, ZENITH, offset of local time in s, day since 2000-01-01 (R387 bounds no error there; PRESUMED, log entry 23). -/
opaque sunFar : Bool → Int → Int → Nat → Int → Int → Option (Fin 86400)

/-- Error of dusk or dawn in s, held to R387's 60 s where it is used: SITE_LAT, SITE_LON, ZENITH, day (PRESUMED, log entry 23). -/
opaque sunError : Bool → Int → Int → Nat → Int → Int

end Sys2Proof.Config
end

