-- ==== Sys2Proof/Machine/Bits.lean ====
section
/-!
DEFINITION. Bit fields of words (R5), counters that saturate or wrap, serial-number comparison (R29), limits "taken as the nearer
limit", little-endian bytes, and small list helpers. Everything here is arithmetic: no state.
-/
namespace Sys2Proof.Machine

/-- Field [lo + len - 1 : lo] of a word, as a number (R5). -/
def fld (w : Word) (lo len : Nat) : Nat := (w.toNat / 2 ^ lo) % 2 ^ len

/-- The word with field [lo + len - 1 : lo] replaced by `v`. -/
def setFld (w : Word) (lo len v : Nat) : Word :=
  BitVec.ofNat 32 (w.toNat / 2 ^ (lo + len) * 2 ^ (lo + len) + v % 2 ^ len * 2 ^ lo + w.toNat % 2 ^ lo)

/-- Bit `n` of a word. -/
def bit (w : Word) (n : Nat) : Bool := w.getLsbD n

/-- The word with bit `n` set or cleared. -/
def setBit (w : Word) (n : Nat) (b : Bool) : Word :=
  if b then w ||| BitVec.ofNat 32 (2 ^ n) else w &&& ~~~ (BitVec.ofNat 32 (2 ^ n))

/-- A word of a number. -/
abbrev W (n : Nat) : Word := BitVec.ofNat 32 n

/-- 1 for true. -/
def b2n (b : Bool) : Nat := if b then 1 else 0

/-- A counter word that stays at its maximum (R66, R78). -/
def satInc (w : Word) : Word := if w = 0xFFFFFFFF then w else w + 1

/-- A counter word that gains `n` and stays at its maximum. -/
def satAdd (w : Word) (n : Nat) : Word :=
  if w.toNat + n ≥ 2 ^ 32 then 0xFFFFFFFF else W (w.toNat + n)

/-- A field counter that stays at its maximum. -/
def satIncFld (w : Word) (lo len : Nat) : Word :=
  if fld w lo len = 2 ^ len - 1 then w else setFld w lo len (fld w lo len + 1)

/-- `a` is before `b` in serial-number order on 32 bits (R16, R29): their difference taken as signed is negative. -/
def serialLt (a b : Word) : Bool := (a - b).toInt < 0

/-- `a` is at or after `b` (R116): `b` is due at `a`, or late by 1 to 2^31 ns. -/
def serialGe (a b : Word) : Bool := a == b || serialLt b a

/-- A value outside its range is taken as the nearer limit. -/
def clampN (lo hi v : Nat) : Nat := if v < lo then lo else if hi < v then hi else v

/-- As `clampN`, for signed values. -/
def clampI (lo hi v : Int) : Int := if v < lo then lo else if hi < v then hi else v

/-- The signed reading of a field of `len` bits. -/
def sfld (w : Word) (lo len : Nat) : Int :=
  let v := fld w lo len
  if 2 * v < 2 ^ len then (v : Int) else (v : Int) - 2 ^ len

/-- A signed number as a field of `len` bits. -/
def encS (len : Nat) (v : Int) : Nat := (v % (2 ^ len : Int)).toNat

/-- A signed number as a word, saturating at the limits of 32 bits that R119 names. -/
def satWord (v : Int) : Word := BitVec.ofInt 32 (clampI (-2147483647) 2147483647 v)

/-- Rounded to the nearest whole number, ties to even: `num / den` for a positive `den`. -/
def roundEven (num : Int) (den : Nat) : Int :=
  let q := num / (den : Int)
  let r := num % (den : Int)
  if 2 * r < den then q
  else if 2 * r > den then q + 1
  else if q % 2 = 0 then q else q + 1

/-- Rounded to the nearest whole number, ties up. -/
def roundUpHalf (num : Int) (den : Nat) : Int := (2 * num + den) / (2 * (den : Int))

/-- The little-endian bytes of a number, `n` of them (R5). -/
def leBytes (n v : Nat) : List Byte := (List.range n).map (fun i => BitVec.ofNat 8 (v / 256 ^ i))

/-- The number that little-endian bytes spell. -/
def ofLE : List Byte → Nat
  | [] => 0
  | b :: t => b.toNat + 256 * ofLE t

/-- Big-endian bytes of a number, `n` of them. -/
def beBytes (n v : Nat) : List Byte := (leBytes n v).reverse

/-- The number that big-endian bytes spell. -/
def ofBE (l : List Byte) : Nat := ofLE l.reverse

/-- Byte `i` of a list, 0 past its end. -/
def byteAt (l : List Byte) (i : Nat) : Nat := (l.getD i 0).toNat

/-- The little-endian number in bytes `i` to `i + n - 1`. -/
def leAt (l : List Byte) (i n : Nat) : Nat := ofLE ((l.drop i).take n)

/-- The signed little-endian number in bytes `i` to `i + n - 1`. -/
def sleAt (l : List Byte) (i n : Nat) : Int :=
  let v := leAt l i n
  if 2 * v < 256 ^ n then (v : Int) else (v : Int) - 256 ^ n

/-- A list of exactly `n` bytes: cut, or filled with zero. -/
def fitBytes (n : Nat) (l : List Byte) : List Byte := (l ++ List.replicate n 0).take n

/-- A list with element `i` replaced. -/
def setAt {α : Type} (l : List α) (i : Nat) (v : α) : List α :=
  l.take i ++ (if i < l.length then v :: l.drop (i + 1) else [])

/-- The set bits of a number below `n`, in ascending order. -/
def bitsOf (w n : Nat) : List Nat := (List.range n).filter (fun i => w.testBit i)

end Sys2Proof.Machine
end

