-- ==== Sys2Proof/Machine/Crypto.lean ====
section
/-!
DEFINITION. The algorithms that the spec names by standard: IEEE 802.3 CRC-32 (R34, R158, R433, R459), SHA-256 and HMAC (R104, R377,
R416, R419), AES-256 with GCM and key unwrap (R419), and ECDSA on P-256 (R419, R425, R434). From the standards (PRESUMED, log entry
13). Byte strings are lists, first byte first.
-/
namespace Sys2Proof.Machine.Crypto

/-! CRC-32. -/

/-- One bit of the reflected CRC-32. -/
def crcBit (c : Nat) : Nat := if c % 2 = 1 then (c / 2) ^^^ 0xEDB88320 else c / 2

/-- One byte. -/
def crcByte (c : Nat) (b : Byte) : Nat :=
  crcBit (crcBit (crcBit (crcBit (crcBit (crcBit (crcBit (crcBit (c ^^^ b.toNat))))))))

/-- IEEE 802.3 CRC-32 of a byte string. -/
def crc32 (l : List Byte) : Word := W ((l.foldl crcByte 0xFFFFFFFF) ^^^ 0xFFFFFFFF)

/-! SHA-256. -/

/-- The `k`-th root of a number, rounded down, bit by bit from bit `bits - 1`. -/
def rootDown (k n : Nat) : Nat → Nat → Nat
  | 0, x => x
  | b + 1, x => rootDown k n b (if (x + 2 ^ b) ^ k ≤ n then x + 2 ^ b else x)

/-- The first 32 bits of the fractional part of the `k`-th root of a number below 2^9: the constants of SHA-256 are made of these, of square roots and cube roots
of primes. -/
def rootBits (k p : Nat) : Word := W (rootDown k (p * 2 ^ (32 * k)) 38 0)

/-- The first 64 primes. -/
def primes64 : List Nat :=
  [2, 3, 5, 7, 11, 13, 17, 19, 23, 29, 31, 37, 41, 43, 47, 53] ++ [59, 61, 67, 71, 73, 79, 83, 89, 97, 101, 103, 107, 109, 113, 127, 131] ++
    [137, 139, 149, 151, 157, 163, 167, 173, 179, 181, 191, 193, 197, 199, 211, 223] ++
    [227, 229, 233, 239, 241, 251, 257, 263, 269, 271, 277, 281, 283, 293, 307, 311]

/-- The constants of the 64 rounds. -/
def shaK : List Word := primes64.map (rootBits 3)

/-- The eight working words. -/
structure Sha where
  a : Word
  b : Word
  c : Word
  d : Word
  e : Word
  f : Word
  g : Word
  h : Word
  deriving DecidableEq, Repr

/-- The eight words that a digest starts from. -/
def shaInit : Sha :=
  { a := rootBits 2 2, b := rootBits 2 3, c := rootBits 2 5, d := rootBits 2 7, e := rootBits 2 11, f := rootBits 2 13,
    g := rootBits 2 17, h := rootBits 2 19 }

def ror (x : Word) (n : Nat) : Word := x.rotateRight n

/-- One round with its constant plus schedule word. -/
def shaRound (s : Sha) (kw : Word) : Sha :=
  let t1 := s.h + (ror s.e 6 ^^^ ror s.e 11 ^^^ ror s.e 25) + ((s.e &&& s.f) ^^^ (~~~s.e &&& s.g)) + kw
  let t2 := (ror s.a 2 ^^^ ror s.a 13 ^^^ ror s.a 22) + ((s.a &&& s.b) ^^^ (s.a &&& s.c) ^^^ (s.b &&& s.c))
  { a := t1 + t2, b := s.a, c := s.b, d := s.c, e := s.d + t1, f := s.e, g := s.f, h := s.g }

/-- The schedule from a window of the latest sixteen words, oldest first: `n` further words. -/
def shaSchedule : Nat → List Word → List Word
  | 0, _ => []
  | n + 1, w =>
    let w0 := w.getD 0 0
    let w1 := w.getD 1 0
    let w14 := w.getD 14 0
    let s0 := ror w1 7 ^^^ ror w1 18 ^^^ (w1 >>> 3)
    let s1 := ror w14 17 ^^^ ror w14 19 ^^^ (w14 >>> 10)
    let x := w0 + s0 + w.getD 9 0 + s1
    x :: shaSchedule n (w.drop 1 ++ [x])

/-- The big-endian words of a byte string. -/
def beWords : Nat → List Byte → List Word
  | 0, _ => []
  | n + 1, l => W (ofBE (l.take 4)) :: beWords n (l.drop 4)

/-- One block of 64 bytes. -/
def shaBlock (s : Sha) (blk : List Byte) : Sha :=
  let w := beWords 16 blk
  let ws := w ++ shaSchedule 48 w
  let r := (shaK.zip ws).foldl (fun a p => shaRound a (p.1 + p.2)) s
  { a := s.a + r.a, b := s.b + r.b, c := s.c + r.c, d := s.d + r.d, e := s.e + r.e, f := s.f + r.f, g := s.g + r.g, h := s.h + r.h }

/-- All blocks, with fuel their number. -/
def shaBlocks : Nat → Sha → List Byte → Sha
  | 0, s, _ => s
  | n + 1, s, l => shaBlocks n (shaBlock s (l.take 64)) (l.drop 64)

/-- SHA-256 of a byte string: 32 bytes. -/
def sha256 (m : List Byte) : List Byte :=
  let pad := (119 - m.length % 64) % 64
  let l := m ++ (0x80 : Byte) :: List.replicate pad 0 ++ beBytes 8 (8 * m.length)
  let s := shaBlocks (l.length / 64) shaInit l
  ([s.a, s.b, s.c, s.d, s.e, s.f, s.g, s.h].map (fun w => beBytes 4 w.toNat)).flatten

/-- HMAC-SHA-256. -/
def hmac (key m : List Byte) : List Byte :=
  let k := fitBytes 64 (if key.length > 64 then sha256 key else key)
  sha256 (k.map (fun b => b ^^^ 0x5c) ++ sha256 (k.map (fun b => b ^^^ 0x36) ++ m))

/-! AES-256. -/

/-- Multiplication by x in GF(2^8). -/
def xtime (b : Nat) : Nat := if b < 128 then 2 * b else (2 * b - 256) ^^^ 0x1b

/-- Multiplication in GF(2^8), with fuel 8. -/
def gmul : Nat → Nat → Nat → Nat
  | 0, _, _ => 0
  | n + 1, a, b => (if b % 2 = 1 then a else 0) ^^^ gmul n (xtime a) (b / 2)

/-- Powers in GF(2^8). -/
def gpow (a : Nat) : Nat → Nat
  | 0 => 1
  | n + 1 => gmul 8 a (gpow a n)

def rotl8 (x n : Nat) : Nat := (x * 2 ^ n) % 256 + x / 2 ^ (8 - n)

/-- The AES S-box. -/
def sbox (x : Nat) : Nat :=
  let i := gpow x 254
  i ^^^ rotl8 i 1 ^^^ rotl8 i 2 ^^^ rotl8 i 3 ^^^ rotl8 i 4 ^^^ 0x63

/-- The S-box as a table. -/
def sboxTable : List Nat := (List.range 256).map sbox

def sub (b : Byte) : Byte := BitVec.ofNat 8 (sboxTable.getD b.toNat 0)

def xorBytes (a b : List Byte) : List Byte := (a.zip b).map (fun p => p.1 ^^^ p.2)

/-- The key schedule: from a window of eight words, oldest first, the n words that follow; `i` counts from 8. -/
def aesExpand : Nat → Nat → List (List Byte) → List (List Byte)
  | 0, _, _ => []
  | n + 1, i, w =>
    let t := w.getD 7 []
    let t' :=
      if i % 8 = 0 then xorBytes ((t.drop 1 ++ t.take 1).map sub) [BitVec.ofNat 8 (2 ^ (i / 8 - 1)), 0, 0, 0]
      else if i % 8 = 4 then t.map sub else t
    let x := xorBytes (w.getD 0 []) t'
    x :: aesExpand n (i + 1) (w.drop 1 ++ [x])

/-- Groups of n bytes, k of them. -/
def groups (n : Nat) : Nat → List Byte → List (List Byte)
  | 0, _ => []
  | k + 1, l => l.take n :: groups n k (l.drop n)

/-- The fifteen round keys of 16 bytes. -/
def aesKeys (key : List Byte) : List (List Byte) :=
  let w := groups 4 8 key
  groups 16 15 (w ++ aesExpand 52 8 w).flatten

def shiftRows (st : List Byte) : List Byte :=
  (List.range 16).map (fun i => st.getD ((i + 4 * (i % 4)) % 16) 0)

def mixColumn (c : List Byte) : List Byte :=
  let g := fun i => (c.getD (i % 4) 0).toNat
  (List.range 4).map (fun i =>
    BitVec.ofNat 8 (gmul 8 (g i) 2 ^^^ gmul 8 (g (i + 1)) 3 ^^^ g (i + 2) ^^^ g (i + 3)))

def mixColumns (st : List Byte) : List Byte := ((groups 4 4 st).map mixColumn).flatten

/-- AES-256 of one block under its round keys. -/
def aesWith (ks : List (List Byte)) (b : List Byte) : List Byte :=
  let st := xorBytes b (ks.getD 0 [])
  let st := ((ks.drop 1).take 13).foldl (fun s k => xorBytes (mixColumns (shiftRows (s.map sub))) k) st
  xorBytes (shiftRows (st.map sub)) (ks.getD 14 [])

def aes (key b : List Byte) : List Byte := aesWith (aesKeys key) b

/-- The inverse S-box. -/
def invSub (b : Byte) : Byte := BitVec.ofNat 8 (sboxTable.findIdx (fun x => x == b.toNat))

def invShiftRows (st : List Byte) : List Byte :=
  (List.range 16).map (fun i => st.getD ((i + 16 - 4 * (i % 4)) % 16) 0)

def invMixColumn (c : List Byte) : List Byte :=
  let g := fun i => (c.getD (i % 4) 0).toNat
  (List.range 4).map (fun i =>
    BitVec.ofNat 8 (gmul 8 (g i) 14 ^^^ gmul 8 (g (i + 1)) 11 ^^^ gmul 8 (g (i + 2)) 13 ^^^ gmul 8 (g (i + 3)) 9))

/-- The inverse cipher. -/
def aesInv (key b : List Byte) : List Byte :=
  let ks := aesKeys key
  let st := (xorBytes b (ks.getD 14 [])) |> invShiftRows |>.map invSub
  let st := (((ks.drop 1).take 13).reverse).foldl
    (fun s k => (invShiftRows (((groups 4 4 (xorBytes s k)).map invMixColumn).flatten)).map invSub) st
  xorBytes st (ks.getD 0 [])

/-! GCM with a 96-bit IV and a 16-byte tag. -/

/-- Multiplication in GF(2^128) of GCM: bit 0 is the most significant; `z` gathers, `v` doubles. -/
def ghashMul : Nat → Nat → Nat → Nat → Nat
  | 0, _, _, z => z
  | n + 1, x, v, z =>
    let z' := if x.testBit n then z ^^^ v else z
    let v' := if v % 2 = 1 then (v / 2) ^^^ (0xe1 * 2 ^ 120) else v / 2
    ghashMul n x v' z'

/-- GHASH over blocks of 16 bytes. -/
def ghash (h : Nat) : Nat → Nat → List Byte → Nat
  | 0, y, _ => y
  | n + 1, y, l => ghash h n (ghashMul 128 (y ^^^ ofBE (fitBytes 16 (l.take 16))) h 0) (l.drop 16)

def padBlocks (l : List Byte) : List Byte := fitBytes ((l.length + 15) / 16 * 16) l

/-- Counter mode from a counter block value. -/
def ctrMode (ks : List (List Byte)) : Nat → Nat → List Byte → List Byte
  | 0, _, _ => []
  | n + 1, c, l =>
    xorBytes (l.take 16) (aesWith ks (beBytes 16 c)) ++ ctrMode ks n (c / 2 ^ 32 * 2 ^ 32 + (c + 1) % 2 ^ 32) (l.drop 16)

/-- AES-256-GCM encryption: ciphertext and tag. -/
def gcm (key iv aad pt : List Byte) : List Byte × List Byte :=
  let ks := aesKeys key
  let h := ofBE (aesWith ks (List.replicate 16 0))
  let j0 := ofBE iv * 2 ^ 32 + 1
  let ct := ctrMode ks ((pt.length + 15) / 16) (j0 + 1) pt
  let auth := padBlocks aad ++ padBlocks ct ++ beBytes 8 (8 * aad.length) ++ beBytes 8 (8 * ct.length)
  let t := ghash h (auth.length / 16) 0 auth
  (ct, xorBytes (beBytes 16 t) (aesWith ks (beBytes 16 j0)))

/-- AES-256-GCM decryption: plaintext if the tag verifies. -/
def gcmOpen (key iv aad ct tag : List Byte) : Option (List Byte) :=
  let ks := aesKeys key
  let h := ofBE (aesWith ks (List.replicate 16 0))
  let j0 := ofBE iv * 2 ^ 32 + 1
  let auth := padBlocks aad ++ padBlocks ct ++ beBytes 8 (8 * aad.length) ++ beBytes 8 (8 * ct.length)
  let t := ghash h (auth.length / 16) 0 auth
  if xorBytes (beBytes 16 t) (aesWith ks (beBytes 16 j0)) = tag then
    some (ctrMode ks ((ct.length + 15) / 16) (j0 + 1) ct)
  else none

/-! AES key unwrap (RFC 3394). -/

/-- The unwrap steps j = 5 to 0, i = n to 1: `t` counts down from 6n. -/
def kwSteps (key : List Byte) (n : Nat) : Nat → List Byte → List (List Byte) → List Byte × List (List Byte)
  | 0, a, r => (a, r)
  | t + 1, a, r =>
    let i := t % n
    let b := aesInv key (beBytes 8 (ofBE a ^^^ (t + 1)) ++ r.getD i [])
    kwSteps key n t (b.take 8) (setAt r i (b.drop 8))

/-- AES key unwrap: the wrapped key if the integrity value is right. -/
def keyUnwrap (kek c : List Byte) : Option (List Byte) :=
  let n := c.length / 8 - 1
  if c.length % 8 ≠ 0 ∨ c.length < 24 then none
  else
    let (a, r) := kwSteps kek n (6 * n) (c.take 8) (groups 8 n (c.drop 8))
    if a = List.replicate 8 0xA6 then some r.flatten else none

/-! ECDSA on P-256. -/

def p256 : Nat := 0xffffffff00000001000000000000000000000000ffffffffffffffffffffffff
def n256 : Nat := 0xffffffff00000000ffffffffffffffffbce6faada7179e84f3b9cac2fc632551
def b256 : Nat := 0x5ac635d8aa3a93e7b3ebbd55769886bc651d06b0cc53b0f63bce3c3e27d2604b
def gx256 : Nat := 0x6b17d1f2e12c4247f8bce6e563a440f277037d812deb33a0f4a13945d898c296
def gy256 : Nat := 0x4fe342e2fe1a7f9b8ee7eb4a7c0f9e162bce33576b315ececbb6406837bf51f5

/-- b^e mod m, with fuel the bits of e. -/
def powMod (m : Nat) : Nat → Nat → Nat → Nat → Nat
  | 0, _, _, acc => acc
  | k + 1, b, e, acc => powMod m k (b * b % m) (e / 2) (if e % 2 = 1 then acc * b % m else acc)

/-- Inverse modulo a prime. -/
def invMod (m a : Nat) : Nat := powMod m 256 (a % m) (m - 2) 1

/-- Affine point addition; none is the point at infinity. -/
def ecAdd (P Q : Option (Nat × Nat)) : Option (Nat × Nat) :=
  match P, Q with
  | none, q => q
  | p, none => p
  | some (x1, y1), some (x2, y2) =>
    if x1 = x2 ∧ (y1 + y2) % p256 = 0 then none
    else
      let l := if x1 = x2 then (3 * x1 * x1 + p256 - 3) * invMod p256 (2 * y1) % p256
               else (y2 + p256 - y1) * invMod p256 (x2 + p256 - x1) % p256
      let x3 := (l * l + 2 * p256 - x1 - x2) % p256
      some (x3, (l * (x1 + p256 - x3) + p256 - y1) % p256)

/-- Scalar multiplication, with fuel the bits of the scalar. -/
def ecMul : Nat → Nat → Option (Nat × Nat) → Option (Nat × Nat)
  | 0, _, _ => none
  | k + 1, n, P => ecAdd (if n % 2 = 1 then P else none) (ecMul k (n / 2) (ecAdd P P))

def ecBase : Option (Nat × Nat) := some (gx256, gy256)

/-- A public point lies on the curve. -/
def onCurve (x y : Nat) : Bool :=
  x < p256 && y < p256 && y * y % p256 == (x * x * x + (p256 - 3) * x + b256) % p256

/-- The public key of a private scalar: X and Y, 64 bytes big-endian. -/
def ecPublic (d : Nat) : List Byte :=
  match ecMul 256 (d % n256) ecBase with
  | some (x, y) => beBytes 32 x ++ beBytes 32 y
  | none => List.replicate 64 0

/-- ECDSA signature over a digest with a nonce: r and s, 64 bytes. -/
def ecSign (d : Nat) (digest : List Byte) (k : Nat) : List Byte :=
  match ecMul 256 (k % n256) ecBase with
  | some (x, _) =>
    let r := x % n256
    let s := invMod n256 (k % n256) * (ofBE digest + r * d) % n256
    beBytes 32 r ++ beBytes 32 s
  | none => List.replicate 64 0

/-- ECDSA verification: public key X, Y of 64 bytes, digest, signature r, s of 64 bytes. -/
def ecVerify (pub digest sig : List Byte) : Bool :=
  let x := ofBE (pub.take 32)
  let y := ofBE (pub.drop 32)
  let r := ofBE (sig.take 32)
  let s := ofBE (sig.drop 32)
  if pub.length = 64 ∧ sig.length = 64 ∧ onCurve x y = true ∧ 0 < r ∧ r < n256 ∧ 0 < s ∧ s < n256 then
    let w := invMod n256 s
    match ecAdd (ecMul 256 (ofBE digest * w % n256) ecBase) (ecMul 256 (r * w % n256) (some (x, y))) with
    | some (px, _) => px % n256 == r
    | none => false
  else false

end Sys2Proof.Machine.Crypto
end

