-- ==== Sys2Proof/Machine/Sparse.lean ====
section
/-!
DEFINITION. Sparse tables: a list of key and value pairs in one canonical form, keys strictly rising and no entry equal to what an
unlisted key reads as. The registers, the tables of R90, the blocks, queues, slots and nodes are held so.
-/
namespace Sys2Proof.Machine

/-- A sparse table of values by key. -/
abbrev Sparse (α : Type) := List (Nat × α)

/-- The value at key `k`; `d k` where the table lists none. -/
def Sparse.get {α : Type} (d : Nat → α) : Sparse α → Nat → α
  | [], k => d k
  | (k', v) :: t, k => if k = k' then v else Sparse.get d t k

/-- The table with `v` listed at `k`. -/
def Sparse.put {α : Type} : Sparse α → Nat → α → Sparse α
  | [], k, v => [(k, v)]
  | (k', v') :: t, k, v =>
    if k < k' then (k, v) :: (k', v') :: t
    else if k = k' then (k, v) :: t
    else (k', v') :: Sparse.put t k v

/-- The table with nothing listed at `k`. -/
def Sparse.drop {α : Type} (m : Sparse α) (k : Nat) : Sparse α := m.filter (fun e => e.1 != k)

/-- A write: the canonical form stays, so a value equal to the unlisted one removes the entry. -/
def Sparse.set {α : Type} [DecidableEq α] (d : Nat → α) (m : Sparse α) (k : Nat) (v : α) : Sparse α :=
  if v = d k then Sparse.drop m k else Sparse.put m k v

/-- A change of the value at `k`. -/
def Sparse.upd {α : Type} [DecidableEq α] (d : Nat → α) (m : Sparse α) (k : Nat) (f : α → α) : Sparse α :=
  Sparse.set d m k (f (Sparse.get d m k))

/-- The keys at which two tables of words differ, with both values, the second table's keys first. -/
def Sparse.changes (d : Nat → Word) (a b : Sparse Word) : List (Nat × Word × Word) :=
  let keys := b.map (fun e => e.1) ++ (a.map (fun e => e.1)).filter (fun k => !b.any (fun e => e.1 == k))
  (keys.map (fun k => (k, Sparse.get d a k, Sparse.get d b k))).filter (fun e => e.2.1 != e.2.2)

/-- Keys strictly rising. -/
def Sparse.rising {α : Type} : Sparse α → Bool
  | [] => true
  | (k, _) :: t => t.all (fun e => k < e.1) && Sparse.rising t

/-- The canonical form. -/
def Sparse.wf {α : Type} [DecidableEq α] (d : Nat → α) (m : Sparse α) : Bool :=
  Sparse.rising m && m.all (fun e => e.2 != d e.1)

end Sys2Proof.Machine
end

