-- ==== Sys2Proof/Machine/Types.lean ====
section
/-!
DEFINITION. The types of the parts of State, family by family: modes, blocks, emissions, and the records of each family. Plain data
only. Nothing here has a meaning; the meanings are in the family files.
-/
namespace Sys2Proof.Machine

/-- The eight modes (R46). -/
inductive Mode where
  | cold | bringup | show_ | fleet | grow | doze | service | hold
  deriving DecidableEq, Repr

/-- The common header of a page, as far as it is state (R78-R80, R85). `ctlHi` is CTL[31:16]; `code` is STATE.CODE. -/
structure Block where
  enable : Bool
  hold : Bool
  ctlHi : BitVec 16
  code : Nat
  pendEnable : Bool
  stale : Bool
  swapPend : Bool
  spared : Bool
  evtRaw : Word
  evtEn : Word
  errCnt : Word
  bank : Bool
  swapCount : BitVec 16
  deriving DecidableEq, Repr

/-- A block that nothing has touched: OFF, CTL.ENABLE at its factory value 1, every other field 0 (R78-R80). -/
def Block.init : Block :=
  { enable := true, hold := false, ctlHi := 0, code := 0, pendEnable := false, stale := false, swapPend := false,
    spared := false, evtRaw := 0, evtEn := 0, errCnt := 0, bank := false, swapCount := 0 }

/-- A host access that waits for CTL to leave retention (R76). -/
inductive HostAccess where
  | read (addr : Nat)
  | write (addr : Nat) (v : Word)
  | doorbellRead (off : Nat) (wide : Bool)
  | tableRead (off len : Nat)
  | tableWrite (off : Nat) (bytes : List Byte)
  | doorbell (q : Nat) (desc : DWord) (wide : Bool)
  | badAccess (wr : Bool) (addr : Nat)
  deriving DecidableEq, Repr

/-- The burned copies of one access row (R432, R433): copies used, whether the last verifies, its value. -/
structure FuseRow where
  copies : Nat
  valid : Bool
  row : Word
  deriving DecidableEq, Repr

/-- An unburned row. -/
def FuseRow.init : FuseRow := { copies := 0, valid := false, row := 0 }

/-- To whom a radio frame goes (R353-R357): a beacon, of beacon order 15, superframe order 15, PAN coordinator 1, GTS and pending fields 0 and this association
permit, has no destination; other frames go to a short or an extended address. -/
inductive RadioDst where
  | beacon (permit : Bool)
  | short (a : Nat)
  | ext (a : BitVec 64)
  deriving DecidableEq, Repr

/-- How the radio front end stands during a transmission (R350, R375): power in dBm, levels of FEM0-FEM5, and the time by which they precede it, us. -/
structure RadPhy where
  power : Int
  fem : Nat
  lead : Nat
  deriving DecidableEq, Repr

/-- A PTP message that leaves (R121): its IEEE 1588 messageType (0 Sync, 1 Delay_Req, 8 Follow_Up, 9 Delay_Resp, 11 Announce, 12 Signaling), ETH port, domain, sequenceId,
logMessageInterval, twoStepFlag, time stamp, and the port identity that a Delay_Resp answers. -/
structure PtpOut where
  type : Nat
  port : Nat
  domain : Nat
  seq : Nat
  logInterval : Int
  twoStep : Bool
  time : Option Nat
  req : BitVec 80
  deriving DecidableEq, Repr

/-- What leaves the module, in order (DESIGN CHOICE, log entry 5). -/
inductive Emission where
  /-- the data of a register read -/
  | read (r : Requester) (addr : Nat) (v : Word)
  /-- the bytes of a BAR2 read (R90) -/
  | tableRead (bytes : List Byte)
  /-- a PRT response datagram to a client: the ETH port, address, next hop and UDP port that it goes to (R102, R103, R330) -/
  | prt (client eth : Nat) (addr hop : BitVec 128) (port : Nat) (bytes : List Byte)
  /-- an event notified to a processor, by its ROUTE bit (R95) -/
  | notify (target source : Nat)
  /-- an EVT pin is driven low for a pulse of so many us (R107) -/
  | evtPulse (pin us : Nat)
  /-- a configuration request that the PCIe endpoint answers with Configuration Request Retry Status (R59) -/
  | pcieRetry (reg : Nat)
  /-- the endpoint answers configuration requests from now on: Device and Vendor ID, what the six BARs read after all ones are written, the MSI-X capability's
  vectors, table and PBA (R59, R89, R101) -/
  | pcieReady (id : Word) (bars : List Word) (vectors table pba : Nat)
  /-- the data of a doorbell read (R93) -/
  | doorbell (q : Nat) (v : DWord)
  /-- an MSI-X message: its vector, and the address and data that the vector holds (R97, R101) -/
  | msix (vector : Nat) (addr : DWord) (data : Word)
  /-- an LTC_OUT frame with its time address (R123) -/
  | ltc (address : Word)
  /-- a PTP message of instance A or B (R121) -/
  | ptp (instB : Bool) (m : PtpOut)
  /-- PPS_OUT rises for so many ms (R123) -/
  | pps (ms : Nat)
  /-- a frame that leaves a Gyzor port end, header to CRC, and its code groups on the line with the IDLE sets after it (R258, R259) -/
  | gz (port : Nat) (bytes : List Byte) (code : List (BitVec 10))
  /-- the stages that a domino port shifts, in the order of their shift, bit 63 of each first (R287) -/
  | shift (port : Nat) (stages : List (BitVec 64))
  /-- a LAT pulse of so many ns, and the stages that the chain latches, by stage number (R287, R292) -/
  | dom (port ns : Nat) (stages : List (Nat × List Nat))
  /-- a DMX packet: break and mark after break in us, start code and data slots (R295) -/
  | dmx (port brk mab : Nat) (slots : List Byte)
  /-- an RDM request's bytes (R302) -/
  | rdm (port : Nat) (bytes : List Byte)
  /-- a frame of the host that starts on an Ethernet port, or that goes on after `skip` bytes once it was preempted (R321, R324) -/
  | eth (port skip : Nat) (bytes : List Byte)
  /-- a received frame with its descriptor that a consumer inside the module takes: port and class (R314, R317) -/
  | rxFrame (port cls : Nat) (bytes : List Byte)
  /-- a Tulle frame on a channel: preamble in octets, RZ of each WAKE frame of the train before it, MAC payload (R352-R361; DESIGN CHOICE, log entry 43) -/
  | radio (phy : RadPhy) (channel : Nat) (dst : RadioDst) (preamble : Nat) (wakes : List Nat) (bytes : List Byte)
  /-- an Enh-Ack and its frame-pending bit (R357) -/
  | radioAck (phy : RadPhy) (dst : RadioDst) (pending : Bool)
  /-- a datagram of fleet records to a gateway or to the host client: the ETH port, address, next hop and UDP port that it goes to (R376, R380) -/
  | fleet (eth : Nat) (addr hop : BitVec 128) (port : Nat) (bytes : List Byte)
  /-- an IGMPv3 or MLDv2 report on an ETH port that joins or leaves a group (R148, R164) -/
  | member (eth : Nat) (v6 : Bool) (group : BitVec 128) (join : Bool)
  /-- an item that a consumer reads from an on-die or a cell-pool queue (R23, R24) -/
  | item (pool : Bool) (q : Nat) (item : DWord)
  /-- bytes that QM writes to host memory, and bytes that it reads there, with the host address (R345-R347) -/
  | hostWrite (addr : BitVec 48) (bytes : List Byte)
  | hostRead (addr : BitVec 48) (bytes : Nat)
  deriving DecidableEq, Repr

/-! Keys, tamper and firmware (R414-R449). -/

/-- A slot of the key store (R415-R417). State 0 EMPTY, 1 LIVE, 2 REVOKED; parent 63 is the root; `key` is empty for a DERIVED key and
for the factory identity, whose value is `Config.identity`. -/
structure KeySlot where
  state : Nat
  origin : Nat
  depth : Nat
  parent : Nat
  attr : Word
  useLeft : Nat
  key : List Byte
  label : List Byte
  deriving DecidableEq, Repr

/-- An empty slot. -/
def KeySlot.init : KeySlot :=
  { state := 0, origin := 0, depth := 0, parent := 0, attr := 0, useLeft := 0, key := [], label := [] }

/-- The factory identity (R424): an ECC_P256 pair with SIGN and no users. -/
def KeySlot.identity : KeySlot :=
  { state := 1, origin := 2, depth := 0, parent := 0, attr := 0x408, useLeft := 0, key := [], label := [] }

/-- What the slots hold when the module leaves the factory (R424). -/
def slotFactory (i : Nat) : KeySlot := if i == 0 then KeySlot.identity else KeySlot.init

/-- An operation that runs or waits (R419). -/
structure KeyJob where
  req : Requester
  op : Nat
  slot : Nat
  aux : Nat
  len : Nat
  attr : Word
  inp : List Byte
  deriving DecidableEq, Repr

/-- A sealed safe look (R430): the levels by index port x 8 + pip, SAFE_SEQ and the tag. -/
structure SafeRec where
  levels : Sparse Nat
  seq : Word
  tag : List Byte
  deriving DecidableEq, Repr

/-- A burn in progress: BURN_CMD bits 0 to 5, or 6 for a repair burn (R433, R457). -/
structure Burn where
  kind : Nat
  row : Nat
  stage : Word
  deriving DecidableEq, Repr

/-- One slot of a firmware image (R438, R440). Limits are MIN and MAX by peer. -/
structure ImgSlot where
  valid : Bool
  sec : Nat
  gen : Nat
  lims : List (Nat × Nat)
  bytes : List Byte
  deriving DecidableEq, Repr

/-- An erased slot. -/
def ImgSlot.init : ImgSlot := { valid := false, sec := 0, gen := 0, lims := [], bytes := [] }

/-- The slots as they leave the factory, 2 x image + slot: A holds a committed image of generation 1 (R3, R11; DESIGN CHOICE, log entry 14). -/
def imgFactory (i : Nat) : ImgSlot :=
  if i % 2 == 0 && i < 10 then { ImgSlot.init with valid := true, gen := 1, lims := [(1, 1), (1, 1), (1, 1), (1, 1), (1, 1)] }
  else ImgSlot.init

/-- UPD (R438-R449). `activeB` has bit i set while slot B of image i is active; `pause` is the image that pauses, and whether by a
revert. -/
structure Upd where
  slots : Sparse ImgSlot
  activeB : Nat
  trial : Option Nat
  arb : Sparse Nat
  reverts : Sparse Nat
  /-- a load runs: its image -/
  load : Option Nat
  loadWin : Sparse Word
  pause : Option (Nat × Bool)
  /-- the Gyzor port end that a LNK pause holds now -/
  port : Option Nat
  committing : Bool
  deriving DecidableEq, Repr

/-- UPD as it leaves the factory. -/
def Upd.init : Upd :=
  { slots := [], activeB := 0, trial := none, arb := [], reverts := [], load := none, loadWin := [], pause := none, port := none,
    committing := false }

/-- A calibration run (R461): kind, instance, point to store in, temperature. -/
structure CalJob where
  kind : Nat
  inst : Nat
  temp : BitVec 16
  deriving DecidableEq, Repr

/-! Time bases and the RTC (R108-R130, R397-R413). -/

/-- A time base (R109-R120). `incr` is INCR in 32.32; `newIncr` and the front of `steps` apply at the next tick; `snapTo` is the step of
a new follower; `freq` is the servo's frequency term, `measured` that a measurement has been made since measuring started, `pull` that a step is being pulled back; `held`
and `heldPhase` the offset from TB2, of COUNT and of SEC_PHASE, when last locked, kept in MRAM; `edges` SEC_PHASE and extended time at the last edge of each input. -/
structure TB where
  count : Word
  /-- the extended time that SC keeps of it, ns (R115, R120) -/
  ext : Nat
  frac : Nat
  phase : Nat
  incr : Nat
  newIncr : Option Nat
  steps : List Word
  stepSum : Word
  snapTo : Bool
  freq : Rat
  measured : Bool
  pull : Bool
  good : Nat
  bad : Nat
  edges : Sparse (Nat × Nat)
  held : Int
  heldPhase : Nat
  /-- STEP_SUM as latched by each requester (R114) -/
  latch : Sparse Word
  deriving DecidableEq, Repr

/-- A time base after a power-on: nominal INCR (R109), the rest 0. -/
def TB.init : TB :=
  { count := 0, ext := 0, frac := 0, phase := 0, incr := 0x200000000, newIncr := none, steps := [], stepSum := 0, snapTo := false,
    freq := 0, measured := false, pull := false, good := 0, bad := 0, edges := [], held := 0, heldPhase := 0, latch := [] }

/-- State of a PTP port (R121): listening, slave or master of IEEE 1588. -/
inductive PtpState where
  | listening | slave | master
  deriving DecidableEq, Repr

/-- A PTP instance (R121). -/
structure PtpInst where
  state : PtpState
  best : Option Announce
  /-- sequenceId of the next Sync, Announce, Delay_Req and Signaling message -/
  syncSeq : Nat
  announceSeq : Nat
  delaySeq : Nat
  signalSeq : Nat
  /-- the latest synchronization metadata TLV received -/
  sm : Option (List Byte)
  deriving DecidableEq, Repr

/-- An instance that has heard nothing. -/
def PtpInst.init : PtpInst := { state := .listening, best := none, syncSeq := 0, announceSeq := 0, delaySeq := 0, signalSeq := 0, sm := none }

/-- The RTC (R397-R410): time in units of 1/32,768 s since 2000-01-01 00:00:00; oscillator phase; pending set and shifts; trim. -/
structure Rtc where
  time : Nat
  acc : Nat
  setPend : Bool
  /-- a correction by set that waits for the next whole second of TB2, in units (R405) -/
  lateSet : Option Int
  shifts : List Int
  trimN : Int
  trimNext : Int
  trimTemp : BitVec 16
  winTick : Nat
  perTick : Nat
  perRestart : Bool
  /-- registers whose last write set a reserved bit (R402, R413) -/
  stray : List Nat
  /-- TIME, DATE, SECONDS_LO and SECONDS_HI as latched by each requester, by 4 x requester + k (R399) -/
  latch : Sparse Word
  deriving DecidableEq, Repr

/-- The RTC after an AON power-on (R400). -/
def Rtc.init : Rtc :=
  { time := 0, acc := 0, setPend := false, lateSet := none, shifts := [], trimN := 0, trimNext := 0, trimTemp := 0, winTick := 0,
    perTick := 0, perRestart := false, stray := [], latch := [] }

end Sys2Proof.Machine
end

