-- ==== Sys2Proof/Machine/PlanTypes.lean ====
section
/-!
DEFINITION. The types of the plan, the frames, the sources of the layers, the groups and the thermal records (R131-R238), and of the
work of the output ports (R258-R308). Plain data only.
-/
namespace Sys2Proof.Machine

/-- What PP copies of a fixture into the plan (R218): profile number and the eight trims. -/
structure FixCopy where
  profile : Nat
  trims : List Nat
  deriving DecidableEq, Repr

/-- A plan bank (R16, R183): tables by word number (8 x entry + w, 512 x zone + w, 512 x profile + w), tiles in use, fixtures of the
map, and the ports that were READY at its commit, as pages (R58). -/
structure Plan where
  epoch : Word
  tiles : Nat
  map : Sparse Word
  zone : Sparse Word
  prof : Sparse Word
  fix : Sparse FixCopy
  ports : List Nat
  deriving DecidableEq, Repr

/-- An empty plan of epoch 0. -/
def Plan.init : Plan := { epoch := 0, tiles := 0, map := [], zone := [], prof := [], fix := [], ports := [] }

/-- A picture of a stream (R148-R151): RTP timestamp, size, conversion, its parts (line, first pixel, octets), the sequence numbers
received and those of its first and last packet. -/
structure Picture where
  ts : Word
  width : Nat
  height : Nat
  transfer : Nat
  colorimetry : Nat
  parts : List (Nat × Nat × List Byte)
  seqs : List Word
  first : Option Word
  last : Option Word
  deriving DecidableEq, Repr

/-- A VIN stream (R150-R152): the pictures that arrive, the one begun last first; the latest complete pictures, the latest media time first; the last sequence
number. -/
structure VinStream where
  cur : List Picture
  done : List Picture
  lastSeq : Option Word
  deriving DecidableEq, Repr

/-- A stream with nothing received. -/
def VinStream.init : VinStream := { cur := [], done := [], lastSeq := none }

/-- A clip player as its last GO armed it (R160, R161): start, speed in 1/256, go_pt on the extended time of its time base; the clip that it holds, the
clip that PRELOAD copies, and the clip frame last shown. -/
structure Player where
  start : Nat
  speed : Int
  goExt : Int
  held : Option Nat
  loading : Option Nat
  shown : Nat
  deriving DecidableEq, Repr

/-- A player that holds no clip. -/
def Player.init : Player := { start := 0, speed := 256, goExt := 0, held := none, loading := none, shown := 0 }

/-- A source of a universe (R165, R166): CID, or 2^128 + n + 1 for DMX input n; priority, last sequence number, slots, arrival order; and the data held for a sync
address, with its priority and arrival order. -/
structure UniSource where
  cid : Nat
  prio : Nat
  seq : Nat
  slots : List Byte
  order : Nat
  held : Option (Nat × List Byte × Nat × Nat)
  deriving DecidableEq, Repr

/-- An input entry at work (R165, R166): sources, the values output, LOST, and addresses whose sync has timed out. -/
structure UniInput where
  sources : List UniSource
  out : List Byte
  lost : Bool
  noSync : Bool
  deriving DecidableEq, Repr

/-- An entry that has received nothing. -/
def UniInput.init : UniInput := { sources := [], out := [], lost := false, noSync := false }

/-- What a layer takes at its sample instant (R135, R150, R160, R168): nothing needed, transparent, a picture, a frame of a clip file, or the slots of its
universes. -/
inductive LayerIn where
  | none
  | gone
  | pic (p : Picture)
  | clip (file : List Byte) (frame : Nat)
  | unis (slots : List (List Byte))
  deriving DecidableEq, Repr

/-- A layer as it stands at the sample instant: its input, the inputs of its two routes (R147), the 16 band levels of its channel (R171), its cue
words (R144). -/
structure LayerShot where
  inp : LayerIn
  m0 : Rat
  m1 : Rat
  bands : List Rat
  cue : List Word
  deriving DecidableEq, Repr

/-- The pips of one valid entry of a finished tile. -/
structure SlotPips where
  entry : Nat
  dest : Nat
  slot : Nat
  pipW : Nat
  pips : List Nat
  deriving DecidableEq, Repr

/-- A finished tile. -/
structure TilePips where
  tile : Nat
  slots : List SlotPips
  deriving DecidableEq, Repr

/-- Residual statistics of a frame (R225): sums and maxima. -/
structure Resid where
  duvMax : Nat
  duvSum : Nat
  uvSlots : Nat
  errMax : Nat
  errSum : Nat
  errSlots : Nat
  oog : Nat
  ps : Word
  deriving DecidableEq, Repr

/-- No slot yet. -/
def Resid.init : Resid := { duvMax := 0, duvSum := 0, uvSlots := 0, errMax := 0, errSum := 0, errSlots := 0, oog := 0, ps := 0 }

/-- A frame from its admission to the release of its strike (R188-R199). `todo` are tiles that no lane has taken, `busy` tiles in lanes, `buf`
finished tiles that wait, `left` by port page the tiles not yet released in map order; `queued` are tiles that FE holds for want of DSP's credits (R190); `pow` the weighted drive by fleet ID (R230). -/
structure Frame where
  zone : Nat
  k : Nat
  pt : Word
  ps : Word
  /-- PS on TB0 -/
  ps0 : Word
  epoch : Word
  prio : Nat
  admitted : Bool
  queued : List Nat
  todo : List Nat
  busy : List Nat
  buf : List TilePips
  left : List (Nat × List Nat)
  shots : List LayerShot
  /-- group swaps before S, and fixtures in heat off at S -/
  gm : Nat
  hot : List Nat
  stats : Resid
  pow : Sparse Rat
  deriving DecidableEq, Repr

/-- A released tile in the queue of its port and zone (R189): its frame, whether it ends the packet, its pips. -/
structure TileOut where
  zone : Nat
  k : Nat
  ps : Word
  epoch : Word
  eop : Bool
  tile : TilePips
  deriving DecidableEq, Repr

/-- A strike that FE has released to a port (R199, R263): its flags HOLD 1, STALE 2, BLACKOUT 4, and the zone's time base. -/
structure StrikeOut where
  zone : Nat
  k : Nat
  ps : Word
  epoch : Word
  flags : Nat
  tb : Nat
  deriving DecidableEq, Repr

/-- A zone in FE (R195, R204): its grid (RATE and TB), the last frame admitted or passed on it, and its presentation time and that of the last frame begun, on the extended time base of the
zone; the waiting command (OP, PS, NOW). -/
structure ZoneRun where
  grid : Nat × Nat
  lastK : Option Nat
  lastPt : Option Int
  begun : Option Int
  cmd : Option (Nat × Word × Bool)
  deriving DecidableEq, Repr

/-- A zone that nothing has touched. -/
def ZoneRun.init : ZoneRun := { grid := (0, 0), lastK := none, lastPt := none, begun := none, cmd := none }

/-- A tile in a lane (R184, R231): the lane computes from the state at its fetch; its pips, its part of the residuals and of the weighted drives. -/
structure LaneWork where
  zone : Nat
  k : Nat
  tile : Nat
  out : TilePips
  stats : Resid
  pow : Sparse Rat
  bins : List (Nat × Nat)
  deriving DecidableEq, Repr

/-- A thermal record (R229-R236): T_J once it has been updated, a reported T_SINK, U in 1/4096. `since` counts the seconds that REARM_OK has stayed
1. -/
structure ThmRec where
  tj : Option Int
  sink : Option Int
  lastSink : Int
  u : Nat
  bin : Nat
  upd : Word
  rearmOk : Bool
  stale : Bool
  trips : Nat
  deriving DecidableEq, Repr

/-- A record at module reset. -/
def ThmRec.init : ThmRec :=
  { tj := none, sink := none, lastSink := 0, u := 0, bin := 0, upd := 0, rearmOk := false, stale := false, trips := 0 }

/-- Staging of a requester in the group table (R215): GM_INDEX, the staged entry and its group. -/
structure GmStage where
  index : Word
  group : Option Nat
  words : List Word
  deriving DecidableEq, Repr

/-- Nothing staged. -/
def GmStage.init : GmStage := { index := 0, group := none, words := [] }

/-! Gyzor ports (R243-R286). -/

/-- A node of a chain (R271, R273, R277): its descriptor while one good DESC has come, its last STATUS. -/
structure GzNode where
  desc : Option (List Byte)
  tries : Nat
  tSink : Word
  flags : Nat
  miss : Nat
  castles : Nat
  confirmed : Bool
  deriving DecidableEq, Repr

/-- An address with nothing known. -/
def GzNode.init : GzNode :=
  { desc := none, tries := 0, tSink := 0x8000, flags := 0, miss := 0, castles := 0, confirmed := false }

/-- The STATUS reply of a node (R273). -/
structure NodeStatus where
  tSink : BitVec 16
  flags : Byte
  epoch : Word
  miss : BitVec 16
  castles : BitVec 16
  deriving DecidableEq, Repr

/-- A frame that waits for a window of its port (R278): TYPE, BCAST, ADDR and payload, and for how many ns after its departure its reply train goes on (R274). A SYNC gets
its payload at its departure. -/
structure GzReq where
  type : Nat
  bcast : Bool
  addr : Nat
  payload : List Byte
  train : Nat
  deriving DecidableEq, Repr

/-- A Gyzor port end (R243-R282): clean checks in a row, training attempts, a TDR that runs with the next check, a retune that waits, one that a trigger of R251 asked
for, and one whose STRIKE has left; a leak measurement that runs, leakage reported and not yet cleared; the equaliser coefficients of the last training or retune (R250); running
disparity +1 (R258); the previous enumeration's descriptors, and the addresses that take no PIX until the next commit (R272); stream SEQ; SYNCs sent in ranging; the last own SYNC that
came back (SEQ, round trip); on a closed ring the traversals by SEQ, and the last SEQ with both; whether the other end's SYNC arrives again; the frames that wait for a window. `epochSent` is
the epoch that the last settings are for; `begun` the frames whose PIX have begun: zone, k, PS. -/
structure GzPort where
  clean : Nat
  tries : Nat
  tdrWait : Bool
  retuneWant : Bool
  retuneTrig : Bool
  retuneReady : Bool
  leakRun : Bool
  leakLow : Bool
  eq : List Word
  rd : Bool
  prev : Option (List (Option (List Byte)))
  changed : List Nat
  seq : Nat
  ranged : Nat
  echo : Option (Nat × Nat)
  cross : List (Nat × Option Nat × Option Nat)
  pair : Option (Nat × Nat × Nat)
  farSync : Bool
  wait : List GzReq
  epochSent : Word
  begun : List (Nat × Nat × Word)
  deriving DecidableEq, Repr

/-- A port end that has not started. -/
def GzPort.init : GzPort :=
  { clean := 0, tries := 0, tdrWait := false, retuneWant := false, retuneTrig := false, retuneReady := false, leakRun := false, leakLow := false,
    eq := [], rd := false, prev := none, changed := [], seq := 0, ranged := 0, echo := none, cross := [], pair := none, farSync := false,
    wait := [], epochSent := 0, begun := [] }

/-! Local ports (R287-R308). -/

/-- A frame in a domino chain's shift registers: its zone, grid index and epoch, and its stages with their four pips. A stage that is not listed is zero. -/
structure DomFrame where
  zone : Nat
  k : Nat
  epoch : Word
  stages : List (Nat × List Nat)
  deriving DecidableEq, Repr

/-- A domino port: clean checks; the frame that has been shifted and waits for its LAT; the last latched stages; the bits that the chain holds, in the order of their shift (R293); consecutive
frames with a continuity error. -/
structure DomPort where
  clean : Nat
  shift : Option DomFrame
  latched : List (Nat × List Nat)
  chain : List (BitVec 64)
  contErr : Nat
  deriving DecidableEq, Repr

/-- A domino port at reset. -/
def DomPort.init : DomPort := { clean := 0, shift := none, latched := [], chain := [], contErr := 0 }

/-- A DMX port: the slots of the last packet, the RDM work that runs (1 a request, 2 a discovery), the transaction number, the request on its way, the parameter data
collected, discovered UIDs; whether an input receives a source (R299). -/
structure DmxPort where
  slots : Option (List Byte)
  rdm : Option Nat
  tn : Nat
  req : List Byte
  acc : List Byte
  uids : List (BitVec 48)
  live : Bool
  deriving DecidableEq, Repr

/-- A DMX port at reset. -/
def DmxPort.init : DmxPort := { slots := none, rdm := none, tn := 0, req := [], acc := [], uids := [], live := false }

end Sys2Proof.Machine
end

