-- ==== Sys2Proof/Machine/FleetTypes.lean ====
section
/-!
DEFINITION. The types of the fleet engine, the Tulle radio and the queues: fault records, children, the member side. Plain data only.
-/
namespace Sys2Proof.Machine

/-- A fault record (R391): `id` holds FLEET_ID and, at bit 23, NO_ID. -/
structure FaultRec where
  seq : Word
  time : Word
  id : Nat
  code : Nat
  raised : Bool
  detail : Word
  deriving DecidableEq, Repr

/-- A connected child (R359-R366, R374): its extended address, fleet ID, SAMPLE in ms, SUP in 100 ms and SEED; the anchor on the extended TB3, ns; its channel
map, a new one that it has not acknowledged with its INSTANT, and whether it has acknowledged it; up to 8 measurements (event, offset in ns), newest first; the
extended TB3 of the latest measurement and of the last frame; frames queued, oldest first; how many of them have been sent and wait for their acknowledgement, and
whether as a scheduled transmission or train; whether the last attempt failed; FALLBACKS. -/
structure Child where
  ext : BitVec 64
  fleet : Nat
  sample : Nat
  sup : Nat
  seed : Nat
  anchor : Int
  map : BitVec 64
  newMap : Option (BitVec 64)
  mapAt : Option Word
  mapAck : Bool
  meas : List (Int × Int)
  measAt : Int
  heardAt : Int
  q : List (List Byte)
  fly : Nat
  sched : Bool
  failed : Bool
  falls : Nat
  deriving DecidableEq, Repr

/-- A child that is not connected is listed nowhere; this is what an unlisted k reads as. -/
def Child.none : Option Child := Option.none

/-- The module as a member (R367): the channel that is scanned, the extended TB3 of the last parent beacon or of the last that was missed, its interval in ms, the
window W in us, DEPTH of the parent and whether a rejoin is to be reported. -/
structure Member where
  chan : Nat
  beaconAt : Int
  interval : Nat
  win : Nat
  depth : Nat
  rejoin : Bool
  deriving DecidableEq, Repr

/-- A module that has never been a member. -/
def Member.init : Member := { chan := 0, beaconAt := 0, interval := 0, win := 0, depth := 0, rejoin := false }

/-- The radio's own state: the next beacon time on the extended TB3 (R358), the last one and the end of its air time; the next beacon carries CHMAP_CHANGE (R366); the
template that RP last wrote (R358); broadcast frames that follow the next beacon (R354); the synthesiser has unlocked (R358); consecutive busy CCAs; children
whose transmission waits for DUTY_LIMIT, and transmissions of the last 3,600 s with their air time, ns (R371); the true time at which the own transmission ends, ns (R369); the
last beacon carried JOIN_OPEN (R359); lost paths, a child by its extended address and the parent as 2^64 (R31). -/
structure Radio where
  next : Int
  last : Int
  lastEnd : Int
  chChange : Bool
  tmpl : List Byte
  bcast : List (List Byte)
  unlocked : Bool
  busyRun : Nat
  waits : List Nat
  air : List (Nat × Nat)
  txEnd : Nat
  joinOpen : Bool
  lost : List Nat
  deriving DecidableEq, Repr

/-- The radio at reset. -/
def Radio.init : Radio :=
  { next := 0, last := 0, lastEnd := 0, chChange := false, tmpl := [], bcast := [], unlocked := false, busyRun := 0, waits := [], air := [], txEnd := 0, joinOpen := false, lost := [] }

/-- MTR.TOTAL in mWh, GAPS and whether MTR is not counting, at a UTC second at which a loss period ends (R392, R473). -/
structure FeedMark where
  at_ : Nat
  total : Nat
  gaps : Word
  gap : Bool
  deriving DecidableEq, Repr

/-- Work that waits for FP, while CTL is off in DOZE or FP restarts (R13, R54, R370, R380): a join request, a fleet record, the mailbox, an SIO edge; an evaluation of the schedule, a ramp tick, the
end of a rule's hold, a node's silence in s, the end of a loss period, IMG_CMD with IMG_SEL, the end of an image round. -/
inductive FpWork where
  | join (ext : BitVec 64) (sample : Nat)
  | record (type : Nat) (via : FleetVia) (rec : FleetRec)
  | mailbox
  | edge (j : Nat)
  | schedule
  | ramp
  | ruleEnd (i : Nat)
  | silent (f seconds : Nat)
  | loss
  | image (i : Nat) (cmd : Word)
  | imgRound
  deriving DecidableEq, Repr

/-! Fleet engine (R376-R396). -/

/-- A linear ramp (R388): values at its ends, length and time elapsed, ms. -/
structure Ramp where
  start : Nat
  stop : Nat
  len : Nat
  at_ : Nat
  deriving DecidableEq, Repr

/-- What FP keeps of a group (R386-R390): the winner and its RAMP in ms; the ramps of the schedule level and of the six target channels, MODE; the ramp of
the rule level, and whether it runs back to the schedule level; the final level, MODE and target that lanterns were sent last. -/
structure GroupRun where
  win : Option Nat
  ramp : Nat
  sched : Ramp
  mode : Nat
  tgt : List Ramp
  rule : Option Ramp
  ending : Bool
  sent : Option (Nat × Nat × List Nat)
  deriving DecidableEq, Repr

/-- A group that FP does not drive is listed nowhere. -/
def GroupRun.none : Option GroupRun := Option.none

/-- A sensor loop (R389): trim in 2^-24; seconds at a limit. -/
structure LoopRun where
  trim : Int
  limit : Nat
  deriving DecidableEq, Repr

/-- A loop at trim 1.0. -/
def LoopRun.init : LoopRun := { trim := 16777216, limit := 0 }

/-- The latest SENSOR VALUE of a channel (R389): value, UTC second, and whether there is one. -/
structure SensorRead where
  value : Int
  utc : Nat
  has : Bool
  deriving DecidableEq, Repr

/-- No reading yet. -/
def SensorRead.init : SensorRead := { value := 0, utc := 0, has := false }

/-- A node image in flash (R393): IMG_STATE, VERSION, SIZE, VENDOR and MODEL, DIGEST16, chunks. -/
structure NodeImg where
  state : Nat
  version : Word
  size : Nat
  target : Word
  digest : List Byte
  chunks : Sparse (List Byte)
  deriving DecidableEq, Repr

/-- An empty image slot. -/
def NodeImg.init : NodeImg := { state := 0, version := 0, size := 0, target := 0, digest := [], chunks := [] }

/-- The latest campaign (R394): image, round, targets, those that acknowledged, those that failed, and the chunks that each target has reported missing. -/
structure Campaign where
  image : Nat
  round : Nat
  targets : List Nat
  acked : List Nat
  failed : List Nat
  miss : List (Nat × List Nat)
  deriving DecidableEq, Repr

/-- No campaign yet. -/
def Campaign.init : Campaign := { image := 0, round := 0, targets := [], acked := [], failed := [], miss := [] }

/-! The journal (R34, R35). -/

/-- What an unlisted word of the group table holds (R214): LEVEL 0xFFFF, MODE 0, targets 0. -/
def gmDefault (k : Nat) : Word := if k % 8 == 0 then 0xFFFF else 0

/-- A cue word that nothing has written (R143). -/
def cueDefault (k : Nat) : Word := if k % 16 == 0 then 0xFFFF else if k % 16 == 3 then 0x10000 else 0

/-- The stores of words that the journal covers: the registers that MRAM keeps, CTL.ENABLE by page, the registry, schedules and rules, the input entries of UNI, the
active cue and group banks, the anti-rollback counters by image. -/
inductive JTable where
  | reg | enable | registry | sched | rules | uniIn | cue | group | arb
  deriving DecidableEq, Repr

/-- One change in a journal record: a word of a store with its old and its new value; the committed plan; a fault record added; the fixtures in heat off. -/
inductive JItem where
  | word (t : JTable) (key : Nat) (old new : Word)
  | plan (old new : Plan)
  | fault (r : FaultRec)
  | heat (old new : List Nat)
  deriving DecidableEq, Repr

/-- A journal record (R34): its sequence number, the changes that it makes durable, its CRC-32. -/
structure JournalRec where
  seq : Word
  items : List JItem
  crc : Word
  deriving DecidableEq, Repr

/-! Queues (R333-R349). -/

/-- An item in a queue: the item, the packet bytes of the cell it names, and whether its removal returns a credit (R345: the last cell of a host
buffer does). -/
structure QItem where
  item : BitVec 64
  data : List Byte
  credit : Bool
  deriving DecidableEq, Repr

/-- A queue, on-die or of the cell pool (R336-R346): items, oldest first; host buffers to be fetched, and posted receive buffers; depth, reservation and limit; cells allocated
and not yet used; place of the oldest item in its link cell; a flush that waits; the consumer has taken part of a packet; the producer has written part of one; the
producer's items are discarded to its next EOP; an ABORT is to be handed over; IDLE is read until a whole packet has arrived; bytes of the oldest item already given
to the host; PHASE is 0. -/
structure QueueSt where
  items : List QItem
  fetch : List (BitVec 64)
  posted : List (BitVec 64)
  depth : Nat
  min : Nat
  max : Nat
  spare : Nat
  head : Nat
  flush : Bool
  taken : Bool
  part : Bool
  cut : Bool
  abort : Bool
  idle : Bool
  used : Nat
  phase0 : Bool
  deriving DecidableEq, Repr

/-- An empty queue of a depth, a reservation and a limit. -/
def QueueSt.empty (depth min max : Nat) : QueueSt :=
  { items := [], fetch := [], posted := [], depth := depth, min := min, max := max, spare := 0, head := 0, flush := false, taken := false, part := false,
    cut := false, abort := false, idle := false, used := 0, phase0 := false }

/-! Ethernet (R310-R332). -/

/-- A gate list (R322, R323): base on TB0, cycle in ns, entries. -/
structure GateList where
  base : Word
  cycle : Nat
  entries : List Word
  deriving DecidableEq, Repr

/-- What a frame in an egress queue is: the host's bytes without FCS (R319), or traffic of the module, with its length without FCS (R320). -/
inductive TxBody where
  | host (bytes : List Byte)
  | own (e : Emission) (len : Nat)
  deriving DecidableEq, Repr

/-- A frame that waits in an egress queue: what it is, the identifier of the stamp that it asks for (R319), and the true time at which it came, ns. -/
structure TxFrame where
  queue : Nat
  body : TxBody
  stamp : Option (BitVec 16)
  since : Nat
  deriving DecidableEq, Repr

/-- Bytes of a frame from destination address to payload. -/
def TxFrame.len (f : TxFrame) : Nat := match f.body with | .host l => l.length | .own _ n => n

/-- A MAC (R312-R326): frames to send, in order of arrival; stamps not yet read; a pending gate list; start of the gate cycle and the entry that runs; verify attempts; paused
queues, with the times since which and until which they are; queues that ignore PAUSE, with the time until which they do; frames in receive memory, by class and page of the
consumer; time from which the line is free; the frame on the line, with the time at which it or its remainder started and the bytes sent before; a preempted frame and its bytes
sent; groups that FP has joined, by MATCH entry, as IPv6 and address. Times are true times in ns. -/
structure EthPort where
  txq : List TxFrame
  tsq : List (BitVec 64)
  pend : Option GateList
  cyc : Word
  gi : Nat
  verify : Nat
  paused : List (Nat × Nat × Nat)
  ign : List (Nat × Nat)
  rxHold : List (Nat × Nat × List Byte)
  free : Nat
  cur : Option (TxFrame × Nat × Nat)
  left : Option (TxFrame × Nat)
  groups : List (Nat × Bool × BitVec 128)
  deriving DecidableEq, Repr

/-- A MAC at reset. -/
def EthPort.init : EthPort :=
  { txq := [], tsq := [], pend := none, cyc := 0, gi := 0, verify := 0, paused := [], ign := [], rxHold := [], free := 0, cur := none, left := none, groups := [] }

/-- A merged stream (R328, R329): H; the lowest number whose loss counts, that of the first packet or the lowest of the record; delivered numbers of the record with their times, newest first; skew event
raised. -/
structure EdupSt where
  high : Option Word
  low : Word
  done : List (Word × Nat)
  skewHigh : Bool
  deriving DecidableEq, Repr

/-- A merged stream with nothing delivered. -/
def EdupSt.init : EdupSt := { high := none, low := 0, done := [], skewHigh := false }

end Sys2Proof.Machine
end

