-- ==== Sys2Proof/Machine/RegMap.lean ====
section
/-!
DEFINITION. The register map: for each page of R74 the rows of its register table (offset, count, stride, access code, what a load of
reset values does to it, reset value, bits that a write can set), and a name for the address of each register. Sources:
R66, R72, R78, R98, R101, R106, R107, R129, R172-R178, R207-R210, R237, R238, R254-R258, R284-R286, R306-R309, R330-R332,
R344, R372-R375, R395, R396, R412, R422, R435-R437, R446, R458, R462, R474-R476. Bits outside the last column are reserved and
read zero (R9).
-/
namespace Sys2Proof.Machine

/-- Access codes of R8. -/
inductive RegAcc where
  | ro | rw | w1s | w1c | wo | rws
  deriving DecidableEq, Repr

/-- What a load of reset values does to a register: it takes its Reset column; it keeps a live value (the register shows a present
condition, or R411 or R436 says so; DEDUCED, log entry 10); it keeps the value that MRAM or fuses hold (R65). -/
inductive Keep where
  | reset | live | durable
  deriving DecidableEq, Repr

/-- One row of a register table. -/
structure RegRow where
  off : Nat
  cnt : Nat
  stride : Nat
  acc : RegAcc
  keep : Keep
  reset : Word
  mask : Word
  deriving DecidableEq, Repr

/-- Registers of the SYS page. -/
def rowsSYS : List RegRow :=
  [ ⟨0x040, 1, 4, .ro, .reset, 0x1, 0x0⟩,
    ⟨0x044, 1, 4, .wo, .reset, 0x0, 0xFFFFFFFF⟩,
    ⟨0x048, 1, 4, .ro, .reset, 0x0, 0x0⟩,
    ⟨0x04C, 1, 4, .rw, .durable, 0x16, 0x1F⟩,
    ⟨0x050, 1, 4, .rw, .durable, 0x3C0000, 0xFFFF0003⟩,
    ⟨0x054, 1, 4, .rw, .durable, 0x0, 0x1FF⟩,
    ⟨0x058, 1, 4, .w1c, .reset, 0x0, 0x1FF⟩,
    ⟨0x05C, 1, 4, .w1c, .live, 0x1, 0xFF⟩,
    ⟨0x060, 1, 4, .wo, .reset, 0x0, 0x1⟩,
    ⟨0x064, 1, 4, .ro, .reset, 0x0, 0x0⟩,
    ⟨0x068, 1, 4, .ro, .live, 0x0, 0x0⟩,
    ⟨0x06C, 1, 4, .ro, .durable, 0x0, 0x0⟩,
    ⟨0x070, 1, 4, .ro, .live, 0x0, 0x0⟩,
    ⟨0x074, 1, 4, .ro, .reset, 0x0, 0x0⟩,
    ⟨0x080, 4, 4, .ro, .reset, 0x0, 0x0⟩ ]

/-- Registers of the PWR page. -/
def rowsPWR : List RegRow :=
  [ ⟨0x040, 1, 4, .ro, .live, 0x2, 0x0⟩,
    ⟨0x044, 1, 4, .ro, .live, 0x2, 0x0⟩,
    ⟨0x048, 1, 4, .ro, .reset, 0x0, 0x0⟩,
    ⟨0x04C, 1, 4, .ro, .reset, 0x0, 0x0⟩,
    ⟨0x050, 1, 4, .ro, .live, 0x0, 0x0⟩,
    ⟨0x054, 1, 4, .w1c, .reset, 0x0, 0x1F⟩ ]

/-- Registers of the EVR page. -/
def rowsEVR : List RegRow :=
  [ ⟨0x040, 1, 4, .wo, .reset, 0x0, 0x3FF⟩,
    ⟨0x080, 8, 4, .ro, .reset, 0x0, 0x0⟩,
    ⟨0x400, 256, 4, .rw, .durable, 0x0, 0x1F7F⟩ ]

/-- Registers of the HIF page. -/
def rowsHIF : List RegRow :=
  [ ⟨0x040, 1, 4, .ro, .reset, 0x0, 0x0⟩,
    ⟨0x044, 1, 4, .rw, .reset, 0x0, 0x1FF⟩,
    ⟨0x048, 1, 4, .rw, .reset, 0x0, 0xFFFF⟩,
    ⟨0x04C, 1, 4, .ro, .reset, 0x0, 0x0⟩,
    ⟨0x050, 1, 4, .ro, .durable, 0x0, 0x0⟩,
    ⟨0x054, 1, 4, .ro, .reset, 0x0, 0x0⟩,
    ⟨0x058, 1, 4, .ro, .reset, 0x0, 0x0⟩,
    ⟨0x05C, 1, 4, .ro, .reset, 0x0, 0x0⟩,
    ⟨0x060, 1, 4, .ro, .reset, 0x0, 0x0⟩,
    ⟨0x064, 1, 4, .ro, .reset, 0x0, 0x0⟩,
    ⟨0x800, 32, 16, .rw, .reset, 0x0, 0xFFFFFFFF⟩,
    ⟨0x804, 32, 16, .rw, .reset, 0x0, 0xFFFFFFFF⟩,
    ⟨0x808, 32, 16, .rw, .reset, 0x0, 0xFFFFFFFF⟩,
    ⟨0x80C, 32, 16, .rw, .reset, 0x1, 0xFFFFFFFF⟩,
    ⟨0xA00, 2, 4, .ro, .reset, 0x0, 0x0⟩ ]

/-- Registers of the PRT page. -/
def rowsPRT : List RegRow :=
  [ ⟨0x040, 1, 4, .rw, .durable, 0xC0080000, 0xFFFF000F⟩,
    ⟨0x060, 8, 4, .rw, .durable, 0x0, 0x3F01⟩,
    ⟨0x080, 1, 4, .ro, .reset, 0x0, 0x0⟩,
    ⟨0x084, 1, 4, .ro, .reset, 0x0, 0x0⟩,
    ⟨0x088, 1, 4, .ro, .reset, 0x0, 0x0⟩,
    ⟨0x08C, 1, 4, .ro, .reset, 0x0, 0x0⟩,
    ⟨0x100, 8, 8, .ro, .durable, 0x0, 0x0⟩,
    ⟨0x104, 8, 8, .ro, .durable, 0x0, 0x0⟩ ]

/-- Registers of the FUSE page. -/
def rowsFUSE : List RegRow :=
  [ ⟨0x040, 1, 4, .ro, .durable, 0x0, 0x0⟩,
    ⟨0x044, 1, 4, .ro, .durable, 0x0, 0x0⟩,
    ⟨0x048, 1, 4, .ro, .durable, 0x0, 0x0⟩,
    ⟨0x060, 8, 4, .ro, .durable, 0x0, 0x0⟩,
    ⟨0x080, 1, 4, .rw, .reset, 0x0, 0x1FF⟩,
    ⟨0x084, 1, 4, .ro, .durable, 0x0, 0x0⟩,
    ⟨0x088, 1, 4, .ro, .durable, 0x53D, 0x0⟩,
    ⟨0x08C, 1, 4, .rw, .reset, 0x0, 0x3F3F⟩,
    ⟨0x090, 1, 4, .wo, .reset, 0x0, 0xFFFFFFFF⟩,
    ⟨0x094, 1, 4, .w1s, .reset, 0x0, 0x3F⟩,
    ⟨0x098, 1, 4, .rw, .reset, 0x0, 0xFFFFFFFF⟩,
    ⟨0x09C, 1, 4, .ro, .durable, 0x0, 0x0⟩,
    ⟨0x0A0, 1, 4, .ro, .reset, 0x0, 0x0⟩ ]

/-- Registers of the KEY page. -/
def rowsKEY : List RegRow :=
  [ ⟨0x040, 1, 4, .rw, .durable, 0x10, 0xFF⟩,
    ⟨0x044, 1, 4, .ro, .live, 0x0, 0x0⟩,
    ⟨0x048, 1, 4, .ro, .reset, 0x0, 0x0⟩,
    ⟨0x04C, 1, 4, .rw, .reset, 0x0, 0x3F⟩,
    ⟨0x050, 4, 4, .ro, .reset, 0x0, 0x0⟩,
    ⟨0x060, 1, 4, .wo, .reset, 0x0, 0x3F3FFF⟩,
    ⟨0x064, 1, 4, .rw, .reset, 0x0, 0x7FF⟩,
    ⟨0x068, 1, 4, .rw, .reset, 0x0, 0xFFFFFFFF⟩,
    ⟨0x06C, 1, 4, .ro, .reset, 0x0, 0x0⟩,
    ⟨0x070, 1, 4, .ro, .durable, 0x0, 0x0⟩,
    ⟨0x400, 256, 4, .rw, .reset, 0x0, 0xFFFFFFFF⟩,
    ⟨0x800, 256, 4, .ro, .reset, 0x0, 0x0⟩,
    ⟨0xC00, 256, 4, .ro, .durable, 0x0, 0x0⟩ ]

/-- Registers of the TAMP page. -/
def rowsTAMP : List RegRow :=
  [ ⟨0x040, 1, 4, .rw, .durable, 0x838, 0xFF3F⟩,
    ⟨0x044, 1, 4, .ro, .live, 0x0, 0x0⟩,
    ⟨0x048, 1, 4, .ro, .live, 0x0, 0x0⟩,
    ⟨0x04C, 1, 4, .ro, .reset, 0x0, 0x0⟩,
    ⟨0x050, 1, 4, .ro, .reset, 0x0, 0x0⟩,
    ⟨0x060, 1, 4, .rw, .reset, 0x0, 0x1FF⟩,
    ⟨0x064, 1, 4, .rw, .durable, 0x0, 0xFFFF⟩,
    ⟨0x068, 1, 4, .w1s, .reset, 0x0, 0x1⟩,
    ⟨0x06C, 1, 4, .ro, .reset, 0x0, 0x0⟩,
    ⟨0x070, 1, 4, .ro, .durable, 0x0, 0x0⟩ ]

/-- Registers of the UPD page. -/
def rowsUPD : List RegRow :=
  [ ⟨0x040, 1, 4, .rw, .reset, 0x0, 0x7⟩,
    ⟨0x044, 1, 4, .w1s, .reset, 0x0, 0x7⟩,
    ⟨0x048, 1, 4, .wo, .reset, 0x0, 0xFFF⟩,
    ⟨0x04C, 1, 4, .ro, .reset, 0x0, 0x0⟩,
    ⟨0x050, 1, 4, .ro, .reset, 0x0, 0x0⟩,
    ⟨0x054, 1, 4, .w1s, .reset, 0x0, 0x7⟩,
    ⟨0x058, 1, 4, .ro, .reset, 0x0, 0x0⟩,
    ⟨0x05C, 1, 4, .rw, .durable, 0x258, 0xFFFF⟩,
    ⟨0x060, 1, 4, .ro, .reset, 0x0, 0x0⟩,
    ⟨0x064, 1, 4, .ro, .reset, 0x0, 0x0⟩,
    ⟨0x068, 1, 4, .ro, .reset, 0x0, 0x0⟩,
    ⟨0x06C, 1, 4, .ro, .durable, 0x0, 0x0⟩,
    ⟨0x080, 40, 4, .ro, .durable, 0x0, 0x0⟩,
    ⟨0x800, 512, 4, .wo, .reset, 0x0, 0xFFFFFFFF⟩ ]

/-- Registers of the BIST page. -/
def rowsBIST : List RegRow :=
  [ ⟨0x040, 1, 4, .rw, .reset, 0x0, 0xFF⟩,
    ⟨0x044, 1, 4, .w1s, .reset, 0x0, 0x3⟩,
    ⟨0x048, 1, 4, .ro, .reset, 0x0, 0x0⟩,
    ⟨0x04C, 1, 4, .ro, .reset, 0x0, 0x0⟩,
    ⟨0x050, 1, 4, .ro, .reset, 0x0, 0x0⟩,
    ⟨0x054, 1, 4, .ro, .reset, 0x0, 0x0⟩,
    ⟨0x058, 1, 4, .ro, .reset, 0x0, 0x0⟩,
    ⟨0x05C, 1, 4, .ro, .durable, 0x0, 0x0⟩,
    ⟨0x400, 128, 4, .ro, .reset, 0x0, 0x0⟩ ]

/-- Registers of the CAL page. -/
def rowsCAL : List RegRow :=
  [ ⟨0x040, 1, 4, .rw, .reset, 0x0, 0xF1F03⟩,
    ⟨0x044, 1, 4, .w1s, .reset, 0x0, 0x7⟩,
    ⟨0x048, 1, 4, .ro, .reset, 0x0, 0x0⟩,
    ⟨0x04C, 1, 4, .ro, .reset, 0x0, 0x0⟩,
    ⟨0x050, 1, 4, .rw, .reset, 0x0, 0xFFFFFF⟩,
    ⟨0x054, 1, 4, .rw, .reset, 0x0, 0xFFFFFF⟩,
    ⟨0x058, 1, 4, .rw, .reset, 0x0, 0xFFFFFFFF⟩,
    ⟨0x05C, 1, 4, .ro, .reset, 0x0, 0x0⟩,
    ⟨0x100, 16, 4, .rw, .reset, 0x0, 0xFFFFFFFF⟩ ]

/-- Registers of the RTC page. -/
def rowsRTC : List RegRow :=
  [ ⟨0x040, 1, 4, .ro, .live, 0x0, 0x0⟩,
    ⟨0x044, 1, 4, .w1c, .reset, 0x0, 0x1F⟩,
    ⟨0x048, 1, 4, .ro, .live, 0x0, 0x0⟩,
    ⟨0x04C, 1, 4, .ro, .live, 0x0, 0x0⟩,
    ⟨0x050, 1, 4, .ro, .live, 0x7D00101, 0x0⟩,
    ⟨0x054, 1, 4, .ro, .live, 0x0, 0x0⟩,
    ⟨0x058, 1, 4, .ro, .live, 0x0, 0x0⟩,
    ⟨0x060, 1, 4, .rw, .reset, 0x0, 0x7FFF⟩,
    ⟨0x064, 1, 4, .rw, .reset, 0x0, 0x1F3F3F⟩,
    ⟨0x068, 1, 4, .rw, .reset, 0x7D00101, 0xFFF0F1F⟩,
    ⟨0x06C, 1, 4, .w1s, .reset, 0x0, 0x1⟩,
    ⟨0x070, 1, 4, .wo, .reset, 0x0, 0xFFFF⟩,
    ⟨0x080, 2, 16, .rw, .live, 0x0, 0x1F3F3F⟩,
    ⟨0x084, 2, 16, .rw, .live, 0x7D00101, 0xFFF0F1F⟩,
    ⟨0x088, 2, 16, .w1s, .reset, 0x0, 0x3⟩,
    ⟨0x08C, 2, 16, .ro, .live, 0x0, 0x0⟩,
    ⟨0x0A0, 1, 4, .rw, .durable, 0x0, 0x1⟩,
    ⟨0x0A4, 1, 4, .rw, .durable, 0x400, 0x3FFFFFF⟩,
    ⟨0x0A8, 1, 4, .ro, .live, 0x0, 0x0⟩,
    ⟨0x0B0, 1, 4, .rw, .durable, 0x3C01, 0xFF01⟩,
    ⟨0x0B4, 1, 4, .rw, .durable, 0x0, 0x3FF⟩,
    ⟨0x0B8, 1, 4, .ro, .live, 0x0, 0x0⟩ ]

/-- Registers of the TB pages. -/
def rowsTB : List RegRow :=
  [ ⟨0x040, 1, 4, .ro, .reset, 0x0, 0x0⟩,
    ⟨0x044, 1, 4, .ro, .reset, 0x0, 0x0⟩,
    ⟨0x048, 1, 4, .ro, .reset, 0x0, 0x0⟩,
    ⟨0x04C, 1, 4, .rw, .reset, 0x0, 0xFFFFFFFF⟩,
    ⟨0x050, 1, 4, .rw, .reset, 0x2, 0xFFFFFFFF⟩,
    ⟨0x054, 1, 4, .wo, .reset, 0x0, 0xFFFFFFFF⟩,
    ⟨0x058, 1, 4, .rw, .durable, 0x17F00, 0x1FF3F⟩,
    ⟨0x05C, 1, 4, .rw, .durable, 0x6403E8, 0x1FFFFFF⟩,
    ⟨0x060, 1, 4, .rw, .durable, 0x0, 0xFFFFFFFF⟩,
    ⟨0x064, 1, 4, .ro, .reset, 0x0, 0x0⟩,
    ⟨0x068, 1, 4, .ro, .reset, 0x0, 0x0⟩,
    ⟨0x06C, 1, 4, .rw, .durable, 0x200, 0x7FF⟩,
    ⟨0x070, 1, 4, .wo, .reset, 0x0, 0xFFFFFFFF⟩,
    ⟨0x074, 1, 4, .ro, .reset, 0x0, 0x0⟩,
    ⟨0x078, 1, 4, .ro, .reset, 0x0, 0x0⟩,
    ⟨0x07C, 1, 4, .ro, .reset, 0x0, 0x0⟩,
    ⟨0x080, 5, 4, .ro, .reset, 0x0, 0x0⟩,
    ⟨0x0A0, 1, 4, .ro, .reset, 0x0, 0x0⟩,
    ⟨0x0A4, 1, 4, .ro, .reset, 0x0, 0x0⟩ ]

/-- Registers of the FE page. -/
def rowsFE : List RegRow :=
  [ ⟨0x040, 1, 4, .rw, .durable, 0x10064, 0x1FFFF⟩,
    ⟨0x044, 1, 4, .ro, .reset, 0x0, 0x0⟩,
    ⟨0x048, 1, 4, .ro, .durable, 0x0, 0x0⟩,
    ⟨0x04C, 1, 4, .rw, .reset, 0x0, 0xFFFFFFFF⟩,
    ⟨0x050, 1, 4, .rw, .reset, 0x0, 0x1⟩,
    ⟨0x054, 1, 4, .rw, .reset, 0x0, 0xFFFFFFFF⟩,
    ⟨0x058, 1, 4, .wo, .reset, 0x0, 0x1⟩,
    ⟨0x05C, 1, 4, .ro, .reset, 0x0, 0x0⟩,
    ⟨0x060, 1, 4, .ro, .reset, 0x0, 0x0⟩,
    ⟨0x064, 1, 4, .ro, .reset, 0x0, 0x0⟩,
    ⟨0x068, 1, 4, .ro, .reset, 0x0, 0x0⟩,
    ⟨0x06C, 1, 4, .ro, .reset, 0x0, 0x0⟩,
    ⟨0x070, 1, 4, .ro, .reset, 0x0, 0x0⟩,
    ⟨0x074, 1, 4, .ro, .reset, 0x0, 0x0⟩,
    ⟨0x078, 1, 4, .rw, .reset, 0x0, 0xFFFFFFFF⟩,
    ⟨0x07C, 1, 4, .wo, .reset, 0x0, 0x1FFF⟩,
    ⟨0x080, 1, 4, .ro, .reset, 0x0, 0x0⟩,
    ⟨0x100, 256, 4, .ro, .reset, 0x0, 0x0⟩,
    ⟨0x500, 256, 4, .ro, .reset, 0x0, 0x0⟩,
    ⟨0x900, 256, 4, .ro, .reset, 0x0, 0x0⟩ ]

/-- Registers of the LANE page. -/
def rowsLANE : List RegRow :=
  [ ⟨0x040, 1, 4, .ro, .live, 0x0, 0x0⟩,
    ⟨0x044, 3, 4, .ro, .live, 0x0, 0x0⟩,
    ⟨0x050, 1, 4, .ro, .live, 0xFFFFFFFF, 0x0⟩,
    ⟨0x054, 1, 4, .rw, .durable, 0x3C0001, 0xFFFF0001⟩,
    ⟨0x058, 1, 4, .ro, .reset, 0x0, 0x0⟩,
    ⟨0x05C, 1, 4, .ro, .reset, 0x0, 0x0⟩ ]

/-- Registers of the MAP page. -/
def rowsMAP : List RegRow :=
  [ ⟨0x040, 1, 4, .rws, .reset, 0x0, 0xFFFF⟩,
    ⟨0x044, 1, 4, .ro, .reset, 0x0, 0x0⟩,
    ⟨0x048, 1, 4, .ro, .durable, 0x0, 0x0⟩,
    ⟨0x04C, 1, 4, .ro, .reset, 0x0, 0x0⟩,
    ⟨0x050, 1, 4, .ro, .reset, 0x0, 0x0⟩,
    ⟨0x054, 1, 4, .ro, .reset, 0x0, 0x0⟩,
    ⟨0x100, 256, 4, .ro, .reset, 0x0, 0x0⟩ ]

/-- Registers of the CLR page. -/
def rowsCLR : List RegRow :=
  [ ⟨0x040, 1, 4, .rw, .durable, 0x1F40032, 0xFFFFFFFF⟩,
    ⟨0x044, 1, 4, .ro, .reset, 0x0, 0x0⟩,
    ⟨0x048, 1, 4, .ro, .reset, 0x0, 0x0⟩,
    ⟨0x04C, 1, 4, .rw, .reset, 0x0, 0xFF⟩,
    ⟨0x050, 1, 4, .ro, .reset, 0x0, 0x0⟩,
    ⟨0x054, 1, 4, .ro, .reset, 0x0, 0x0⟩,
    ⟨0x058, 1, 4, .ro, .reset, 0x0, 0x0⟩,
    ⟨0x05C, 1, 4, .ro, .reset, 0x0, 0x0⟩,
    ⟨0x060, 1, 4, .ro, .reset, 0x0, 0x0⟩,
    ⟨0x064, 1, 4, .rw, .reset, 0x0, 0x1FFF7⟩,
    ⟨0x068, 1, 4, .rw, .reset, 0x0, 0xFFFFFFFF⟩,
    ⟨0x06C, 1, 4, .rw, .reset, 0x0, 0xFFFFFFFF⟩,
    ⟨0x070, 1, 4, .wo, .reset, 0x0, 0x3⟩,
    ⟨0x074, 1, 4, .ro, .reset, 0x0, 0x0⟩,
    ⟨0x078, 1, 4, .ro, .reset, 0x0, 0x0⟩,
    ⟨0x07C, 1, 4, .ro, .reset, 0x0, 0x0⟩,
    ⟨0x080, 8, 4, .ro, .reset, 0x0, 0x0⟩ ]

/-- Registers of the THM page. -/
def rowsTHM : List RegRow :=
  [ ⟨0x040, 1, 4, .rw, .durable, 0x1E003C, 0xFFFFFFFF⟩,
    ⟨0x044, 1, 4, .ro, .durable, 0x0, 0x0⟩,
    ⟨0x048, 1, 4, .wo, .reset, 0x0, 0x1FFFF⟩,
    ⟨0x04C, 1, 4, .ro, .reset, 0x0, 0x0⟩,
    ⟨0x050, 1, 4, .ro, .reset, 0x0, 0x0⟩,
    ⟨0x054, 1, 4, .ro, .reset, 0x0, 0x0⟩,
    ⟨0x058, 1, 4, .ro, .reset, 0x0, 0x0⟩,
    ⟨0x05C, 1, 4, .ro, .reset, 0x0, 0x0⟩,
    ⟨0x060, 1, 4, .ro, .reset, 0x0, 0x0⟩ ]

/-- Registers of the VIN page. -/
def rowsVIN : List RegRow :=
  [ ⟨0x040, 1, 4, .ro, .reset, 0x0, 0x0⟩,
    ⟨0x044, 1, 4, .ro, .reset, 0x0, 0x0⟩,
    ⟨0x100, 8, 64, .rw, .durable, 0x200, 0x3FFF⟩,
    ⟨0x104, 8, 64, .rw, .durable, 0x0, 0xFFFFFFFF⟩,
    ⟨0x108, 8, 64, .rw, .durable, 0x0, 0xFFFFFFFF⟩,
    ⟨0x10C, 8, 64, .rw, .durable, 0x0, 0xFFFFFFFF⟩,
    ⟨0x110, 8, 64, .rw, .durable, 0x0, 0xFFFFFFFF⟩,
    ⟨0x114, 8, 64, .rw, .durable, 0x0, 0xFFFF⟩,
    ⟨0x118, 8, 64, .rw, .durable, 0x4E20, 0xFFFF⟩,
    ⟨0x11C, 8, 64, .ro, .reset, 0x0, 0x0⟩,
    ⟨0x120, 8, 64, .ro, .reset, 0x0, 0x0⟩,
    ⟨0x124, 8, 64, .ro, .reset, 0x0, 0x0⟩,
    ⟨0x128, 8, 64, .ro, .reset, 0x0, 0x0⟩,
    ⟨0x12C, 8, 64, .ro, .reset, 0x0, 0x0⟩ ]

/-- Registers of the CLIP page. -/
def rowsCLIP : List RegRow :=
  [ ⟨0x040, 1, 4, .rw, .durable, 0x8, 0xF⟩,
    ⟨0x044, 1, 4, .ro, .reset, 0x0, 0x0⟩,
    ⟨0x048, 1, 4, .ro, .reset, 0x0, 0x0⟩,
    ⟨0x04C, 1, 4, .ro, .reset, 0x0, 0x0⟩,
    ⟨0x050, 1, 4, .wo, .reset, 0x0, 0xFFFF⟩,
    ⟨0x054, 1, 4, .ro, .reset, 0x0, 0x0⟩,
    ⟨0x058, 1, 4, .ro, .reset, 0x0, 0x0⟩,
    ⟨0x100, 8, 64, .rw, .durable, 0x0, 0x7⟩,
    ⟨0x104, 8, 64, .rw, .durable, 0x0, 0xFFFF⟩,
    ⟨0x108, 8, 64, .rw, .reset, 0x0, 0xFFFFFFFF⟩,
    ⟨0x10C, 8, 64, .rw, .reset, 0x100, 0xFFFF⟩,
    ⟨0x110, 8, 64, .rw, .reset, 0x0, 0xFFFFFFFF⟩,
    ⟨0x114, 8, 64, .w1s, .reset, 0x0, 0x7⟩,
    ⟨0x118, 8, 64, .ro, .reset, 0x0, 0x0⟩,
    ⟨0x11C, 8, 64, .ro, .reset, 0x0, 0x0⟩,
    ⟨0x120, 8, 64, .ro, .reset, 0x0, 0x0⟩ ]

/-- Registers of the DMK page. -/
def rowsDMK : List RegRow :=
  [ ⟨0x040, 1, 4, .ro, .reset, 0x0, 0x0⟩,
    ⟨0x044, 1, 4, .rw, .reset, 0x0, 0xFF⟩,
    ⟨0x048, 1, 4, .rw, .reset, 0x0, 0x1FF⟩,
    ⟨0x04C, 1, 4, .rw, .reset, 0x0, 0xFFFFFFFF⟩,
    ⟨0x050, 1, 4, .rw, .reset, 0x0, 0xFFFFFFFF⟩,
    ⟨0x054, 1, 4, .wo, .reset, 0x0, 0x1FF⟩,
    ⟨0x058, 1, 4, .ro, .reset, 0x0, 0x0⟩,
    ⟨0x05C, 1, 4, .ro, .reset, 0x0, 0x0⟩,
    ⟨0x060, 8, 4, .ro, .reset, 0x0, 0x0⟩ ]

/-- Registers of the UNI page. -/
def rowsUNI : List RegRow :=
  [ ⟨0x040, 1, 4, .rw, .durable, 0x6400, 0xFF3F⟩,
    ⟨0x044, 1, 4, .rw, .reset, 0x0, 0x7FF⟩,
    ⟨0x048, 1, 4, .rw, .durable, 0x0, 0x8017FFFF⟩,
    ⟨0x04C, 1, 4, .ro, .reset, 0x0, 0x0⟩,
    ⟨0x050, 1, 4, .ro, .reset, 0x0, 0x0⟩,
    ⟨0x054, 1, 4, .ro, .reset, 0x0, 0x0⟩,
    ⟨0x058, 1, 4, .ro, .reset, 0x0, 0x0⟩,
    ⟨0x05C, 1, 4, .ro, .reset, 0x0, 0x0⟩ ]

/-- Registers of the AUD page. -/
def rowsAUD : List RegRow :=
  [ ⟨0x040, 1, 4, .rw, .durable, 0x180, 0x3FF⟩,
    ⟨0x044, 4, 4, .rw, .durable, 0x0, 0xFFFFFFFF⟩,
    ⟨0x054, 1, 4, .rw, .durable, 0x0, 0xFFFF⟩,
    ⟨0x058, 1, 4, .ro, .reset, 0x0, 0x0⟩,
    ⟨0x05C, 1, 4, .ro, .reset, 0x0, 0x0⟩,
    ⟨0x100, 128, 4, .ro, .reset, 0xFC18FC18, 0x0⟩ ]

/-- Registers of the QM page. -/
def rowsQM : List RegRow :=
  [ ⟨0x040, 1, 4, .rw, .durable, 0x10000, 0x7FFFFF⟩,
    ⟨0x044, 1, 4, .ro, .reset, 0x800000, 0x0⟩,
    ⟨0x048, 1, 4, .ro, .reset, 0x800000, 0x0⟩,
    ⟨0x04C, 1, 4, .ro, .reset, 0x0, 0x0⟩,
    ⟨0x050, 1, 4, .ro, .reset, 0x0, 0x0⟩,
    ⟨0x054, 1, 4, .ro, .reset, 0x0, 0x0⟩,
    ⟨0x058, 1, 4, .rw, .durable, 0xE10, 0xFFFF⟩,
    ⟨0x05C, 1, 4, .ro, .durable, 0x0, 0x0⟩,
    ⟨0x060, 1, 4, .ro, .reset, 0x0, 0x0⟩,
    ⟨0x064, 1, 4, .ro, .reset, 0x0, 0x0⟩,
    ⟨0x068, 1, 4, .ro, .reset, 0x0, 0x0⟩,
    ⟨0x06C, 1, 4, .ro, .reset, 0x0, 0x0⟩,
    ⟨0x070, 1, 4, .rw, .reset, 0x0, 0x3FFF⟩,
    ⟨0x074, 1, 4, .rw, .reset, 0x0, 0xFFFF⟩,
    ⟨0x078, 1, 4, .rw, .reset, 0x0, 0x7FFFFF⟩,
    ⟨0x07C, 1, 4, .rw, .reset, 0x0, 0x7FFFFF⟩,
    ⟨0x080, 1, 4, .ro, .reset, 0x0, 0x0⟩,
    ⟨0x084, 1, 4, .ro, .reset, 0x0, 0x0⟩,
    ⟨0x088, 1, 4, .w1s, .reset, 0x0, 0x1⟩,
    ⟨0x100, 4, 32, .rw, .reset, 0x0, 0xFFFFFFF8⟩,
    ⟨0x104, 4, 32, .rw, .reset, 0x0, 0xFFFF⟩,
    ⟨0x108, 4, 32, .rw, .reset, 0x8, 0xF⟩,
    ⟨0x10C, 4, 32, .ro, .reset, 0x0, 0x0⟩,
    ⟨0x110, 4, 32, .rw, .reset, 0x0, 0x1⟩ ]

/-- Registers of the DSP page. -/
def rowsDSP : List RegRow :=
  [ ⟨0x040, 8, 4, .rw, .durable, 0x400, 0x1FFF⟩,
    ⟨0x060, 1, 4, .rw, .durable, 0x40, 0x1FF⟩ ]

/-- Registers of the FLT page. -/
def rowsFLT : List RegRow :=
  [ ⟨0x040, 1, 4, .rw, .durable, 0xC0090000, 0xFFFF000F⟩,
    ⟨0x044, 1, 4, .rw, .durable, 0x0, 0x13F3F⟩,
    ⟨0x048, 1, 4, .rw, .durable, 0x0, 0x3⟩,
    ⟨0x04C, 4, 4, .rw, .durable, 0x0, 0xFFFFFFFF⟩,
    ⟨0x05C, 1, 4, .ro, .durable, 0x0, 0x0⟩,
    ⟨0x060, 1, 4, .ro, .reset, 0x0, 0x0⟩,
    ⟨0x064, 1, 4, .ro, .reset, 0x0, 0x0⟩,
    ⟨0x068, 1, 4, .ro, .reset, 0x0, 0x0⟩,
    ⟨0x06C, 1, 4, .ro, .reset, 0x0, 0x0⟩,
    ⟨0x080, 16, 4, .rw, .reset, 0x0, 0xFFFFFFFF⟩,
    ⟨0x0C0, 1, 4, .w1s, .reset, 0x0, 0x1⟩,
    ⟨0x0C4, 1, 4, .ro, .reset, 0x0, 0x0⟩,
    ⟨0x0D0, 1, 4, .ro, .durable, 0x0, 0x0⟩,
    ⟨0x0D4, 1, 4, .rw, .reset, 0x0, 0xFFFFFFFF⟩,
    ⟨0x0D8, 1, 4, .ro, .durable, 0x0, 0x0⟩,
    ⟨0x0DC, 1, 4, .ro, .reset, 0x0, 0x0⟩,
    ⟨0x0E0, 8, 4, .ro, .reset, 0x0, 0x0⟩,
    ⟨0x100, 1, 4, .rw, .durable, 0x41E0384, 0xFFFFFFFF⟩,
    ⟨0x104, 1, 4, .rw, .durable, 0x0, 0xFFFF⟩,
    ⟨0x108, 1, 4, .rw, .durable, 0x64, 0xFFFF⟩,
    ⟨0x10C, 1, 4, .ro, .reset, 0x0, 0x0⟩,
    ⟨0x110, 1, 4, .ro, .reset, 0x0, 0x0⟩,
    ⟨0x114, 1, 4, .ro, .reset, 0x0, 0x0⟩,
    ⟨0x118, 1, 4, .ro, .reset, 0x0, 0x0⟩ ]
  ++ [ ⟨0x11C, 1, 4, .ro, .reset, 0x0, 0x0⟩,
    ⟨0x140, 1, 4, .rw, .reset, 0x0, 0x1F⟩,
    ⟨0x144, 1, 4, .ro, .durable, 0x0, 0x0⟩,
    ⟨0x148, 1, 4, .ro, .durable, 0x0, 0x0⟩,
    ⟨0x14C, 1, 4, .ro, .durable, 0x0, 0x0⟩,
    ⟨0x150, 1, 4, .ro, .durable, 0x0, 0x0⟩,
    ⟨0x154, 1, 4, .w1s, .reset, 0x0, 0xF⟩,
    ⟨0x158, 1, 4, .rw, .reset, 0x0, 0x1FFF⟩,
    ⟨0x15C, 1, 4, .rw, .reset, 0x0, 0xFFFFFFFF⟩,
    ⟨0x160, 1, 4, .ro, .reset, 0x0, 0x0⟩,
    ⟨0x164, 1, 4, .ro, .reset, 0x0, 0x0⟩,
    ⟨0x168, 1, 4, .ro, .reset, 0x0, 0x0⟩,
    ⟨0x16C, 1, 4, .ro, .reset, 0x0, 0x0⟩,
    ⟨0x170, 1, 4, .rw, .reset, 0x0, 0xFFF⟩,
    ⟨0x174, 1, 4, .ro, .reset, 0x0, 0x0⟩,
    ⟨0x178, 1, 4, .rw, .durable, 0x8, 0xF⟩,
    ⟨0x180, 1, 4, .ro, .reset, 0x0, 0x0⟩,
    ⟨0x184, 1, 4, .ro, .reset, 0x0, 0x0⟩ ]

/-- Registers of the SCH page. -/
def rowsSCH : List RegRow :=
  [ ⟨0x040, 1, 4, .rw, .durable, 0xA01, 0xFF01⟩,
    ⟨0x044, 1, 4, .rw, .durable, 0x0, 0xFFFFFFFF⟩,
    ⟨0x048, 1, 4, .rw, .durable, 0x0, 0xFFFFFFFF⟩,
    ⟨0x04C, 1, 4, .rw, .durable, 0x237B, 0xFFFF⟩,
    ⟨0x050, 1, 4, .rw, .durable, 0x0, 0xFFFFFFFF⟩,
    ⟨0x054, 1, 4, .rw, .durable, 0x0, 0xFFFFFFFF⟩,
    ⟨0x058, 1, 4, .rw, .durable, 0x0, 0xFFFFFFFF⟩,
    ⟨0x05C, 1, 4, .ro, .reset, 0x1FFFF, 0x0⟩,
    ⟨0x060, 1, 4, .ro, .reset, 0x1FFFF, 0x0⟩,
    ⟨0x064, 1, 4, .ro, .reset, 0x0, 0x0⟩,
    ⟨0x068, 1, 4, .ro, .reset, 0xFFFFFFFF, 0x0⟩,
    ⟨0x06C, 1, 4, .ro, .reset, 0x0, 0x0⟩,
    ⟨0x070, 1, 4, .ro, .reset, 0x0, 0x0⟩,
    ⟨0x074, 1, 4, .ro, .reset, 0x0, 0x0⟩,
    ⟨0x078, 1, 4, .rw, .reset, 0x0, 0xFFF⟩,
    ⟨0x07C, 1, 4, .ro, .reset, 0x8000, 0x0⟩,
    ⟨0x080, 1, 4, .ro, .reset, 0x0, 0x0⟩,
    ⟨0x410, 252, 4, .rw, .durable, 0x0, 0xFFFFFFFF⟩,
    ⟨0x800, 64, 4, .ro, .reset, 0x4000, 0x0⟩ ]

/-- Registers of the MTR page. -/
def rowsMTR : List RegRow :=
  [ ⟨0x040, 1, 4, .rws, .durable, 0x30005, 0x3FFFF⟩,
    ⟨0x044, 1, 4, .ro, .reset, 0x0, 0x0⟩,
    ⟨0x048, 1, 4, .ro, .reset, 0x0, 0x0⟩,
    ⟨0x04C, 1, 4, .rws, .durable, 0xFFFFFFFF, 0xFFFFFFFF⟩,
    ⟨0x050, 3, 32, .ro, .reset, 0x0, 0x0⟩,
    ⟨0x054, 3, 32, .ro, .reset, 0x0, 0x0⟩,
    ⟨0x058, 3, 32, .ro, .reset, 0x0, 0x0⟩,
    ⟨0x05C, 3, 32, .ro, .reset, 0x0, 0x0⟩,
    ⟨0x060, 3, 32, .ro, .reset, 0x0, 0x0⟩,
    ⟨0x064, 3, 32, .ro, .reset, 0x0, 0x0⟩,
    ⟨0x100, 3, 32, .ro, .durable, 0x0, 0x0⟩,
    ⟨0x104, 3, 32, .ro, .durable, 0x0, 0x0⟩,
    ⟨0x108, 3, 32, .ro, .durable, 0x0, 0x0⟩,
    ⟨0x10C, 3, 32, .ro, .durable, 0x0, 0x0⟩,
    ⟨0x110, 3, 32, .ro, .durable, 0x0, 0x0⟩,
    ⟨0x114, 3, 32, .ro, .durable, 0x0, 0x0⟩,
    ⟨0x118, 3, 32, .ro, .durable, 0x0, 0x0⟩,
    ⟨0x11C, 3, 32, .ro, .durable, 0x0, 0x0⟩,
    ⟨0x160, 2, 4, .ro, .durable, 0x0, 0x0⟩,
    ⟨0x168, 1, 4, .ro, .durable, 0x0, 0x0⟩ ]

/-- Registers of the PSU page. -/
def rowsPSU : List RegRow :=
  [ ⟨0x040, 1, 4, .rw, .durable, 0x7D0750, 0xFF0FFF⟩,
    ⟨0x044, 1, 4, .ro, .live, 0x0, 0x0⟩,
    ⟨0x048, 1, 4, .ro, .reset, 0x0, 0x0⟩,
    ⟨0x04C, 1, 4, .ro, .reset, 0x0, 0x0⟩,
    ⟨0x050, 1, 4, .ro, .reset, 0x0, 0x0⟩,
    ⟨0x054, 1, 4, .ro, .reset, 0x0, 0x0⟩,
    ⟨0x058, 1, 4, .ro, .reset, 0x0, 0x0⟩,
    ⟨0x05C, 1, 4, .ro, .reset, 0x0, 0x0⟩,
    ⟨0x060, 8, 4, .ro, .reset, 0x0, 0x0⟩,
    ⟨0x080, 1, 4, .ro, .durable, 0x0, 0x0⟩,
    ⟨0x084, 1, 4, .ro, .durable, 0x0, 0x0⟩,
    ⟨0x088, 1, 4, .ro, .durable, 0x0, 0x0⟩,
    ⟨0x08C, 1, 4, .w1s, .reset, 0x0, 0x3⟩ ]

/-- Registers of the GZP pages. -/
def rowsGZP : List RegRow :=
  [ ⟨0x040, 1, 4, .rw, .durable, 0x3440, 0x37F3⟩,
    ⟨0x044, 1, 4, .ro, .reset, 0x0, 0x0⟩,
    ⟨0x048, 1, 4, .w1c, .reset, 0x0, 0x7FF⟩,
    ⟨0x04C, 1, 4, .ro, .reset, 0x0, 0x0⟩,
    ⟨0x050, 1, 4, .w1s, .reset, 0x0, 0xF⟩,
    ⟨0x054, 1, 4, .ro, .reset, 0x0, 0x0⟩,
    ⟨0x058, 1, 4, .ro, .reset, 0x0, 0x0⟩,
    ⟨0x05C, 1, 4, .ro, .reset, 0x0, 0x0⟩,
    ⟨0x060, 4, 4, .ro, .reset, 0x0, 0x0⟩,
    ⟨0x070, 4, 4, .ro, .reset, 0x0, 0x0⟩,
    ⟨0x080, 1, 4, .ro, .reset, 0xFFFFFFFF, 0x0⟩,
    ⟨0x084, 1, 4, .rw, .durable, 0x3C0064, 0xFFFFFFFF⟩,
    ⟨0x088, 1, 4, .ro, .reset, 0x0, 0x0⟩,
    ⟨0x08C, 1, 4, .rw, .durable, 0xF1018, 0xFF3F3F⟩,
    ⟨0x0A0, 1, 4, .ro, .reset, 0x0, 0x0⟩,
    ⟨0x0A4, 1, 4, .ro, .reset, 0x0, 0x0⟩,
    ⟨0x0A8, 1, 4, .ro, .reset, 0x0, 0x0⟩,
    ⟨0x0AC, 1, 4, .ro, .reset, 0x0, 0x0⟩,
    ⟨0x0B0, 1, 4, .ro, .reset, 0x0, 0x0⟩,
    ⟨0x100, 1, 4, .rw, .durable, 0x3203E8, 0xFFFFFFFF⟩,
    ⟨0x104, 1, 4, .rw, .durable, 0xFA0064, 0xFFFFFFFF⟩,
    ⟨0x108, 1, 4, .rw, .durable, 0x3E8, 0xFFFF⟩,
    ⟨0x10C, 1, 4, .rw, .durable, 0x3E8FFFF, 0xFFFFFFFF⟩,
    ⟨0x110, 8, 4, .rw, .durable, 0x0, 0xFFFF⟩ ]
  ++ [ ⟨0x130, 1, 4, .w1s, .reset, 0x0, 0x3⟩,
    ⟨0x134, 1, 4, .ro, .reset, 0x0, 0x0⟩,
    ⟨0x138, 1, 4, .ro, .reset, 0x0, 0x0⟩,
    ⟨0x13C, 1, 4, .ro, .reset, 0x0, 0x0⟩,
    ⟨0x140, 1, 4, .ro, .reset, 0x0, 0x0⟩,
    ⟨0x144, 1, 4, .ro, .reset, 0x0, 0x0⟩,
    ⟨0x148, 1, 4, .ro, .reset, 0x0, 0x0⟩,
    ⟨0x14C, 1, 4, .ro, .reset, 0x0, 0x0⟩,
    ⟨0x150, 1, 4, .ro, .reset, 0x0, 0x0⟩,
    ⟨0x154, 1, 4, .ro, .reset, 0x0, 0x0⟩,
    ⟨0x158, 1, 4, .ro, .reset, 0x0, 0x0⟩,
    ⟨0x15C, 1, 4, .ro, .reset, 0x0, 0x0⟩,
    ⟨0x160, 1, 4, .rw, .reset, 0x0, 0xFFF⟩,
    ⟨0x164, 7, 4, .ro, .reset, 0x0, 0x0⟩,
    ⟨0x180, 1, 4, .ro, .reset, 0x0, 0x0⟩,
    ⟨0x184, 1, 4, .ro, .reset, 0x0, 0x0⟩ ]

/-- Registers of the GZR pages. -/
def rowsGZR : List RegRow :=
  [ ⟨0x040, 1, 4, .rw, .durable, 0x0, 0x7⟩,
    ⟨0x044, 1, 4, .ro, .reset, 0x0, 0x0⟩,
    ⟨0x048, 1, 4, .ro, .reset, 0x0, 0x0⟩,
    ⟨0x04C, 1, 4, .ro, .reset, 0x0, 0x0⟩,
    ⟨0x050, 1, 4, .ro, .reset, 0x0, 0x0⟩,
    ⟨0x054, 1, 4, .ro, .reset, 0x0, 0x0⟩,
    ⟨0x058, 1, 4, .ro, .reset, 0x0, 0x0⟩ ]

/-- Registers of the DOM pages. -/
def rowsDOM : List RegRow :=
  [ ⟨0x040, 1, 4, .rw, .durable, 0x1F40010, 0xFFFF0017⟩,
    ⟨0x044, 1, 4, .ro, .reset, 0x0, 0x0⟩,
    ⟨0x048, 1, 4, .w1c, .reset, 0x0, 0xFF⟩,
    ⟨0x04C, 1, 4, .ro, .reset, 0x0, 0x0⟩,
    ⟨0x050, 1, 4, .ro, .reset, 0x0, 0x0⟩,
    ⟨0x054, 1, 4, .w1s, .reset, 0x0, 0x1⟩,
    ⟨0x058, 1, 4, .ro, .reset, 0x0, 0x0⟩,
    ⟨0x05C, 1, 4, .ro, .reset, 0x0, 0x0⟩,
    ⟨0x060, 1, 4, .ro, .reset, 0x0, 0x0⟩,
    ⟨0x064, 1, 4, .ro, .reset, 0x0, 0x0⟩ ]

/-- Registers of the DMX pages. -/
def rowsDMX : List RegRow :=
  [ ⟨0x040, 1, 4, .rw, .durable, 0x2, 0x7⟩,
    ⟨0x044, 1, 4, .rw, .durable, 0xC00B0, 0xFFFFFFFF⟩,
    ⟨0x048, 1, 4, .rw, .durable, 0x200, 0x3FF⟩,
    ⟨0x04C, 1, 4, .rw, .durable, 0x0, 0xFFFF⟩,
    ⟨0x050, 1, 4, .ro, .reset, 0x0, 0x0⟩,
    ⟨0x054, 1, 4, .w1c, .reset, 0x0, 0xF⟩,
    ⟨0x058, 1, 4, .ro, .reset, 0x0, 0x0⟩,
    ⟨0x05C, 1, 4, .ro, .reset, 0x0, 0x0⟩,
    ⟨0x060, 1, 4, .ro, .reset, 0x0, 0x0⟩,
    ⟨0x064, 1, 4, .ro, .reset, 0x0, 0x0⟩,
    ⟨0x068, 1, 4, .ro, .reset, 0x0, 0x0⟩,
    ⟨0x06C, 1, 4, .ro, .reset, 0x0, 0x0⟩,
    ⟨0x070, 1, 4, .ro, .durable, 0x0, 0x0⟩,
    ⟨0x074, 1, 4, .ro, .durable, 0x0, 0x0⟩,
    ⟨0x078, 1, 4, .w1s, .reset, 0x0, 0x3⟩,
    ⟨0x07C, 1, 4, .ro, .reset, 0x0, 0x0⟩,
    ⟨0x080, 1, 4, .ro, .reset, 0x0, 0x0⟩,
    ⟨0x084, 1, 4, .rw, .reset, 0x0, 0x1FF⟩,
    ⟨0x088, 1, 4, .ro, .reset, 0x0, 0x0⟩,
    ⟨0x08C, 1, 4, .ro, .reset, 0x0, 0x0⟩,
    ⟨0x100, 64, 4, .rw, .reset, 0x0, 0xFFFFFFFF⟩,
    ⟨0x200, 256, 4, .ro, .reset, 0x0, 0x0⟩ ]

/-- Registers of the SIO page. -/
def rowsSIO : List RegRow :=
  [ ⟨0x040, 8, 4, .rw, .durable, 0x0, 0xF3⟩,
    ⟨0x060, 8, 4, .ro, .reset, 0x0, 0x0⟩,
    ⟨0x080, 8, 4, .rw, .durable, 0xFFFF0000, 0xFFFFFFFF⟩,
    ⟨0x0A0, 1, 4, .rw, .durable, 0x0, 0xFFFFFFFF⟩,
    ⟨0x0A4, 1, 4, .rw, .durable, 0x0, 0xFF⟩,
    ⟨0x0A8, 1, 4, .ro, .reset, 0x0, 0x0⟩,
    ⟨0x0C0, 8, 4, .ro, .reset, 0x0, 0x0⟩,
    ⟨0x0E0, 4, 4, .rw, .durable, 0x0, 0x3⟩,
    ⟨0x0F0, 1, 4, .rw, .reset, 0x0, 0xFFFFFFFF⟩,
    ⟨0x0F4, 1, 4, .wo, .reset, 0x0, 0x1F⟩,
    ⟨0x0F8, 1, 4, .ro, .reset, 0x0, 0x0⟩,
    ⟨0x0FC, 1, 4, .w1s, .reset, 0x0, 0xF⟩ ]

/-- Registers of the MISC page. -/
def rowsMISC : List RegRow :=
  [ ⟨0x040, 1, 4, .ro, .durable, 0x0, 0x0⟩,
    ⟨0x044, 1, 4, .ro, .durable, 0x0, 0x0⟩,
    ⟨0x048, 1, 4, .rw, .durable, 0x0, 0xFFFF⟩,
    ⟨0x04C, 1, 4, .rw, .durable, 0x0, 0x3⟩,
    ⟨0x050, 1, 4, .ro, .durable, 0x0, 0x0⟩,
    ⟨0x060, 4, 4, .rw, .reset, 0x0, 0xFFFFFFFF⟩ ]

/-- Registers of the ETH pages. -/
def rowsETH : List RegRow :=
  [ ⟨0x040, 1, 4, .rw, .durable, 0x18, 0xFFF00FF⟩,
    ⟨0x044, 1, 4, .ro, .reset, 0x0, 0x0⟩,
    ⟨0x048, 1, 4, .rw, .durable, 0x0, 0xFFFFFFFF⟩,
    ⟨0x04C, 1, 4, .rw, .durable, 0x0, 0xFFFF⟩,
    ⟨0x050, 1, 4, .rw, .durable, 0x0, 0xFFFFFFFF⟩,
    ⟨0x054, 1, 4, .rw, .durable, 0x0, 0x13F⟩,
    ⟨0x058, 1, 4, .rw, .durable, 0x0, 0xFFFFFFFF⟩,
    ⟨0x060, 4, 4, .rw, .durable, 0x0, 0xFFFFFFFF⟩,
    ⟨0x070, 1, 4, .rw, .durable, 0x0, 0x1FF⟩,
    ⟨0x080, 12, 8, .ro, .reset, 0x0, 0x0⟩,
    ⟨0x0E0, 4, 8, .rw, .reset, 0x0, 0xFFFFFFFF⟩,
    ⟨0x084, 12, 8, .ro, .reset, 0x0, 0x0⟩,
    ⟨0x0E4, 4, 8, .rw, .reset, 0x0, 0x1FFFF⟩,
    ⟨0x100, 1, 4, .rw, .durable, 0xA00C0, 0xFF0FFF⟩,
    ⟨0x104, 1, 4, .ro, .reset, 0x0, 0x0⟩,
    ⟨0x108, 1, 4, .rw, .durable, 0xA0001, 0xFFFFFF01⟩,
    ⟨0x10C, 1, 4, .rw, .durable, 0xFAC688, 0xFFFFFF⟩,
    ⟨0x110, 1, 4, .ro, .reset, 0x0, 0x0⟩,
    ⟨0x120, 1, 4, .rw, .durable, 0x0, 0x1⟩,
    ⟨0x124, 1, 4, .w1s, .reset, 0x0, 0x1⟩,
    ⟨0x128, 1, 4, .ro, .reset, 0x0, 0x0⟩,
    ⟨0x12C, 1, 4, .rw, .durable, 0x0, 0xFFFFFFFF⟩,
    ⟨0x130, 1, 4, .rw, .durable, 0x0, 0xFFFFFFFF⟩,
    ⟨0x134, 1, 4, .rw, .durable, 0x0, 0xFFFFFFFF⟩ ]
  ++ [ ⟨0x138, 1, 4, .ro, .reset, 0x0, 0x0⟩,
    ⟨0x13C, 1, 4, .ro, .reset, 0x0, 0x0⟩,
    ⟨0x140, 1, 4, .ro, .reset, 0x0, 0x0⟩,
    ⟨0x150, 1, 4, .ro, .reset, 0x0, 0x0⟩,
    ⟨0x154, 1, 4, .ro, .reset, 0x0, 0x0⟩,
    ⟨0x158, 1, 4, .ro, .reset, 0x0, 0x0⟩,
    ⟨0x15C, 1, 4, .w1c, .reset, 0x0, 0x1⟩,
    ⟨0x160, 1, 4, .ro, .reset, 0x0, 0x0⟩,
    ⟨0x168, 1, 4, .ro, .reset, 0x0, 0x0⟩,
    ⟨0x16C, 1, 4, .ro, .reset, 0x0, 0x0⟩,
    ⟨0x170, 1, 4, .rw, .durable, 0xC0080003, 0xFFFF0007⟩,
    ⟨0x174, 1, 4, .ro, .reset, 0x0, 0x0⟩,
    ⟨0x180, 1, 4, .ro, .reset, 0x0, 0x0⟩,
    ⟨0x184, 1, 4, .rw, .durable, 0x0, 0x1⟩,
    ⟨0x188, 1, 4, .ro, .reset, 0x0, 0x0⟩,
    ⟨0x18C, 1, 4, .ro, .reset, 0x0, 0x0⟩,
    ⟨0x190, 1, 4, .ro, .reset, 0x0, 0x0⟩,
    ⟨0x200, 1, 4, .ro, .reset, 0x0, 0x0⟩,
    ⟨0x204, 1, 4, .ro, .reset, 0x0, 0x0⟩,
    ⟨0x208, 1, 4, .ro, .reset, 0x0, 0x0⟩,
    ⟨0x20C, 1, 4, .ro, .reset, 0x0, 0x0⟩,
    ⟨0x210, 1, 4, .ro, .reset, 0x0, 0x0⟩,
    ⟨0x214, 1, 4, .ro, .reset, 0x0, 0x0⟩,
    ⟨0x220, 6, 4, .ro, .reset, 0x0, 0x0⟩ ]
  ++ [ ⟨0x240, 1, 4, .ro, .reset, 0x0, 0x0⟩,
    ⟨0x244, 1, 4, .ro, .reset, 0x0, 0x0⟩,
    ⟨0x248, 1, 4, .ro, .reset, 0x0, 0x0⟩,
    ⟨0x24C, 1, 4, .ro, .reset, 0x0, 0x0⟩,
    ⟨0x250, 1, 4, .ro, .reset, 0x0, 0x0⟩,
    ⟨0x254, 1, 4, .ro, .reset, 0x0, 0x0⟩,
    ⟨0x400, 64, 4, .rw, .durable, 0x0, 0xFFFFFFFF⟩,
    ⟨0x500, 64, 4, .ro, .reset, 0x0, 0x0⟩ ]

/-- Registers of the EDUP page. -/
def rowsEDUP : List RegRow :=
  [ ⟨0x040, 1, 4, .rw, .durable, 0x2710, 0xFFFF⟩,
    ⟨0x100, 8, 64, .ro, .reset, 0x0, 0x0⟩,
    ⟨0x104, 8, 64, .ro, .reset, 0x0, 0x0⟩,
    ⟨0x108, 8, 64, .ro, .reset, 0x0, 0x0⟩,
    ⟨0x10C, 8, 64, .ro, .reset, 0x0, 0x0⟩,
    ⟨0x110, 8, 64, .ro, .reset, 0x0, 0x0⟩,
    ⟨0x114, 8, 64, .ro, .reset, 0x0, 0x0⟩,
    ⟨0x118, 8, 64, .ro, .reset, 0x0, 0x0⟩ ]

/-- Registers of the RAD page. -/
def rowsRAD : List RegRow :=
  [ ⟨0x040, 1, 4, .rw, .durable, 0x1FFFE, 0x3FFFF⟩,
    ⟨0x044, 1, 4, .ro, .durable, 0x0, 0x0⟩,
    ⟨0x048, 1, 4, .ro, .durable, 0x0, 0x0⟩,
    ⟨0x04C, 1, 4, .rw, .durable, 0x1000, 0xFFFF⟩,
    ⟨0x050, 1, 4, .rw, .durable, 0x6403E8, 0xFFFFFFFF⟩,
    ⟨0x054, 1, 4, .rw, .durable, 0x0, 0xFFFFFFFF⟩,
    ⟨0x058, 1, 4, .rw, .durable, 0x0, 0x3F⟩,
    ⟨0x05C, 1, 4, .rw, .durable, 0xFFFFFFFF, 0xFFFFFFFF⟩,
    ⟨0x060, 1, 4, .rw, .durable, 0xFFFFFFFF, 0xFFFFFFFF⟩,
    ⟨0x064, 1, 4, .rw, .durable, 0x140032, 0xFF01FF⟩,
    ⟨0x068, 1, 4, .rw, .durable, 0x1, 0x1⟩,
    ⟨0x070, 1, 4, .rw, .durable, 0x64FFFF, 0xFFFFFFFF⟩,
    ⟨0x074, 1, 4, .rw, .durable, 0x7D0, 0xFFFF⟩,
    ⟨0x078, 1, 4, .rw, .durable, 0xFFFFFFFF, 0xFFFFFFFF⟩,
    ⟨0x07C, 1, 4, .rw, .durable, 0xFFFFFFFF, 0xFFFFFFFF⟩,
    ⟨0x080, 1, 4, .ro, .reset, 0x0, 0x0⟩,
    ⟨0x084, 1, 4, .ro, .reset, 0x0, 0x0⟩,
    ⟨0x088, 1, 4, .ro, .reset, 0x0, 0x0⟩,
    ⟨0x090, 2, 4, .ro, .reset, 0x0, 0x0⟩,
    ⟨0x098, 14, 4, .rw, .reset, 0x0, 0x1FFFF⟩,
    ⟨0x0E0, 1, 4, .ro, .reset, 0x0, 0x0⟩,
    ⟨0x0E4, 1, 4, .ro, .reset, 0x0, 0x0⟩,
    ⟨0x0E8, 1, 4, .ro, .reset, 0x0, 0x0⟩,
    ⟨0x0EC, 1, 4, .ro, .reset, 0x0, 0x0⟩ ]
  ++ [ ⟨0x0F0, 1, 4, .ro, .reset, 0x0, 0x0⟩,
    ⟨0x0F4, 1, 4, .ro, .reset, 0x0, 0x0⟩,
    ⟨0x0F8, 1, 4, .ro, .reset, 0x0, 0x0⟩,
    ⟨0x0FC, 1, 4, .ro, .reset, 0x0, 0x0⟩,
    ⟨0x100, 1, 4, .ro, .reset, 0x0, 0x0⟩,
    ⟨0x104, 1, 4, .ro, .reset, 0x0, 0x0⟩,
    ⟨0x110, 1, 4, .rw, .reset, 0x0, 0x3FF⟩,
    ⟨0x114, 8, 4, .ro, .reset, 0x0, 0x0⟩,
    ⟨0x200, 32, 4, .ro, .reset, 0x0, 0x0⟩ ]

/-- Registers of the RFE page. -/
def rowsRFE : List RegRow :=
  [ ⟨0x040, 1, 4, .rw, .durable, 0x80, 0xFFFD⟩,
    ⟨0x044, 1, 4, .rw, .durable, 0xD2B95, 0x3FFFFF⟩,
    ⟨0x048, 1, 4, .rw, .durable, 0x2300C8, 0x7FFFFF⟩,
    ⟨0x04C, 1, 4, .rw, .durable, 0xE, 0x3F⟩,
    ⟨0x050, 1, 4, .rw, .durable, 0xB5, 0xFF⟩,
    ⟨0x054, 1, 4, .rw, .durable, 0x0, 0x3F⟩,
    ⟨0x058, 1, 4, .rw, .durable, 0x0, 0x3F⟩,
    ⟨0x05C, 1, 4, .rw, .durable, 0x0, 0x3F⟩,
    ⟨0x060, 1, 4, .rw, .durable, 0x2, 0xFF⟩,
    ⟨0x064, 1, 4, .rw, .durable, 0x0, 0x3FFF⟩,
    ⟨0x068, 1, 4, .ro, .reset, 0x0, 0x0⟩,
    ⟨0x06C, 1, 4, .ro, .reset, 0x0, 0x0⟩,
    ⟨0x070, 1, 4, .ro, .reset, 0x0, 0x0⟩,
    ⟨0x074, 1, 4, .ro, .reset, 0x0, 0x0⟩,
    ⟨0x078, 1, 4, .ro, .reset, 0x0, 0x0⟩ ]

/-- The rows of the block at a page (R74); none for an unpopulated page. -/
def pageRows (pg : Nat) : List RegRow :=
  if pg == 0 then rowsSYS
  else if pg == 1 then rowsPWR
  else if pg == 2 then rowsEVR
  else if pg == 3 then rowsHIF
  else if pg == 4 then rowsPRT
  else if pg == 5 then rowsFUSE
  else if pg == 6 then rowsKEY
  else if pg == 7 then rowsTAMP
  else if pg == 8 then rowsUPD
  else if pg == 9 then rowsBIST
  else if pg == 10 then rowsCAL
  else if pg == 11 then rowsRTC
  else if 12 <= pg && pg < 16 then rowsTB
  else if pg == 16 then rowsFE
  else if pg == 17 then rowsLANE
  else if pg == 18 then rowsMAP
  else if pg == 19 then rowsCLR
  else if pg == 20 then rowsTHM
  else if pg == 21 then rowsVIN
  else if pg == 22 then rowsCLIP
  else if pg == 23 then rowsDMK
  else if pg == 24 then rowsUNI
  else if pg == 25 then rowsAUD
  else if pg == 26 then rowsQM
  else if pg == 27 then rowsDSP
  else if pg == 28 then rowsFLT
  else if pg == 29 then rowsSCH
  else if pg == 30 then rowsMTR
  else if pg == 31 then rowsPSU
  else if 32 <= pg && pg < 64 then rowsGZP
  else if 64 <= pg && pg < 80 then rowsGZR
  else if 80 <= pg && pg < 96 then rowsDOM
  else if 96 <= pg && pg < 100 then rowsDMX
  else if pg == 100 then rowsSIO
  else if pg == 101 then rowsMISC
  else if 104 <= pg && pg < 108 then rowsETH
  else if pg == 108 then rowsEDUP
  else if pg == 112 then rowsRAD
  else if pg == 113 then rowsRFE
  else []

/-- Whether the page is one of the 109 populated pages of R74. -/
def populated (pg : Nat) : Bool :=
  pg < 0x66 || (0x68 <= pg && pg < 0x6D) || pg == 0x70 || pg == 0x71

/-- Whether offset `o` of a page lies in the row. -/
def RegRow.covers (r : RegRow) (o : Nat) : Bool :=
  r.off ≤ o && (o - r.off) % r.stride == 0 && (o - r.off) / r.stride < r.cnt

/-- The row of the register at a window address; none where the tables list no register. -/
def regRow (addr : Nat) : Option RegRow :=
  (pageRows (addr / 0x1000)).find? (fun r => r.covers (addr % 0x1000))

/-- The processor that owns the page of an event source, as its bit in ROUTE (R13, R94, R96, R100): SC 1, PP 2, FP 4, RP 8. -/
def ownerBit (src : Nat) : Word :=
  if src < 48 then 1
  else if src < 80 then 2
  else if src < 92 then 4
  else if src < 96 then 1
  else if src < 164 then 2
  else if src < 176 then 4
  else if src < 192 then 8
  else 1

/-- The factory value of a ROUTE register: the owner bit only (R98). -/
def routeFactory (src : Nat) : Word := ownerBit src

/-- What a register that nothing has written reads as: its Reset column, 0 where the tables list none (R10). -/
def regDefault (addr : Nat) : Word :=
  if 0x2400 <= addr && addr < 0x2800 then routeFactory ((addr - 0x2400) / 4)
  else
    match regRow addr with
    | some r => r.reset
    | none => 0

end Sys2Proof.Machine

/-! Names of the register addresses: `Reg.<PAGE>.<REGISTER>`, with the page's index and the register's index as arguments. -/
namespace Sys2Proof.Reg

abbrev SYS.MODE : Nat := 0x40
abbrev SYS.MODE_REQ : Nat := 0x44
abbrev SYS.MODE_STATUS : Nat := 0x48
abbrev SYS.BOOT_CFG : Nat := 0x4C
abbrev SYS.DOZE_CFG : Nat := 0x50
abbrev SYS.WAKE_EN : Nat := 0x54
abbrev SYS.WAKE_CAUSE : Nat := 0x58
abbrev SYS.RESET_CAUSE : Nat := 0x5C
abbrev SYS.RESET_REQ : Nat := 0x60
abbrev SYS.WDOG_CNT : Nat := 0x64
abbrev SYS.PROC_STATE : Nat := 0x68
abbrev SYS.JOURNAL_SEQ : Nat := 0x6C
abbrev SYS.BOOT_SEL : Nat := 0x70
abbrev SYS.UPTIME : Nat := 0x74
abbrev SYS.READY_MAP (i : Nat) : Nat := 0x80 + 4 * i

abbrev PWR.DOMAIN_STATE : Nat := 0x1040
abbrev PWR.CLK_STATE : Nat := 0x1044
abbrev PWR.PLL_LOSS : Nat := 0x1048
abbrev PWR.DIE_TEMP : Nat := 0x104C
abbrev PWR.AON_TEMP : Nat := 0x1050
abbrev PWR.DOMAIN_FAULT : Nat := 0x1054

abbrev EVR.SWGEN : Nat := 0x2040
abbrev EVR.ACTIVE (i : Nat) : Nat := 0x2080 + 4 * i
abbrev EVR.ROUTE (i : Nat) : Nat := 0x2400 + 4 * i

abbrev HIF.LINK_STATUS : Nat := 0x3040
abbrev HIF.WIN_SEL : Nat := 0x3044
abbrev HIF.WIN_OFFSET : Nat := 0x3048
abbrev HIF.WIN_SIZE : Nat := 0x304C
abbrev HIF.WIN_ACCESS : Nat := 0x3050
abbrev HIF.DENIED_CNT : Nat := 0x3054
abbrev HIF.BAD_ACCESS_CNT : Nat := 0x3058
abbrev HIF.UNREACH_CNT : Nat := 0x305C
abbrev HIF.DB_REFUSED_CNT : Nat := 0x3060
abbrev HIF.DB_LAST : Nat := 0x3064
abbrev HIF.MSIX_ADDR_LO (i : Nat) : Nat := 0x3800 + 16 * i
abbrev HIF.MSIX_ADDR_HI (i : Nat) : Nat := 0x3804 + 16 * i
abbrev HIF.MSIX_DATA (i : Nat) : Nat := 0x3808 + 16 * i
abbrev HIF.MSIX_CTRL (i : Nat) : Nat := 0x380C + 16 * i
abbrev HIF.MSIX_PBA (i : Nat) : Nat := 0x3A00 + 4 * i

abbrev PRT.CFG : Nat := 0x4040
abbrev PRT.CLIENT_CFG (i : Nat) : Nat := 0x4060 + 4 * i
abbrev PRT.RX_OK : Nat := 0x4080
abbrev PRT.AUTH_FAIL : Nat := 0x4084
abbrev PRT.REPLAY : Nat := 0x4088
abbrev PRT.REFUSED : Nat := 0x408C
abbrev PRT.LAST_SEQ_LO (i : Nat) : Nat := 0x4100 + 8 * i
abbrev PRT.LAST_SEQ_HI (i : Nat) : Nat := 0x4104 + 8 * i

abbrev FUSE.LIFECYCLE : Nat := 0x5040
abbrev FUSE.FW_EPOCH_LO : Nat := 0x5044
abbrev FUSE.FW_EPOCH_HI : Nat := 0x5048
abbrev FUSE.BOOT_KEY_HASH (i : Nat) : Nat := 0x5060 + 4 * i
abbrev FUSE.ROW_SEL : Nat := 0x5080
abbrev FUSE.ROW_FUSE : Nat := 0x5084
abbrev FUSE.ROW_EFFECT : Nat := 0x5088
abbrev FUSE.ROW_STAGE : Nat := 0x508C
abbrev FUSE.BURN_ARM : Nat := 0x5090
abbrev FUSE.BURN_CMD : Nat := 0x5094
abbrev FUSE.SEAL_CRC : Nat := 0x5098
abbrev FUSE.MATRIX_CRC : Nat := 0x509C
abbrev FUSE.BURN_STATUS : Nat := 0x50A0

abbrev KEY.CFG : Nat := 0x6040
abbrev KEY.STATUS : Nat := 0x6044
abbrev KEY.REMASKS : Nat := 0x6048
abbrev KEY.SLOT_SEL : Nat := 0x604C
abbrev KEY.SLOT_INFO (i : Nat) : Nat := 0x6050 + 4 * i
abbrev KEY.OP_CMD : Nat := 0x6060
abbrev KEY.OP_LEN : Nat := 0x6064
abbrev KEY.OP_ATTR : Nat := 0x6068
abbrev KEY.OP_STATUS : Nat := 0x606C
abbrev KEY.CERT_LEN : Nat := 0x6070
abbrev KEY.OP_IN (i : Nat) : Nat := 0x6400 + 4 * i
abbrev KEY.OP_OUT (i : Nat) : Nat := 0x6800 + 4 * i
abbrev KEY.CERT (i : Nat) : Nat := 0x6C00 + 4 * i

abbrev TAMP.CFG : Nat := 0x7040
abbrev TAMP.LATCH : Nat := 0x7044
abbrev TAMP.NOW : Nat := 0x7048
abbrev TAMP.FIRST : Nat := 0x704C
abbrev TAMP.FIRST_TIME : Nat := 0x7050
abbrev TAMP.SAFE_INDEX : Nat := 0x7060
abbrev TAMP.SAFE_DATA : Nat := 0x7064
abbrev TAMP.SAFE_CMD : Nat := 0x7068
abbrev TAMP.SAFE_STATUS : Nat := 0x706C
abbrev TAMP.SAFE_SEQ : Nat := 0x7070

abbrev UPD.SEL : Nat := 0x8040
abbrev UPD.LOAD_CMD : Nat := 0x8044
abbrev UPD.LOAD_PUSH : Nat := 0x8048
abbrev UPD.LOAD_STATUS : Nat := 0x804C
abbrev UPD.LOAD_OFFSET : Nat := 0x8050
abbrev UPD.ACT_CMD : Nat := 0x8054
abbrev UPD.ACT_STATUS : Nat := 0x8058
abbrev UPD.TRIAL_CFG : Nat := 0x805C
abbrev UPD.TRIAL_LEFT : Nat := 0x8060
abbrev UPD.PAUSE_LAST : Nat := 0x8064
abbrev UPD.PAUSE_MISS : Nat := 0x8068
abbrev UPD.EPOCHS_USED : Nat := 0x806C
abbrev UPD.IMG_INFO (i : Nat) : Nat := 0x8080 + 4 * i
abbrev UPD.LOAD_WIN (i : Nat) : Nat := 0x8800 + 4 * i

abbrev BIST.TARGET : Nat := 0x9040
abbrev BIST.CMD : Nat := 0x9044
abbrev BIST.STATUS : Nat := 0x9048
abbrev BIST.COVERAGE : Nat := 0x904C
abbrev BIST.DURATION : Nat := 0x9050
abbrev BIST.WRITE_DROP : Nat := 0x9054
abbrev BIST.REPAIR : Nat := 0x9058
abbrev BIST.FUSE_LEFT : Nat := 0x905C
abbrev BIST.LAST (i : Nat) : Nat := 0x9400 + 4 * i

abbrev CAL.SEL : Nat := 0xA040
abbrev CAL.CMD : Nat := 0xA044
abbrev CAL.STATUS : Nat := 0xA048
abbrev CAL.QUALITY : Nat := 0xA04C
abbrev CAL.REF_V : Nat := 0xA050
abbrev CAL.REF_I : Nat := 0xA054
abbrev CAL.REF_PHI : Nat := 0xA058
abbrev CAL.RUNS : Nat := 0xA05C
abbrev CAL.SET_DATA (i : Nat) : Nat := 0xA100 + 4 * i

abbrev RTC.STATUS : Nat := 0xB040
abbrev RTC.STICKY : Nat := 0xB044
abbrev RTC.SUBSEC : Nat := 0xB048
abbrev RTC.TIME : Nat := 0xB04C
abbrev RTC.DATE : Nat := 0xB050
abbrev RTC.SECONDS_LO : Nat := 0xB054
abbrev RTC.SECONDS_HI : Nat := 0xB058
abbrev RTC.SET_SUBSEC : Nat := 0xB060
abbrev RTC.SET_TIME : Nat := 0xB064
abbrev RTC.SET_DATE : Nat := 0xB068
abbrev RTC.SET_GO : Nat := 0xB06C
abbrev RTC.SHIFT : Nat := 0xB070
abbrev RTC.ALM_TIME (i : Nat) : Nat := 0xB080 + 16 * i
abbrev RTC.ALM_DATE (i : Nat) : Nat := 0xB084 + 16 * i
abbrev RTC.ALM_CTL (i : Nat) : Nat := 0xB088 + 16 * i
abbrev RTC.ALM_STATUS (i : Nat) : Nat := 0xB08C + 16 * i
abbrev RTC.WAKE_CFG : Nat := 0xB0A0
abbrev RTC.WAKE_PERIOD : Nat := 0xB0A4
abbrev RTC.WAKE_COUNT : Nat := 0xB0A8
abbrev RTC.TRIM_CFG : Nat := 0xB0B0
abbrev RTC.TRIM_MAN : Nat := 0xB0B4
abbrev RTC.TRIM_NOW : Nat := 0xB0B8

abbrev TB.TIME (n : Nat) : Nat := 0xC040 + 0x1000 * n
abbrev TB.STEP_SUM (n : Nat) : Nat := 0xC044 + 0x1000 * n
abbrev TB.SEC_PHASE (n : Nat) : Nat := 0xC048 + 0x1000 * n
abbrev TB.INCR_FRAC (n : Nat) : Nat := 0xC04C + 0x1000 * n
abbrev TB.INCR_INT (n : Nat) : Nat := 0xC050 + 0x1000 * n
abbrev TB.ADJ (n : Nat) : Nat := 0xC054 + 0x1000 * n
abbrev TB.SRC (n : Nat) : Nat := 0xC058 + 0x1000 * n
abbrev TB.SERVO (n : Nat) : Nat := 0xC05C + 0x1000 * n
abbrev TB.FOLLOW_OFFSET (n : Nat) : Nat := 0xC060 + 0x1000 * n
abbrev TB.LOCK (n : Nat) : Nat := 0xC064 + 0x1000 * n
abbrev TB.OFFSET (n : Nat) : Nat := 0xC068 + 0x1000 * n
abbrev TB.OUT_CFG (n : Nat) : Nat := 0xC06C + 0x1000 * n
abbrev TB.SNAP_REQ (n : Nat) : Nat := 0xC070 + 0x1000 * n
abbrev TB.SNAP_TIME (n : Nat) : Nat := 0xC074 + 0x1000 * n
abbrev TB.SNAP_STEPS (n : Nat) : Nat := 0xC078 + 0x1000 * n
abbrev TB.SNAP_SEQ (n : Nat) : Nat := 0xC07C + 0x1000 * n
abbrev TB.CAP (n i : Nat) : Nat := 0xC080 + 0x1000 * n + 4 * i
abbrev TB.LTC_CODE_LO (n : Nat) : Nat := 0xC0A0 + 0x1000 * n
abbrev TB.LTC_CODE_HI (n : Nat) : Nat := 0xC0A4 + 0x1000 * n

abbrev FE.CFG : Nat := 0x10040
abbrev FE.PLAN_LOAD : Nat := 0x10044
abbrev FE.EPOCH : Nat := 0x10048
abbrev FE.COMMIT_AT : Nat := 0x1004C
abbrev FE.COMMIT_AT_CTL : Nat := 0x10050
abbrev FE.COMMIT_PT : Nat := 0x10054
abbrev FE.COMMIT_GO : Nat := 0x10058
abbrev FE.COMMIT_STATUS : Nat := 0x1005C
abbrev FE.COMMIT_PT1 : Nat := 0x10060
abbrev FE.SKIP_DEADLINE : Nat := 0x10064
abbrev FE.SKIP_ADMIT : Nat := 0x10068
abbrev FE.SKIP_FAULT : Nat := 0x1006C
abbrev FE.LAST_SKIP : Nat := 0x10070
abbrev FE.LAST_SKIP_PT : Nat := 0x10074
abbrev FE.ZCMD_PT : Nat := 0x10078
abbrev FE.ZCMD : Nat := 0x1007C
abbrev FE.ZCMD_STATUS : Nat := 0x10080
abbrev FE.ZONE_SKIP (i : Nat) : Nat := 0x10100 + 4 * i
abbrev FE.ZONE_STATE (i : Nat) : Nat := 0x10500 + 4 * i
abbrev FE.ZONE_STRUCK (i : Nat) : Nat := 0x10900 + 4 * i

abbrev LANE.ACTIVE : Nat := 0x11040
abbrev LANE.FAILED (i : Nat) : Nat := 0x11044 + 4 * i
abbrev LANE.SPARE_MAP : Nat := 0x11050
abbrev LANE.ONLINE_CFG : Nat := 0x11054
abbrev LANE.TESTING : Nat := 0x11058
abbrev LANE.CAPACITY : Nat := 0x1105C

abbrev MAP.TILES : Nat := 0x12040
abbrev MAP.CHECK : Nat := 0x12044
abbrev MAP.EPOCH : Nat := 0x12048
abbrev MAP.VALID_COUNT : Nat := 0x1204C
abbrev MAP.ECC_CORR : Nat := 0x12050
abbrev MAP.RELOADS : Nat := 0x12054
abbrev MAP.ZONE_SLOTS (i : Nat) : Nat := 0x12100 + 4 * i

abbrev CLR.CFG : Nat := 0x13040
abbrev CLR.CHECK : Nat := 0x13044
abbrev CLR.PROFILES : Nat := 0x13048
abbrev CLR.RESID_SEL : Nat := 0x1304C
abbrev CLR.RESID_DUV : Nat := 0x13050
abbrev CLR.RESID_ERR : Nat := 0x13054
abbrev CLR.RESID_OOG : Nat := 0x13058
abbrev CLR.RESID_SLOTS : Nat := 0x1305C
abbrev CLR.RESID_PS : Nat := 0x13060
abbrev CLR.GM_INDEX : Nat := 0x13064
abbrev CLR.GM_DATA : Nat := 0x13068
abbrev CLR.GM_PT : Nat := 0x1306C
abbrev CLR.GM_GO : Nat := 0x13070
abbrev CLR.GM_STATUS : Nat := 0x13074
abbrev CLR.RELOADS : Nat := 0x13078
abbrev CLR.OOG_TOTAL : Nat := 0x1307C
abbrev CLR.RESID_FLAG (i : Nat) : Nat := 0x13080 + 4 * i

abbrev THM.CFG : Nat := 0x14040
abbrev THM.HEAT_OFF_COUNT : Nat := 0x14044
abbrev THM.REARM : Nat := 0x14048
abbrev THM.REARM_STATUS : Nat := 0x1404C
abbrev THM.LAST_TRIP : Nat := 0x14050
abbrev THM.TRIPS : Nat := 0x14054
abbrev THM.REPORTS : Nat := 0x14058
abbrev THM.STALE_COUNT : Nat := 0x1405C
abbrev THM.OT_REPEAT : Nat := 0x14060

abbrev VIN.UNITS : Nat := 0x15040
abbrev VIN.PIC_LATE : Nat := 0x15044
abbrev VIN.S_CTL (i : Nat) : Nat := 0x15100 + 64 * i
abbrev VIN.S_DEST0 (i : Nat) : Nat := 0x15104 + 64 * i
abbrev VIN.S_DEST1 (i : Nat) : Nat := 0x15108 + 64 * i
abbrev VIN.S_DEST2 (i : Nat) : Nat := 0x1510C + 64 * i
abbrev VIN.S_DEST3 (i : Nat) : Nat := 0x15110 + 64 * i
abbrev VIN.S_UDP (i : Nat) : Nat := 0x15114 + 64 * i
abbrev VIN.S_LATENCY (i : Nat) : Nat := 0x15118 + 64 * i
abbrev VIN.S_STATUS (i : Nat) : Nat := 0x1511C + 64 * i
abbrev VIN.S_PIC_OK (i : Nat) : Nat := 0x15120 + 64 * i
abbrev VIN.S_PIC_LATE (i : Nat) : Nat := 0x15124 + 64 * i
abbrev VIN.S_PKT_LOST (i : Nat) : Nat := 0x15128 + 64 * i
abbrev VIN.S_LAST_TS (i : Nat) : Nat := 0x1512C + 64 * i

abbrev CLIP.CACHE_CFG : Nat := 0x16040
abbrev CLIP.CACHE_USED : Nat := 0x16044
abbrev CLIP.LOAD_Q : Nat := 0x16048
abbrev CLIP.LOAD_STATUS : Nat := 0x1604C
abbrev CLIP.DELETE : Nat := 0x16050
abbrev CLIP.UNITS : Nat := 0x16054
abbrev CLIP.FLASH_FREE : Nat := 0x16058
abbrev CLIP.P_CTL (i : Nat) : Nat := 0x16100 + 64 * i
abbrev CLIP.P_CLIP (i : Nat) : Nat := 0x16104 + 64 * i
abbrev CLIP.P_START (i : Nat) : Nat := 0x16108 + 64 * i
abbrev CLIP.P_SPEED (i : Nat) : Nat := 0x1610C + 64 * i
abbrev CLIP.P_GO_PT (i : Nat) : Nat := 0x16110 + 64 * i
abbrev CLIP.P_CMD (i : Nat) : Nat := 0x16114 + 64 * i
abbrev CLIP.P_STATUS (i : Nat) : Nat := 0x16118 + 64 * i
abbrev CLIP.P_FRAME (i : Nat) : Nat := 0x1611C + 64 * i
abbrev CLIP.P_LATE (i : Nat) : Nat := 0x16120 + 64 * i

abbrev DMK.ZONE_CHECK : Nat := 0x17040
abbrev DMK.CUE_SEL : Nat := 0x17044
abbrev DMK.CUE_INDEX : Nat := 0x17048
abbrev DMK.CUE_DATA : Nat := 0x1704C
abbrev DMK.CUE_PT : Nat := 0x17050
abbrev DMK.CUE_GO : Nat := 0x17054
abbrev DMK.CUE_STATUS : Nat := 0x17058
abbrev DMK.CUE_LATE : Nat := 0x1705C
abbrev DMK.CUE_PEND (i : Nat) : Nat := 0x17060 + 4 * i

abbrev UNI.CFG : Nat := 0x18040
abbrev UNI.IN_INDEX : Nat := 0x18044
abbrev UNI.IN_DATA : Nat := 0x18048
abbrev UNI.IN_STAT : Nat := 0x1804C
abbrev UNI.PKT_OK : Nat := 0x18050
abbrev UNI.PKT_DROP : Nat := 0x18054
abbrev UNI.SRC_OVF : Nat := 0x18058
abbrev UNI.SYNC_LOST : Nat := 0x1805C

abbrev AUD.CFG : Nat := 0x19040
abbrev AUD.DEST (i : Nat) : Nat := 0x19044 + 4 * i
abbrev AUD.UDP : Nat := 0x19054
abbrev AUD.STATUS : Nat := 0x19058
abbrev AUD.PKT_LOST : Nat := 0x1905C
abbrev AUD.BAND (i : Nat) : Nat := 0x19100 + 4 * i

abbrev QM.POOL_CFG : Nat := 0x1A040
abbrev QM.POOL_FREE : Nat := 0x1A044
abbrev QM.POOL_MIN_FREE : Nat := 0x1A048
abbrev QM.CELL_CORR : Nat := 0x1A04C
abbrev QM.CELL_UNCORR : Nat := 0x1A050
abbrev QM.LAST_ERR : Nat := 0x1A054
abbrev QM.SCRUB_CFG : Nat := 0x1A058
abbrev QM.RETIRED : Nat := 0x1A05C
abbrev QM.ONDIE_RESETS : Nat := 0x1A060
abbrev QM.LAST_ONDIE : Nat := 0x1A064
abbrev QM.ALLOC_WAIT : Nat := 0x1A068
abbrev QM.HOST_DMA_ERR : Nat := 0x1A06C
abbrev QM.Q_SEL : Nat := 0x1A070
abbrev QM.Q_CFG : Nat := 0x1A074
abbrev QM.Q_MIN : Nat := 0x1A078
abbrev QM.Q_MAX : Nat := 0x1A07C
abbrev QM.Q_STATUS : Nat := 0x1A080
abbrev QM.Q_CELLS : Nat := 0x1A084
abbrev QM.Q_CMD : Nat := 0x1A088
abbrev QM.HR_BASE_LO (i : Nat) : Nat := 0x1A100 + 32 * i
abbrev QM.HR_BASE_HI (i : Nat) : Nat := 0x1A104 + 32 * i
abbrev QM.HR_SIZE (i : Nat) : Nat := 0x1A108 + 32 * i
abbrev QM.HR_HEAD (i : Nat) : Nat := 0x1A10C + 32 * i
abbrev QM.HR_EN (i : Nat) : Nat := 0x1A110 + 32 * i

abbrev DSP.LEVEL_CAP (i : Nat) : Nat := 0x1B040 + 4 * i
abbrev DSP.REORDER_WIN : Nat := 0x1B060

abbrev FLT.NET_CFG : Nat := 0x1C040
abbrev FLT.KEY_CFG : Nat := 0x1C044
abbrev FLT.HOST_CFG : Nat := 0x1C048
abbrev FLT.HOST_ADDR (i : Nat) : Nat := 0x1C04C + 4 * i
abbrev FLT.HOST_SEQ : Nat := 0x1C05C
abbrev FLT.RX_OK : Nat := 0x1C060
abbrev FLT.AUTH_FAIL : Nat := 0x1C064
abbrev FLT.REPLAY : Nat := 0x1C068
abbrev FLT.REFUSED : Nat := 0x1C06C
abbrev FLT.MB_IN (i : Nat) : Nat := 0x1C080 + 4 * i
abbrev FLT.MB_GO : Nat := 0x1C0C0
abbrev FLT.MB_STATUS : Nat := 0x1C0C4
abbrev FLT.LOG_HEAD : Nat := 0x1C0D0
abbrev FLT.LOG_SEL : Nat := 0x1C0D4
abbrev FLT.LOG_OVERWRITTEN : Nat := 0x1C0D8
abbrev FLT.HOLD_LOST : Nat := 0x1C0DC
abbrev FLT.LOG_REC (i : Nat) : Nat := 0x1C0E0 + 4 * i
abbrev FLT.LOSS_CFG : Nat := 0x1C100
abbrev FLT.LOSS_FIXED : Nat := 0x1C104
abbrev FLT.LOSS_MIN : Nat := 0x1C108
abbrev FLT.FEEDER_E : Nat := 0x1C10C
abbrev FLT.NODES_E : Nat := 0x1C110
abbrev FLT.LOSS_LAST : Nat := 0x1C114
abbrev FLT.LOSS_STATUS : Nat := 0x1C118
abbrev FLT.LOSS_SKIPPED : Nat := 0x1C11C
abbrev FLT.IMG_SEL : Nat := 0x1C140
abbrev FLT.IMG_STATE : Nat := 0x1C144
abbrev FLT.IMG_SIZE : Nat := 0x1C148
abbrev FLT.IMG_VERSION : Nat := 0x1C14C
abbrev FLT.IMG_TARGET : Nat := 0x1C150
abbrev FLT.IMG_CMD : Nat := 0x1C154
abbrev FLT.IMG_SCOPE : Nat := 0x1C158
abbrev FLT.IMG_ACT_AT : Nat := 0x1C15C
abbrev FLT.IMG_ROUND : Nat := 0x1C160
abbrev FLT.IMG_TARGETS : Nat := 0x1C164
abbrev FLT.IMG_ACKED : Nat := 0x1C168
abbrev FLT.IMG_FAILED : Nat := 0x1C16C
abbrev FLT.IMG_MAP_INDEX : Nat := 0x1C170
abbrev FLT.IMG_MAP_DATA : Nat := 0x1C174
abbrev FLT.IMG_CFG : Nat := 0x1C178
abbrev FLT.NODES_VALID : Nat := 0x1C180
abbrev FLT.NODES_ONLINE : Nat := 0x1C184

abbrev SCH.CFG : Nat := 0x1D040
abbrev SCH.SITE_LAT : Nat := 0x1D044
abbrev SCH.SITE_LON : Nat := 0x1D048
abbrev SCH.ZENITH : Nat := 0x1D04C
abbrev SCH.TZ : Nat := 0x1D050
abbrev SCH.DST_START : Nat := 0x1D054
abbrev SCH.DST_END : Nat := 0x1D058
abbrev SCH.DUSK : Nat := 0x1D05C
abbrev SCH.DAWN : Nat := 0x1D060
abbrev SCH.LOCAL_TIME : Nat := 0x1D064
abbrev SCH.NEXT_CHANGE : Nat := 0x1D068
abbrev SCH.ENTRIES_VALID : Nat := 0x1D06C
abbrev SCH.RULES_VALID : Nat := 0x1D070
abbrev SCH.TRIGGERS : Nat := 0x1D074
abbrev SCH.GROUP_SEL : Nat := 0x1D078
abbrev SCH.GROUP_WIN : Nat := 0x1D07C
abbrev SCH.GROUP_OUT : Nat := 0x1D080
abbrev SCH.LOOP (i : Nat) : Nat := 0x1D410 + 4 * i
abbrev SCH.LOOP_TRIM (i : Nat) : Nat := 0x1D800 + 4 * i

abbrev MTR.CFG : Nat := 0x1E040
abbrev MTR.STATUS : Nat := 0x1E044
abbrev MTR.FREQ : Nat := 0x1E048
abbrev MTR.OC_THRESH : Nat := 0x1E04C
abbrev MTR.V_RMS (i : Nat) : Nat := 0x1E050 + 32 * i
abbrev MTR.I_RMS (i : Nat) : Nat := 0x1E054 + 32 * i
abbrev MTR.P (i : Nat) : Nat := 0x1E058 + 32 * i
abbrev MTR.Q (i : Nat) : Nat := 0x1E05C + 32 * i
abbrev MTR.S (i : Nat) : Nat := 0x1E060 + 32 * i
abbrev MTR.PF (i : Nat) : Nat := 0x1E064 + 32 * i
abbrev MTR.IMP_LO (i : Nat) : Nat := 0x1E100 + 32 * i
abbrev MTR.IMP_HI (i : Nat) : Nat := 0x1E104 + 32 * i
abbrev MTR.EXP_LO (i : Nat) : Nat := 0x1E108 + 32 * i
abbrev MTR.EXP_HI (i : Nat) : Nat := 0x1E10C + 32 * i
abbrev MTR.QIMP_LO (i : Nat) : Nat := 0x1E110 + 32 * i
abbrev MTR.QIMP_HI (i : Nat) : Nat := 0x1E114 + 32 * i
abbrev MTR.QEXP_LO (i : Nat) : Nat := 0x1E118 + 32 * i
abbrev MTR.QEXP_HI (i : Nat) : Nat := 0x1E11C + 32 * i
abbrev MTR.TOTAL_LO : Nat := 0x1E160
abbrev MTR.TOTAL_HI : Nat := 0x1E164
abbrev MTR.GAPS : Nat := 0x1E168

abbrev PSU.CFG : Nat := 0x1F040
abbrev PSU.STATUS : Nat := 0x1F044
abbrev PSU.MAINS_RMS : Nat := 0x1F048
abbrev PSU.MAINS_FREQ : Nat := 0x1F04C
abbrev PSU.BULK : Nat := 0x1F050
abbrev PSU.VBAT : Nat := 0x1F054
abbrev PSU.AUX12 : Nat := 0x1F058
abbrev PSU.AUX3V3 : Nat := 0x1F05C
abbrev PSU.RAIL (i : Nat) : Nat := 0x1F060 + 4 * i
abbrev PSU.PFW_CNT : Nat := 0x1F080
abbrev PSU.BROWNOUT_CNT : Nat := 0x1F084
abbrev PSU.HOLDUP_LAST : Nat := 0x1F088
abbrev PSU.AUX_CLEAR : Nat := 0x1F08C

abbrev GZP.LINE_CTL (n : Nat) : Nat := 0x20040 + 0x1000 * n
abbrev GZP.LINE_STATUS (n : Nat) : Nat := 0x20044 + 0x1000 * n
abbrev GZP.LINE_FAULT (n : Nat) : Nat := 0x20048 + 0x1000 * n
abbrev GZP.FAULT_NOW (n : Nat) : Nat := 0x2004C + 0x1000 * n
abbrev GZP.LINE_CMD (n : Nat) : Nat := 0x20050 + 0x1000 * n
abbrev GZP.CMD_STATUS (n : Nat) : Nat := 0x20054 + 0x1000 * n
abbrev GZP.SEG_LEN (n : Nat) : Nat := 0x20058 + 0x1000 * n
abbrev GZP.LINE_TEMP (n : Nat) : Nat := 0x2005C + 0x1000 * n
abbrev GZP.TDR_P1 (n i : Nat) : Nat := 0x20060 + 0x1000 * n + 4 * i
abbrev GZP.TDR_P2 (n i : Nat) : Nat := 0x20070 + 0x1000 * n + 4 * i
abbrev GZP.LEAK (n : Nat) : Nat := 0x20080 + 0x1000 * n
abbrev GZP.LEAK_CFG (n : Nat) : Nat := 0x20084 + 0x1000 * n
abbrev GZP.EYE (n : Nat) : Nat := 0x20088 + 0x1000 * n
abbrev GZP.EQ_CFG (n : Nat) : Nat := 0x2008C + 0x1000 * n
abbrev GZP.CODE_ERR (n : Nat) : Nat := 0x200A0 + 0x1000 * n
abbrev GZP.LOS_CNT (n : Nat) : Nat := 0x200A4 + 0x1000 * n
abbrev GZP.RETUNES (n : Nat) : Nat := 0x200A8 + 0x1000 * n
abbrev GZP.RETUNE_MISS (n : Nat) : Nat := 0x200AC + 0x1000 * n
abbrev GZP.FAULT_CNT (n : Nat) : Nat := 0x200B0 + 0x1000 * n
abbrev GZP.GATE_CFG (n : Nat) : Nat := 0x20100 + 0x1000 * n
abbrev GZP.SYNC_CFG (n : Nat) : Nat := 0x20104 + 0x1000 * n
abbrev GZP.POLL_CFG (n : Nat) : Nat := 0x20108 + 0x1000 * n
abbrev GZP.LL_CFG (n : Nat) : Nat := 0x2010C + 0x1000 * n
abbrev GZP.LL_LEVEL (n i : Nat) : Nat := 0x20110 + 0x1000 * n + 4 * i
abbrev GZP.PROTO_CMD (n : Nat) : Nat := 0x20130 + 0x1000 * n
abbrev GZP.NODES (n : Nat) : Nat := 0x20134 + 0x1000 * n
abbrev GZP.RT (n : Nat) : Nat := 0x20138 + 0x1000 * n
abbrev GZP.D_FAR (n : Nat) : Nat := 0x2013C + 0x1000 * n
abbrev GZP.LINK_LEAD (n : Nat) : Nat := 0x20140 + 0x1000 * n
abbrev GZP.TX_PIX (n : Nat) : Nat := 0x20144 + 0x1000 * n
abbrev GZP.TX_STRIKE (n : Nat) : Nat := 0x20148 + 0x1000 * n
abbrev GZP.STRIKE_IDLED (n : Nat) : Nat := 0x2014C + 0x1000 * n
abbrev GZP.RX_BAD (n : Nat) : Nat := 0x20150 + 0x1000 * n
abbrev GZP.REPLY_MISS (n : Nat) : Nat := 0x20154 + 0x1000 * n
abbrev GZP.SETTINGS_PEND (n : Nat) : Nat := 0x20158 + 0x1000 * n
abbrev GZP.MISS_SUM (n : Nat) : Nat := 0x2015C + 0x1000 * n
abbrev GZP.NODE_SEL (n : Nat) : Nat := 0x20160 + 0x1000 * n
abbrev GZP.NODE_DESC (n i : Nat) : Nat := 0x20164 + 0x1000 * n + 4 * i
abbrev GZP.NODE_STATUS (n : Nat) : Nat := 0x20180 + 0x1000 * n
abbrev GZP.NODE_COUNTS (n : Nat) : Nat := 0x20184 + 0x1000 * n

abbrev GZR.RING_CTL (n : Nat) : Nat := 0x40040 + 0x1000 * n
abbrev GZR.RING_STATUS (n : Nat) : Nat := 0x40044 + 0x1000 * n
abbrev GZR.T_AB (n : Nat) : Nat := 0x40048 + 0x1000 * n
abbrev GZR.T_BA (n : Nat) : Nat := 0x4004C + 0x1000 * n
abbrev GZR.END_SKEW (n : Nat) : Nat := 0x40050 + 0x1000 * n
abbrev GZR.HEALS (n : Nat) : Nat := 0x40054 + 0x1000 * n
abbrev GZR.CASTLES (n : Nat) : Nat := 0x40058 + 0x1000 * n

abbrev DOM.CFG (n : Nat) : Nat := 0x50040 + 0x1000 * n
abbrev DOM.LINE_STATUS (n : Nat) : Nat := 0x50044 + 0x1000 * n
abbrev DOM.LINE_FAULT (n : Nat) : Nat := 0x50048 + 0x1000 * n
abbrev DOM.CHAIN_LEN (n : Nat) : Nat := 0x5004C + 0x1000 * n
abbrev DOM.LINK_LEAD (n : Nat) : Nat := 0x50050 + 0x1000 * n
abbrev DOM.CMD (n : Nat) : Nat := 0x50054 + 0x1000 * n
abbrev DOM.LATCHES (n : Nat) : Nat := 0x50058 + 0x1000 * n
abbrev DOM.LAT_MISSED (n : Nat) : Nat := 0x5005C + 0x1000 * n
abbrev DOM.CONT_ERR (n : Nat) : Nat := 0x50060 + 0x1000 * n
abbrev DOM.FAULT_CNT (n : Nat) : Nat := 0x50064 + 0x1000 * n

abbrev DMX.CFG (n : Nat) : Nat := 0x60040 + 0x1000 * n
abbrev DMX.BREAK_MAB (n : Nat) : Nat := 0x60044 + 0x1000 * n
abbrev DMX.SLOTS (n : Nat) : Nat := 0x60048 + 0x1000 * n
abbrev DMX.MTBP (n : Nat) : Nat := 0x6004C + 0x1000 * n
abbrev DMX.LINE_STATUS (n : Nat) : Nat := 0x60050 + 0x1000 * n
abbrev DMX.LINE_FAULT (n : Nat) : Nat := 0x60054 + 0x1000 * n
abbrev DMX.LINK_LEAD (n : Nat) : Nat := 0x60058 + 0x1000 * n
abbrev DMX.TX_PKT (n : Nat) : Nat := 0x6005C + 0x1000 * n
abbrev DMX.LATE (n : Nat) : Nat := 0x60060 + 0x1000 * n
abbrev DMX.RX_PKT (n : Nat) : Nat := 0x60064 + 0x1000 * n
abbrev DMX.RX_BAD (n : Nat) : Nat := 0x60068 + 0x1000 * n
abbrev DMX.ALT_SC (n : Nat) : Nat := 0x6006C + 0x1000 * n
abbrev DMX.UID_LO (n : Nat) : Nat := 0x60070 + 0x1000 * n
abbrev DMX.UID_HI (n : Nat) : Nat := 0x60074 + 0x1000 * n
abbrev DMX.RDM_CMD (n : Nat) : Nat := 0x60078 + 0x1000 * n
abbrev DMX.RDM_STATUS (n : Nat) : Nat := 0x6007C + 0x1000 * n
abbrev DMX.UID_COUNT (n : Nat) : Nat := 0x60080 + 0x1000 * n
abbrev DMX.UID_INDEX (n : Nat) : Nat := 0x60084 + 0x1000 * n
abbrev DMX.UID_DATA_LO (n : Nat) : Nat := 0x60088 + 0x1000 * n
abbrev DMX.UID_DATA_HI (n : Nat) : Nat := 0x6008C + 0x1000 * n
abbrev DMX.RDM_REQ (n i : Nat) : Nat := 0x60100 + 0x1000 * n + 4 * i
abbrev DMX.RDM_RSP (n i : Nat) : Nat := 0x60200 + 0x1000 * n + 4 * i

abbrev SIO.AIN_CFG (i : Nat) : Nat := 0x64040 + 4 * i
abbrev SIO.AIN (i : Nat) : Nat := 0x64060 + 4 * i
abbrev SIO.AIN_THRESH (i : Nat) : Nat := 0x64080 + 4 * i
abbrev SIO.DIN_CFG : Nat := 0x640A0
abbrev SIO.DIN_WAKE : Nat := 0x640A4
abbrev SIO.DIN_STATE : Nat := 0x640A8
abbrev SIO.DIN_STAMP (i : Nat) : Nat := 0x640C0 + 4 * i
abbrev SIO.ACT_CTL (i : Nat) : Nat := 0x640E0 + 4 * i
abbrev SIO.ACT_PT : Nat := 0x640F0
abbrev SIO.ACT_GO : Nat := 0x640F4
abbrev SIO.ACT_STATUS : Nat := 0x640F8
abbrev SIO.ACT_CLEAR : Nat := 0x640FC

abbrev MISC.SERIAL_LO : Nat := 0x65040
abbrev MISC.SERIAL_HI : Nat := 0x65044
abbrev MISC.EVT_PIN_CFG : Nat := 0x65048
abbrev MISC.CONSOLE_CFG : Nat := 0x6504C
abbrev MISC.DEBUG_STATE : Nat := 0x65050
abbrev MISC.SCRATCH (i : Nat) : Nat := 0x65060 + 4 * i

abbrev ETH.CFG (n : Nat) : Nat := 0x68040 + 0x1000 * n
abbrev ETH.LINK_STATUS (n : Nat) : Nat := 0x68044 + 0x1000 * n
abbrev ETH.MAC_LO (n : Nat) : Nat := 0x68048 + 0x1000 * n
abbrev ETH.MAC_HI (n : Nat) : Nat := 0x6804C + 0x1000 * n
abbrev ETH.IP4_ADDR (n : Nat) : Nat := 0x68050 + 0x1000 * n
abbrev ETH.IP4_CFG (n : Nat) : Nat := 0x68054 + 0x1000 * n
abbrev ETH.IP4_GW (n : Nat) : Nat := 0x68058 + 0x1000 * n
abbrev ETH.IP6_ADDR (n i : Nat) : Nat := 0x68060 + 0x1000 * n + 4 * i
abbrev ETH.IP6_CFG (n : Nat) : Nat := 0x68070 + 0x1000 * n
abbrev ETH.MATCH_LO (n i : Nat) : Nat := 0x68080 + 0x1000 * n + 8 * i
abbrev ETH.MATCH_HI (n i : Nat) : Nat := 0x68084 + 0x1000 * n + 8 * i
abbrev ETH.PREEMPT_CFG (n : Nat) : Nat := 0x68100 + 0x1000 * n
abbrev ETH.PREEMPT_STATUS (n : Nat) : Nat := 0x68104 + 0x1000 * n
abbrev ETH.PAUSE_CFG (n : Nat) : Nat := 0x68108 + 0x1000 * n
abbrev ETH.PFC_MAP (n : Nat) : Nat := 0x6810C + 0x1000 * n
abbrev ETH.PAUSE_STATE (n : Nat) : Nat := 0x68110 + 0x1000 * n
abbrev ETH.GATE_CTL (n : Nat) : Nat := 0x68120 + 0x1000 * n
abbrev ETH.GATE_CMD (n : Nat) : Nat := 0x68124 + 0x1000 * n
abbrev ETH.GATE_STATUS (n : Nat) : Nat := 0x68128 + 0x1000 * n
abbrev ETH.ADMIN_BASE (n : Nat) : Nat := 0x6812C + 0x1000 * n
abbrev ETH.ADMIN_CYCLE (n : Nat) : Nat := 0x68130 + 0x1000 * n
abbrev ETH.ADMIN_LEN (n : Nat) : Nat := 0x68134 + 0x1000 * n
abbrev ETH.OPER_BASE (n : Nat) : Nat := 0x68138 + 0x1000 * n
abbrev ETH.OPER_CYCLE (n : Nat) : Nat := 0x6813C + 0x1000 * n
abbrev ETH.OPER_LEN (n : Nat) : Nat := 0x68140 + 0x1000 * n
abbrev ETH.TSQ_LO (n : Nat) : Nat := 0x68150 + 0x1000 * n
abbrev ETH.TSQ_HI (n : Nat) : Nat := 0x68154 + 0x1000 * n
abbrev ETH.TSQ_LEVEL (n : Nat) : Nat := 0x68158 + 0x1000 * n
abbrev ETH.STICKY (n : Nat) : Nat := 0x6815C + 0x1000 * n
abbrev ETH.TSQ_OVF_CNT (n : Nat) : Nat := 0x68160 + 0x1000 * n
abbrev ETH.HOST_RXQ (n : Nat) : Nat := 0x68168 + 0x1000 * n
abbrev ETH.HOST_TXQ (n : Nat) : Nat := 0x6816C + 0x1000 * n
abbrev ETH.WAKE_CFG (n : Nat) : Nat := 0x68170 + 0x1000 * n
abbrev ETH.WAKE_STATUS (n : Nat) : Nat := 0x68174 + 0x1000 * n
abbrev ETH.SFP_STATUS (n : Nat) : Nat := 0x68180 + 0x1000 * n
abbrev ETH.SFP_CTL (n : Nat) : Nat := 0x68184 + 0x1000 * n
abbrev ETH.SFP_DIAG0 (n : Nat) : Nat := 0x68188 + 0x1000 * n
abbrev ETH.SFP_DIAG1 (n : Nat) : Nat := 0x6818C + 0x1000 * n
abbrev ETH.SFP_DIAG2 (n : Nat) : Nat := 0x68190 + 0x1000 * n
abbrev ETH.RX_OK (n : Nat) : Nat := 0x68200 + 0x1000 * n
abbrev ETH.RX_CRC (n : Nat) : Nat := 0x68204 + 0x1000 * n
abbrev ETH.RX_LEN (n : Nat) : Nat := 0x68208 + 0x1000 * n
abbrev ETH.RX_FILTERED (n : Nat) : Nat := 0x6820C + 0x1000 * n
abbrev ETH.RX_VLAN (n : Nat) : Nat := 0x68210 + 0x1000 * n
abbrev ETH.RX_UNCLAIMED (n : Nat) : Nat := 0x68214 + 0x1000 * n
abbrev ETH.RX_DROP (n i : Nat) : Nat := 0x68220 + 0x1000 * n + 4 * i
abbrev ETH.TX_OK (n : Nat) : Nat := 0x68240 + 0x1000 * n
abbrev ETH.TX_BAD (n : Nat) : Nat := 0x68244 + 0x1000 * n
abbrev ETH.TX_PREEMPTED (n : Nat) : Nat := 0x68248 + 0x1000 * n
abbrev ETH.PAUSE_RX (n : Nat) : Nat := 0x6824C + 0x1000 * n
abbrev ETH.PAUSE_BREAK (n : Nat) : Nat := 0x68250 + 0x1000 * n
abbrev ETH.WAKES (n : Nat) : Nat := 0x68254 + 0x1000 * n
abbrev ETH.GCL_ADMIN (n i : Nat) : Nat := 0x68400 + 0x1000 * n + 4 * i
abbrev ETH.GCL_OPER (n i : Nat) : Nat := 0x68500 + 0x1000 * n + 4 * i

abbrev EDUP.SKEW_WIN : Nat := 0x6C040
abbrev EDUP.S_PATH (i : Nat) : Nat := 0x6C100 + 64 * i
abbrev EDUP.S_PKT_A (i : Nat) : Nat := 0x6C104 + 64 * i
abbrev EDUP.S_PKT_B (i : Nat) : Nat := 0x6C108 + 64 * i
abbrev EDUP.S_DUP (i : Nat) : Nat := 0x6C10C + 64 * i
abbrev EDUP.S_LATE (i : Nat) : Nat := 0x6C110 + 64 * i
abbrev EDUP.S_SKEW (i : Nat) : Nat := 0x6C114 + 64 * i
abbrev EDUP.S_HIGH (i : Nat) : Nat := 0x6C118 + 64 * i

abbrev RAD.NET_CFG : Nat := 0x70040
abbrev RAD.EXT_ADDR_LO : Nat := 0x70044
abbrev RAD.EXT_ADDR_HI : Nat := 0x70048
abbrev RAD.CHILD_BASE : Nat := 0x7004C
abbrev RAD.BEACON_CFG : Nat := 0x70050
abbrev RAD.BEACON_BASE : Nat := 0x70054
abbrev RAD.BEACON_CH : Nat := 0x70058
abbrev RAD.CHMAP_LO : Nat := 0x7005C
abbrev RAD.CHMAP_HI : Nat := 0x70060
abbrev RAD.GUARD_CFG : Nat := 0x70064
abbrev RAD.JOIN_CFG : Nat := 0x70068
abbrev RAD.MEMBER_CFG : Nat := 0x70070
abbrev RAD.MEMBER_WIN : Nat := 0x70074
abbrev RAD.MEMBER_CHMAP_LO : Nat := 0x70078
abbrev RAD.MEMBER_CHMAP_HI : Nat := 0x7007C
abbrev RAD.MEMBER_STATUS : Nat := 0x70080
abbrev RAD.PARENT : Nat := 0x70084
abbrev RAD.CHILDREN : Nat := 0x70088
abbrev RAD.SHORT_MATCH (i : Nat) : Nat := 0x70090 + 4 * i
abbrev RAD.BEACONS_TX : Nat := 0x700E0
abbrev RAD.BEACON_SKIP : Nat := 0x700E4
abbrev RAD.RX_OK : Nat := 0x700E8
abbrev RAD.RX_FILTERED : Nat := 0x700EC
abbrev RAD.RX_BUSY : Nat := 0x700F0
abbrev RAD.DRIFT_FALLBACK : Nat := 0x700F4
abbrev RAD.CCA_DEFER : Nat := 0x700F8
abbrev RAD.PENDING_DISCARD : Nat := 0x700FC
abbrev RAD.CHILD_LOST : Nat := 0x70100
abbrev RAD.PARENT_MISSED : Nat := 0x70104
abbrev RAD.CHILD_SEL : Nat := 0x70110
abbrev RAD.CHILD (i : Nat) : Nat := 0x70114 + 4 * i
abbrev RAD.PEND_MAP (i : Nat) : Nat := 0x70200 + 4 * i

abbrev RFE.BAND_CFG : Nat := 0x71040
abbrev RFE.CH0 : Nat := 0x71044
abbrev RFE.SPACING : Nat := 0x71048
abbrev RFE.TX_POWER : Nat := 0x7104C
abbrev RFE.CCA_CFG : Nat := 0x71050
abbrev RFE.FEM_IDLE : Nat := 0x71054
abbrev RFE.FEM_RX : Nat := 0x71058
abbrev RFE.FEM_TX : Nat := 0x7105C
abbrev RFE.FEM_LEAD : Nat := 0x71060
abbrev RFE.DUTY_LIMIT : Nat := 0x71064
abbrev RFE.DUTY_USED : Nat := 0x71068
abbrev RFE.RSSI_LAST : Nat := 0x7106C
abbrev RFE.CCA_BUSY : Nat := 0x71070
abbrev RFE.DUTY_DEFER : Nat := 0x71074
abbrev RFE.SYNTH_UNLOCK : Nat := 0x71078

end Sys2Proof.Reg
end

