-- ==== Sys2Proof/Machine/State.lean ====
section
/-!
DEFINITION. The state of the MRD-9160 as plain data, the reasons a step can stop, and the state after reset.
-/
namespace Sys2Proof.Machine

/-- Faults. None: every command of the table has a next state in every state of the module, because the spec turns each error into
an event, a counter, a RESULT field or a block state. -/
inductive Fault where
  deriving DecidableEq, Repr

/-- Refusals. -/
inductive Refusal where
  /-- raised by an arm of `exec` whose command has no meaning yet; safe: nothing is claimed of it -/
  | notModelled (mnemonic : String)
  deriving DecidableEq, Repr

set_option maxRecDepth 2000 in
/-- The module. -/
structure State where
  /-- commands that wait, first in, first out -/
  pending : List Instr
  /-- the model's own counter of free values (DESIGN CHOICE, log entry 6) -/
  free : Nat
  /-- the model's own true time since power-on, ns (DESIGN CHOICE, log entry 8) -/
  clock : Nat
  /-- what has left the module, oldest first (DESIGN CHOICE, log entry 5) -/
  outbox : List Emission
  /-- SYS.MODE (R46, R67) -/
  mode : Mode
  prevMode : Mode
  /-- the transition in progress and the mode it leads to (R50, R54) -/
  trans : Option Mode
  /-- a wake has occurred while DOZE is being entered (R51) -/
  wakeSeen : Bool
  /-- the mode DOZE was entered from (R49) -/
  dozeFrom : Mode
  /-- COLD was entered by request; by thermal stop (R49) -/
  coldCmd : Bool
  coldThermal : Bool
  /-- bring-up steps of a start still run (R487, R49) -/
  starting : Bool
  /-- EV002 of a start into HOLD (TAMPER) waits for the last block to reach READY (R487) -/
  ev2Wait : Bool
  /-- DRAM training of this start has succeeded (R49, R60) -/
  dramOk : Bool
  /-- the sequence of R56 runs -/
  failSeq : Bool
  /-- MRST_N is low (R49, R62) -/
  mrstLow : Bool
  /-- a start waits for MRST_N to be released: its causes so far (R49) -/
  startWait : Option Nat
  /-- causes that have occurred and that the next start records (R62) -/
  causeWait : Nat
  /-- WAKE_N is driven low (R479) -/
  wakeN : Bool
  /-- EV010 has been raised and 110 degC not been passed since (R63) -/
  dieWarned : Bool
  /-- pages whose CTL.HOLD SC set at SERVICE entry (R48) -/
  svcHeld : List Nat
  /-- pages whose CTL.ENABLE SC cleared at DOZE entry (R52, R54) -/
  dozeOff : List Nat
  /-- time of the last SC watchdog reset, ns (R49) -/
  scReset : Option Nat
  /-- pages inside a recovery window (R31-R33) -/
  windows : List Nat
  /-- header of each page (R78) -/
  blocks : Sparse Block
  /-- block registers by window address (R74); an unlisted one reads as its Reset column -/
  regs : Sparse Word
  /-- values in force of registers that take effect at a SOFT_RESET or module reset, by address (R174, R210) -/
  inForce : Sparse Word
  /-- values written to the inactive bank of RWS registers, by address (R8, R85) -/
  shadow : Sparse Word
  /-- durable configuration that a start with BOOT_SEL 1, 0 ignores, by address, the pages whose durable CTL.ENABLE is 0, and the input
  entries of UNI (R53, R177) -/
  cfgSaved : Sparse Word
  enSaved : List Nat
  uniSaved : Sparse Word
  /-- the journal in MRAM since the last replay, oldest first (R34) -/
  jrnl : List JournalRec
  /-- software event sources that are active, EV200-255 (R99) -/
  swgen : List Nat
  /-- a SWAP_REQ asks PP for a plan commit (R20) -/
  planAsked : Bool
  /-- event deliveries that wait for EVR or their target, as source and remaining target bits (R13, R486) -/
  deferred : List (Nat × Nat)
  /-- EVT pins inside a pulse (R107) -/
  pinPulse : List Nat
  /-- host accesses that wait in DOZE (R76) -/
  hostWait : List HostAccess
  /-- stored PRT response by client (R104) -/
  prtLast : Sparse (List Byte)
  /-- LAST field of each doorbell (R93) -/
  dbLast : Sparse Nat
  /-- burned access rows: pages 0-255, tables from 256 (R433) -/
  fuseRows : Sparse FuseRow
  /-- key slots in key RAM, and their wrapped records in MRAM (R415, R418) -/
  slots : Sparse KeySlot
  slotsMram : Sparse KeySlot
  /-- operation registers and buffers of each requester, by 0x1000 x requester + offset (R419) -/
  keyRegs : Sparse Word
  /-- operations that run or wait, the running one first (R419) -/
  keyJobs : List KeyJob
  /-- wrapped secrets are to be erased at the next start (R429) -/
  wipePend : Bool
  /-- the sealed safe look, staged levels over it, the pinned digest, a seal in progress (R430) -/
  safe : Option SafeRec
  safeStage : Sparse Nat
  safePin : List Byte
  sealing : Option SafeRec
  /-- BURN_ARM is armed; a burn runs (R433) -/
  burnArmed : Bool
  burn : Option Burn
  /-- firmware slots, load, trial, pause and commit (R438-R448) -/
  upd : Upd
  /-- the next start follows an AON power-on (R62) -/
  porStart : Bool
  /-- calibration sets in MRAM, by 0x1000 x kind + 0x10 x instance + point (R458-R460) -/
  cal : Sparse (List Word)
  /-- the sets of MTR in force since its last swap, keyed like `cal` (R458) -/
  calMtr : Sparse (List Word)
  /-- the calibration run in progress (R461) -/
  calRun : Option CalJob
  /-- TB0 to TB3 (R108) -/
  tbs : Sparse TB
  /-- a SNAP waits for the next tick (R128) -/
  snapPend : Bool
  /-- PPS_OUT is high (R123) -/
  ppsOut : Bool
  /-- REF10M_IN and WCLK_IN, as k, whose next edge is captured (R122); true times of the last 16 frame edges of VREF_IN and LTC_IN, by k (R118) -/
  capArm : List Nat
  refEdges : Sparse (List Nat)
  ptpA : PtpInst
  ptpB : PtpInst
  rtc : Rtc
  /-- ns since UPTIME last counted (R66) -/
  secAcc : Nat
  /-- the plan in force or being swapped in, and while SWAP_PEND is 1 the old one (R16-R19) -/
  plan : Plan
  planOld : Option Plan
  /-- PT_c of the latest commit, on the extended TB0 and TB1; plan-coupled pages that a new-epoch item has entered in this swap, and those that have flipped (R17, R19) -/
  ptc : Int
  ptc1 : Int
  entered : List Nat
  flipped : List Nat
  /-- shadow banks of the map, the zone table and the profiles (R91, R183) -/
  mapSh : Sparse Word
  zoneSh : Sparse Word
  profSh : Sparse Word
  /-- frames between admission and strike, oldest first (R188-R199) -/
  frames : List Frame
  /-- the tile in each busy lane (R184, R188) -/
  lanes : List (Nat × LaneWork)
  /-- the primary lane that the online test has taken last (R455) -/
  laneLast : Option Nat
  zruns : Sparse ZoneRun
  /-- released tiles by pair queue, and released strikes by port page (R189, R199) -/
  tileQ : Sparse (List TileOut)
  portQ : Sparse (List StrikeOut)
  /-- cue banks by 256 x zone + 16 x layer + word; armed cues by zone, CUE_PT and NOW (R143-R146) -/
  cueA : Sparse Word
  cueI : Sparse Word
  cueArm : List (Nat × Word × Bool)
  vins : Sparse VinStream
  /-- clip files in flash by number, cached clips with the least recently used first, players (R158-R161) -/
  clips : Sparse (List Byte)
  clipCache : List Nat
  players : Sparse Player
  /-- input entries of UNI, durable, and at work (R165, R177) -/
  uniIn : Sparse Word
  uniSt : Sparse UniInput
  uniCount : Nat
  /-- AUD: filter states by 16 x channel + band, samples received by media time in 1/48,000 s, the media time in ms of the block that runs, start in ms and levels of
  the latest blocks (128 each, newest first), last sequence number (R169, R170) -/
  audFilt : Sparse (List Rat × List Rat × List Rat)
  audBuf : Sparse (List Int)
  audNext : Option Nat
  audBlocks : List (Nat × List Int)
  audSeq : Option (BitVec 16)
  /-- group banks by 8 x group + word; the bank kept for frames admitted before the last swap; swaps so far; the armed swap: GM_PT, whether it is due at the next tick, whether it is late (R214-R216) -/
  gmA : Sparse Word
  gmI : Sparse Word
  gmOld : Option (Sparse Word)
  gmSwaps : Nat
  gmArm : Option (Word × Bool × Bool)
  gmStage : Sparse GmStage
  /-- residual statistics latched by zone (R226) -/
  resid : Sparse Resid
  /-- thermal records and fixtures in heat off (R229-R236) -/
  thm : Sparse ThmRec
  heatOff : List Nat
  /-- registry by 64 x fleet ID + word, schedule entries and traffic rules by 8 x entry + word (R382, R385, R390) -/
  registry : Sparse Word
  sched : Sparse Word
  rules : Sparse Word
  /-- Gyzor nodes by 4096 x port + address, port ends, domino and DMX ports (R243-R308) -/
  gzNodes : Sparse GzNode
  gzPorts : Sparse GzPort
  doms : Sparse DomPort
  dmxs : Sparse DmxPort
  /-- actuator changes that wait: MASK, ACT_PT and NOW, oldest first (R305) -/
  actArm : List (Nat × Word × Bool)
  /-- on-die queues and cell-pool queues that have been used (R336, R338); cells that have failed once (R341); the low-pool event has been raised (R342) -/
  odq : Sparse QueueSt
  poolq : Sparse QueueSt
  cellBad : List Nat
  poolLow : Bool
  /-- MACs, and merged streams (R310-R329) -/
  eths : Sparse EthPort
  edups : Sparse EdupSt
  /-- the fault log, oldest first, and fault records that wait for HOLD to end (R381, R391) -/
  faults : List FaultRec
  faultWait : List (Nat × Nat × Bool × Word)
  /-- SEQ of the module's own fleet records (R377) -/
  fleetSeq : Word
  /-- children by k (R359), the member side (R367), the radio's own state (R358, R371), what RP holds for FP (R370) -/
  children : Sparse (Option Child)
  member : Member
  radio : Radio
  fpWait : List FpWork
  /-- staging copies of registry records, by 131,072 x sender + fleet ID (R383); sensor readings by 16 x fleet ID + channel (R389) -/
  stageReg : Sparse (List Word)
  sensors : Sparse SensorRead
  /-- groups that FP drives, ends of rule holds in UTC s by rule, sensor loops; group entries wait for a swap; the local day last evaluated (R386-R390) -/
  groups : Sparse (Option GroupRun)
  ruleEnds : Sparse Nat
  loops : Sparse LoopRun
  gmDirty : Bool
  schDay : Option Int
  /-- REPORT that each node was sent last, s; its STATUS reports, as UTC s and Wh, oldest first (R378, R391, R392) -/
  reports : Sparse Nat
  energyLog : Sparse (List (Nat × Nat))
  /-- the UTC second since which FP follows the feeder, the end of the last loss period that it compared or skipped, the feeder at the ends of periods, oldest first, and each node's energy in
  the period before, Wh (R392) -/
  lossFrom : Option Nat
  lossLast : Nat
  feedMarks : List FeedMark
  lossPrev : Sparse Rat
  /-- node images, those queued, the latest campaign (R393, R394) -/
  images : Sparse NodeImg
  imgQueue : List Nat
  camp : Campaign
  /-- energy words that MTR has latched for each requester, by 64 x requester + word from IMP_LO[0] (R473) -/
  mtrLatch : Sparse Word
  /-- tables, solver tables and cached clips that are being reloaded after an uncorrectable error (R31, R159, R209, R228) -/
  reloads : List EccSite
  deriving DecidableEq, Repr

/-- The module after an AON power-on, before mains (R49, R62, R72): mode COLD, every block OFF, AON on and the 32.768 kHz oscillator
running as the Reset column of DOMAIN_STATE and CLK_STATE says, RESET_CAUSE.AON_POR set (DEDUCED, log entries 3 and 4). -/
def State.reset : State :=
  { pending := [], free := 0, clock := 0, outbox := [],
    mode := .cold, prevMode := .cold, trans := none, wakeSeen := false, dozeFrom := .show_, coldCmd := false, coldThermal := false,
    starting := false, ev2Wait := false, dramOk := false, failSeq := false, mrstLow := false, startWait := none, causeWait := 0, wakeN := false, dieWarned := false,
    svcHeld := [], dozeOff := [], scReset := none, windows := [],
    blocks := [], regs := [], inForce := [], shadow := [], cfgSaved := [], enSaved := [], uniSaved := [], jrnl := [], swgen := [], planAsked := false, deferred := [], pinPulse := [], hostWait := [],
    prtLast := [], dbLast := [], fuseRows := [],
    slots := [], slotsMram := [], keyRegs := [], keyJobs := [], wipePend := false,
    safe := none, safeStage := [], safePin := [], sealing := none, burnArmed := false, burn := none,
    upd := Upd.init, porStart := true, cal := [], calMtr := [], calRun := none,
    tbs := [], snapPend := false, ppsOut := false, capArm := [], refEdges := [], ptpA := PtpInst.init,
    ptpB := PtpInst.init, rtc := Rtc.init, secAcc := 0,
    plan := Plan.init, planOld := none, ptc := 0, ptc1 := 0, entered := [], flipped := [], mapSh := [], zoneSh := [], profSh := [],
    frames := [], lanes := [], laneLast := none, zruns := [], tileQ := [], portQ := [], cueA := [], cueI := [], cueArm := [], vins := [], clips := [], clipCache := [], players := [],
    uniIn := [], uniSt := [], uniCount := 0, audFilt := [], audBuf := [], audNext := none, audBlocks := [], audSeq := none,
    gmA := [], gmI := [], gmOld := none, gmSwaps := 0, gmArm := none, gmStage := [], resid := [], thm := [], heatOff := [],
    registry := [], sched := [], rules := [], gzNodes := [], gzPorts := [], doms := [], dmxs := [], actArm := [], odq := [], poolq := [], cellBad := [], poolLow := false,
    eths := [], edups := [], faults := [], faultWait := [],
    fleetSeq := 0, children := [], member := Member.init, radio := Radio.init, fpWait := [],
    stageReg := [], sensors := [], groups := [], ruleEnds := [], loops := [], gmDirty := false, schDay := none, reports := [], energyLog := [], lossFrom := none, lossLast := 0, feedMarks := [], lossPrev := [],
    images := [], imgQueue := [], camp := Campaign.init, mtrLatch := [], reloads := [] }

end Sys2Proof.Machine
end

