-- ==== Sys2Proof/Machine/Ops.lean ====
section
/-!
DEFINITION. The named operations that every meaning shares: registers, blocks and their STATE, domains, the event router (R94-R97,
R107), the access matrix (R87, R88, R433), free values, emissions.
-/
namespace Sys2Proof.Machine

/-- The outcome of a command. -/
abbrev Out := Host.Outcome State Fault Refusal

namespace State

/-! Registers, headers, emissions. -/

/-- The value of a block register. -/
def rd (s : State) (a : Nat) : Word := Sparse.get regDefault s.regs a

/-- A block register takes a value. -/
def wr (a : Nat) (v : Word) (s : State) : State := { s with regs := Sparse.set regDefault s.regs a v }

/-- A register field takes a value. -/
def wrFld (a lo len v : Nat) (s : State) : State := s.wr a (setFld (s.rd a) lo len v)

/-- A bit of a register takes a value. -/
def wrBit (a n : Nat) (b : Bool) (s : State) : State := s.wr a (setBit (s.rd a) n b)

/-- A saturating counter register counts. -/
def bump (a : Nat) (s : State) : State := s.wr a (satInc (s.rd a))

/-- A wrapping counter register counts. -/
def bumpWrap (a : Nat) (s : State) : State := s.wr a (s.rd a + 1)

/-- The header of a page. -/
def blk (s : State) (pg : Nat) : Block := Sparse.get (fun _ => Block.init) s.blocks pg

/-- The header of a page takes a value. -/
def setBlk (pg : Nat) (b : Block) (s : State) : State :=
  { s with blocks := Sparse.set (fun _ => Block.init) s.blocks pg b }

/-- The header of a page changes. -/
def updBlk (pg : Nat) (f : Block → Block) (s : State) : State := s.setBlk pg (f (s.blk pg))

/-- STATE.CODE of a page (R80): 0 OFF, 1 STARTING, 2 READY, 3 DISABLING, 4 BIST, 5 CAL, 6 HOLD, 7 FAULT. -/
def code (s : State) (pg : Nat) : Nat := (s.blk pg).code

/-- Something leaves the module. -/
def emit (e : Emission) (s : State) : State := { s with outbox := s.outbox ++ [e] }

/-- ERR_CNT of a page counts (R78). -/
def err (pg : Nat) (s : State) : State := s.updBlk pg (fun b => { b with errCnt := satInc b.errCnt })

/-- The next free word (DESIGN CHOICE, log entry 6). -/
def freeW (s : State) : Word := Config.freeWord s.free

/-- The next free byte string of `n` bytes. -/
def freeBytes (s : State) (n : Nat) : List Byte := (List.range n).map (Config.freeByte s.free)

/-- A free value is used up. -/
def useFree (s : State) : State := { s with free := s.free + 1 }

end State

/-! Domains (R41, R72). -/

/-- The domain of a page: 0 AON, 1 CTL, 2 ENG, 3 NET, 4 RAD (R41). -/
def pageDomain (pg : Nat) : Nat :=
  if pg == 3 || pg == 4 || (8 ≤ pg && pg ≤ 10) || (12 ≤ pg && pg ≤ 15) || pg == 26 || pg == 28 || pg == 29 then 1
  else if (16 ≤ pg && pg ≤ 25) || pg == 27 then 2
  else if (32 ≤ pg && pg ≤ 100) || (104 ≤ pg && pg ≤ 108) then 3
  else if pg == 112 || pg == 113 then 4
  else 0

/-- The 109 populated pages, in ascending order (R74). -/
def allPages : List Nat := (List.range 256).filter populated

/-- The pages of a domain. -/
def domainPages (d : Nat) : List Nat := allPages.filter (fun p => pageDomain p == d)

/-- The output ports: GZP, DOM and DMX (R48, R52). -/
def isPort (pg : Nat) : Bool := (32 ≤ pg && pg < 64) || (80 ≤ pg && pg < 100)

/-- The output port pages, in ascending order. -/
def portPages : List Nat := allPages.filter isPort

/-- The plan-coupled blocks of R16: FE, MAP, CLR, THM, DMK and every GZP. -/
def planCoupled (pg : Nat) : Bool := pg == 16 || pg == 18 || pg == 19 || pg == 20 || pg == 23 || (32 ≤ pg && pg < 64)

namespace State

/-- The code of a domain in DOMAIN_STATE: 0 off, 1 ramping, 2 on, 3 retention, 4 fault (R73). -/
def dom (s : State) (d : Nat) : Nat := fld (s.rd Reg.PWR.DOMAIN_STATE) (4 * d) 4

/-- A page whose domain is neither off nor in retention can be reached (R41, R76). -/
def reach (s : State) (pg : Nat) : Bool := s.dom (pageDomain pg) != 0 && s.dom (pageDomain pg) != 3

/-- The READY_MAP bit of a page (R41, R66). -/
def isReady (s : State) (pg : Nat) : Bool := s.code pg == 2 && s.reach pg

/-- A block at work: it can be reached, and its STATE is READY or HOLD. -/
def up (s : State) (pg : Nat) : Bool := s.reach pg && (s.code pg == 2 || s.code pg == 6)

/-- The PROC_STATE code of a processor: SC 0, PP 1, FP 2, RP 3 (R66, R70). -/
def proc (s : State) (p : Nat) : Nat := fld (s.rd Reg.SYS.PROC_STATE) (4 * p) 4

/-- PROC_STATE of a processor takes a code. -/
def setProc (p c : Nat) (s : State) : State := s.wrFld Reg.SYS.PROC_STATE (4 * p) 4 c

end State

/-! The journal (R34, R35). -/

/-- A register whose value MRAM keeps, but for the journal's own sequence number (R10, R65). -/
def keptReg (addr : Nat) : Bool :=
  addr != Reg.SYS.JOURNAL_SEQ && (match regRow addr with | some r => r.keep == .durable | none => false)

/-- The code of a store in a journal record (DESIGN CHOICE, log entry 26). -/
def JTable.code : JTable → Nat
  | .reg => 0 | .enable => 1 | .registry => 2 | .sched => 3 | .rules => 4 | .uniIn => 5 | .cue => 6 | .group => 7 | .arb => 8

/-- The bytes of a table of words. -/
def wordBytes (t : Sparse Word) : List Byte := (t.map (fun e => leBytes 4 e.1 ++ leBytes 4 e.2.toNat)).flatten

/-- The bytes of a change as the CRC of its record covers them. -/
def JItem.bytes : JItem → List Byte
  | .word t k _ n => leBytes 1 t.code ++ leBytes 4 k ++ leBytes 4 n.toNat
  | .plan _ p => leBytes 1 16 ++ leBytes 4 p.epoch.toNat ++ leBytes 2 p.tiles ++ wordBytes p.map ++ wordBytes p.zone ++ wordBytes p.prof
  | .fault r => leBytes 1 17 ++ leBytes 4 r.seq.toNat ++ leBytes 4 r.time.toNat ++ leBytes 4 r.id ++ leBytes 1 r.code ++ leBytes 1 (b2n r.raised) ++
      leBytes 4 r.detail.toNat
  | .heat _ l => leBytes 1 18 ++ (l.map (fun f => leBytes 4 f)).flatten

/-- The CRC-32 of a journal record. -/
def journalCrc (seq : Word) (items : List JItem) : Word := Crypto.crc32 (leBytes 4 seq.toNat ++ (items.map JItem.bytes).flatten)

namespace State

/-- CTL.ENABLE by page, as words: 1 where it is 1. -/
def enables (s : State) : Sparse Word := (s.blocks.filter (fun e => !e.2.enable)).map (fun e => (e.1, 0))

/-- The anti-rollback counters, as words. -/
def arbWords (s : State) : Sparse Word := s.upd.arb.map (fun e => (e.1, W e.2))

/-- The durable changes from `old` to `s` (R34, R35). -/
def durableChanges (old s : State) : List JItem :=
  let words := fun (t : JTable) (d : Nat → Word) (a b : Sparse Word) => (Sparse.changes d a b).map (fun e => JItem.word t e.1 e.2.1 e.2.2)
  words .reg regDefault (old.regs.filter (fun e => keptReg e.1)) (s.regs.filter (fun e => keptReg e.1)) ++
    words .enable (fun _ => 1) old.enables s.enables ++ words .registry (fun _ => 0) old.registry s.registry ++
    words .sched (fun _ => 0) old.sched s.sched ++ words .rules (fun _ => 0) old.rules s.rules ++ words .uniIn (fun _ => 0) old.uniIn s.uniIn ++
    words .cue cueDefault old.cueA s.cueA ++ words .group gmDefault old.gmA s.gmA ++ words .arb (fun _ => 0) old.arbWords s.arbWords ++
    (if old.plan.epoch == s.plan.epoch then [] else [.plan old.plan s.plan]) ++
    (s.faults.filter (fun r => !old.faults.contains r)).map JItem.fault ++
    (if old.heatOff == s.heatOff then [] else [.heat old.heatOff s.heatOff])

/-- The changes since `old` become durable in one journal record, with the next sequence number and its CRC; SYS.JOURNAL_SEQ shows it (R34, R35; DESIGN CHOICE, log
entry 26). -/
def journal (s old : State) : State :=
  let seq := s.rd Reg.SYS.JOURNAL_SEQ + 1
  let items := old.durableChanges s
  { s.bumpWrap Reg.SYS.JOURNAL_SEQ with jrnl := s.jrnl ++ [{ seq := seq, items := items, crc := journalCrc seq items }] }

end State

namespace State

/-- A change that the journal lost is not made (R34). A plan that was lost leaves with its swap and its frames. -/
def undo (i : JItem) (s : State) : State :=
  match i with
  | .word .reg k o _ => s.wr k o
  | .word .enable k o _ => s.updBlk k (fun b => { b with enable := o != 0 })
  | .word .registry k o _ => { s with registry := Sparse.set (fun _ => 0) s.registry k o }
  | .word .sched k o _ => { s with sched := Sparse.set (fun _ => 0) s.sched k o }
  | .word .rules k o _ => { s with rules := Sparse.set (fun _ => 0) s.rules k o }
  | .word .uniIn k o _ => { s with uniIn := Sparse.set (fun _ => 0) s.uniIn k o }
  | .word .cue k o _ => { s with cueA := Sparse.set cueDefault s.cueA k o }
  | .word .group k o _ => { s with gmA := Sparse.set gmDefault s.gmA k o }
  | .word .arb k o _ => { s with upd := { s.upd with arb := Sparse.set (fun _ => 0) s.upd.arb k o.toNat } }
  | .plan o n =>
    (allPages.filter planCoupled).foldl (fun a pg => a.updBlk pg (fun b => { b with swapPend := false }))
      { s with plan := o, planOld := none, ptc := 0, ptc1 := 0, entered := [], flipped := [], frames := s.frames.filter (fun f => f.epoch != n.epoch)
               tileQ := (s.tileQ.map (fun e => (e.1, e.2.filter (fun t => t.epoch != n.epoch)))).filter (fun e => !e.2.isEmpty) }
  | .fault r => { s with faults := s.faults.filter (fun x => x != r) }
  | .heat o _ => { s with heatOff := o }

end State

/-- The records up to the first bad one (R34): each follows its predecessor's sequence number and its CRC-32 is right; `damaged` is the sequence number of a record
whose bytes MRAM no longer holds as they were written. -/
def journalGood (damaged : Option Word) : Option Word → List JournalRec → List JournalRec
  | _, [] => []
  | prev, r :: l =>
    if (match prev with | some p => r.seq == p + 1 | none => true) && r.crc == journalCrc r.seq r.items && damaged != some r.seq
    then r :: journalGood damaged (some r.seq) l else []

/-! The event router. -/

/-- First source and number of sources that a page drives (R94); none for FUSE, EVR, MISC and DSP. -/
def evtBase (pg : Nat) : Option (Nat × Nat) :=
  if pg == 0 then some (0, 8) else if pg == 1 then some (8, 8) else if pg == 11 then some (16, 8)
  else if 12 ≤ pg && pg < 16 then some (24 + 2 * (pg - 12), 2)
  else if pg == 6 then some (32, 4) else if pg == 7 then some (36, 4)
  else if pg == 8 then some (40, 3) else if pg == 9 then some (43, 3) else if pg == 10 then some (46, 2)
  else if pg == 16 then some (48, 6) else if pg == 17 then some (54, 2) else if pg == 18 then some (56, 2)
  else if pg == 19 then some (58, 3) else if pg == 20 then some (61, 3)
  else if pg == 21 then some (64, 2) else if pg == 22 then some (66, 2) else if pg == 23 then some (68, 1)
  else if pg == 24 then some (69, 2) else if pg == 25 then some (71, 1) else if pg == 26 then some (72, 8)
  else if pg == 28 then some (80, 4) else if pg == 29 then some (84, 4)
  else if pg == 30 then some (88, 4) else if pg == 31 then some (92, 4)
  else if 32 ≤ pg && pg < 64 then some (96 + (pg - 32), 1)
  else if 64 ≤ pg && pg < 80 then some (128 + (pg - 64), 1)
  else if 80 ≤ pg && pg < 96 then some (144 + (pg - 80), 1)
  else if 96 ≤ pg && pg < 100 then some (160 + (pg - 96), 1)
  else if pg == 100 then some (164, 4)
  else if 104 ≤ pg && pg < 108 then some (168 + (pg - 104), 1)
  else if pg == 108 then some (172, 4) else if pg == 112 then some (176, 12) else if pg == 113 then some (188, 4)
  else if pg == 3 then some (192, 4) else if pg == 4 then some (196, 4)
  else none

/-- The EVT bits that drive the k-th of m sources of a page: bit k, and for the last every bit from m - 1 up (R94). -/
def srcMask (m k : Nat) : Word := if k + 1 < m then W (2 ^ k) else W (2 ^ 32 - 2 ^ k)

/-- The page of a source and its place among the page's sources (R94). -/
def srcPage (src : Nat) : Option (Nat × Nat × Nat) :=
  allPages.findSome? (fun pg =>
    match evtBase pg with
    | some (b, m) => if b ≤ src && src < b + m then some (pg, m, src - b) else none
    | none => none)

namespace State

/-- A source is active: a bit of its page's EVT_PEND that drives it is 1; for EV200-255, SWGEN set it (R94, R99). -/
def srcActive (s : State) (src : Nat) : Bool :=
  if 200 ≤ src then s.swgen.contains src
  else
    match srcPage src with
    | some (pg, m, k) => ((s.blk pg).evtRaw &&& (s.blk pg).evtEn &&& srcMask m k) != 0
    | none => false

/-- ROUTE of a source with its owner bit, which cannot be cleared (R96, R100). -/
def route (s : State) (src : Nat) : Word := s.rd (Reg.EVR.ROUTE src) ||| ownerBit src

/-- Whether a target can be notified now: EVR is READY and SC is not restarting; a processor runs; HIF answers the host
(R13, R59, R486). Bits as in ROUTE. -/
def canNotify (s : State) (t : Nat) : Bool :=
  s.code 2 == 2 && s.proc 0 != 3 && s.proc 0 != 1 &&
    (if t < 4 then s.proc t == 2 else if t == 4 then s.reach 3 && s.code 3 != 0 && s.code 3 != 1 else true)

/-- A vector's message goes to the host (R97, R101). -/
def msixSend (v : Nat) (s : State) : State := s.emit (.msix v (s.rd (Reg.HIF.MSIX_ADDR_HI v) ++ s.rd (Reg.HIF.MSIX_ADDR_LO v)) (s.rd (Reg.HIF.MSIX_DATA v)))

/-- A rise is sent to HOST on its vector: held while the vector is masked or the link is down, dropped while its pending bit is set (R97). -/
def sendMsix (v : Nat) (s : State) : State :=
  let pba := s.rd (Reg.HIF.MSIX_PBA 0)
  if bit pba v then s
  else if bit (s.rd (Reg.HIF.MSIX_CTRL v)) 0 || !bit (s.rd Reg.HIF.LINK_STATUS) 10 then s.wr (Reg.HIF.MSIX_PBA 0) (setBit pba v true)
  else s.msixSend v

/-- The pulse width of an EVT pin in us: 0 written is taken as 1 (R107). -/
def evtWidth (s : State) (k : Nat) : Nat := clampN 1 127 (fld (s.rd Reg.MISC.EVT_PIN_CFG) (8 * k + 1) 7)

/-- An EVT pin is driven low (R95, R107): in pulse mode during a pulse, else while any source routed to it is active. -/
def evtPinLow (s : State) (k : Nat) : Bool :=
  if bit (s.rd Reg.MISC.EVT_PIN_CFG) (8 * k) then s.pinPulse.contains k
  else (List.range 256).any (fun src => bit (s.route src) (5 + k) && s.srcActive src)

/-- One target of a source is notified (R95). An EVT pin in pulse mode starts its pulse (R107); in level mode it follows the source (`evtPinLow`). A rise while the
pin's pulse already runs neither restarts nor lengthens it (DESIGN CHOICE, log entry 96: R107 gives a pulse at each rise and not what overlapping pulses do). -/
def notifyTo (src t : Nat) (s : State) : State :=
  if t < 4 then s.emit (.notify t src)
  else if t == 4 then s.sendMsix (fld (s.route src) 8 5)
  else
    let k := t - 5
    if bit (s.rd Reg.MISC.EVT_PIN_CFG) (8 * k) then
      if s.pinPulse.contains k then s else { s with pinPulse := s.pinPulse ++ [k] }.emit (.evtPulse k (s.evtWidth k))
    else s

/-- The selected targets of a source at a rise: those that can be notified are, the rest wait (R13, R95). -/
def deliver (src mask : Nat) (s : State) : State :=
  let now := (bitsOf mask 7).filter s.canNotify
  let later := (bitsOf mask 7).filter (fun t => !s.canNotify t)
  let s' := now.foldl (fun a t => a.notifyTo src t) s
  if later.isEmpty then s' else { s' with deferred := s'.deferred ++ [(src, later.foldl (fun m t => m + 2 ^ t) 0)] }

/-- A source rises (R95). A rise routed to HOST drives WAKE_N low while the link is not up (R479). -/
def rise (src : Nat) (s : State) : State :=
  let s := if bit (s.route src) 4 && !bit (s.rd Reg.HIF.LINK_STATUS) 10 then { s with wakeN := true } else s
  s.deliver src (s.route src).toNat

/-- Mains is good (R467, R485). -/
def mainsOn (s : State) : Bool := bit (s.rd Reg.PSU.STATUS) 0

/-- Deliveries that waited are tried again, oldest first. -/
def flushDeferred (s : State) : State :=
  s.deferred.foldl (fun a e => a.deliver e.1 e.2) { s with deferred := [] }

/-- The causes of a page change by `f` and `g` on EVT_RAW and EVT_EN; each source of the page that goes from inactive to active rises,
in ascending order (R95). -/
def withCauses (pg : Nat) (f g : Word → Word) (s : State) : State :=
  match evtBase pg with
  | none => s.updBlk pg (fun k => { k with evtRaw := f k.evtRaw, evtEn := g k.evtEn })
  | some (b, m) =>
    let s' := s.updBlk pg (fun k => { k with evtRaw := f k.evtRaw, evtEn := g k.evtEn })
    let old := (s.blk pg).evtRaw &&& (s.blk pg).evtEn
    let new := (s'.blk pg).evtRaw &&& (s'.blk pg).evtEn
    ((List.range m).filter (fun k => (old &&& srcMask m k) == 0 && (new &&& srcMask m k) != 0)).foldl
      (fun a k => a.rise (b + k)) s'

/-- Cause `n` of a page occurs: EVT_RAW bit n is latched, and the source rises if it was inactive (R78, R95). -/
def raise (pg n : Nat) (s : State) : State :=
  s.withCauses pg (fun r => setBit r n true) (fun e => e)

/-- STATE.CODE of a page takes a value; a change of its READY_MAP bit raises EV006 (R64, R81). -/
def setCode (pg c : Nat) (s : State) : State :=
  let s' := s.updBlk pg (fun b => { b with code := c })
  if s.isReady pg == s'.isReady pg then s' else s'.raise 0 6

/-- The journal is replayed (R34): the first bad record and every later one are ignored, latest first, and EV007 is raised; what is left is in force, and the journal begins
anew after the last good record (DESIGN CHOICE, log entry 26). -/
def replay (damaged : Option Word) (s : State) : State :=
  let bad := s.jrnl.drop (journalGood damaged none s.jrnl).length
  let s := { bad.reverse.foldl (fun a r => r.items.reverse.foldl (fun b i => b.undo i) a) s with jrnl := [] }
  match bad with
  | [] => s
  | r :: _ => (s.wr Reg.SYS.JOURNAL_SEQ (r.seq - 1)).raise 0 7

end State

/-! The access matrix. -/

/-- The requester's bit in the masks of ACCESS (R87). -/
def reqIdx : Requester → Nat
  | .host => 0 | .prt => 1 | .sc => 2 | .pp => 3 | .fp => 4 | .rp => 5

/-- The ACCESS bit of the processor that owns a page (R13): SC 2, PP 3, FP 4, RP 5. -/
def pageOwner (pg : Nat) : Nat :=
  if (16 ≤ pg && pg ≤ 27) || (32 ≤ pg && pg < 100) then 3
  else if pg == 28 || pg == 29 || pg == 30 || pg == 100 || (104 ≤ pg && pg ≤ 108) then 4
  else if pg == 112 || pg == 113 then 5
  else 2

/-- The owner of a row: of a page, or of a table (DEDUCED, log entry 9). -/
def rowOwner (i : Nat) : Nat :=
  if i < 256 then pageOwner i else if i < 257 then 2 else if i < 262 then 3 else 4

/-- The further writer of a page (R87): FP for CLR, RTC and KEY. -/
def furtherWriter (i : Nat) : Nat := if i == 19 || i == 11 || i == 6 then 2 ^ 4 else 0

/-- Whether a row exists: 109 pages and 9 tables (R433). -/
def hasRow (i : Nat) : Bool := populated i || (256 ≤ i && i ≤ 264)

/-- The write mask of SC, the owner and the further writers. -/
def ownWriters (i : Nat) : Nat := 2 ^ 2 ||| 2 ^ rowOwner i ||| furtherWriter i

/-- The factory row: HOST and SC read and write, PP, FP and RP read, each writes what it owns (R87). -/
def factoryRow (i : Nat) : Word := W (0x3D + 0x100 * (1 ||| ownWriters i))

/-- The sealed default of an unburned row (R433). -/
def sealedRow (i : Nat) : Word := W (0x3D + 0x100 * ownWriters i)

namespace State

/-- A burned row or, for a table, its HOST and PRT bits over the sealed default (R433). -/
def burnedRow (s : State) (i : Nat) : Word :=
  let f := Sparse.get (fun _ => FuseRow.init) s.fuseRows i
  if f.valid then
    if i < 256 then f.row &&& 0x3F3F
    else (f.row &&& 0x0303) ||| (sealedRow i &&& 0x3C3C)
  else sealedRow i

/-- The row of the access matrix in force (R87, R433): the factory matrix until SEAL is burned. -/
def accessRow (s : State) (i : Nat) : Word :=
  if !hasRow i then 0
  else if bit (s.rd Reg.FUSE.LIFECYCLE) 0 then s.burnedRow i else factoryRow i

/-- The matrix lets the requester read or write row `i` (R87). -/
def allowed (s : State) (r : Requester) (i : Nat) (wr : Bool) : Bool :=
  bit (s.accessRow i) (reqIdx r + if wr then 8 else 0)

/-- A denied access is counted and reported (R88). -/
def denied (r : Requester) (pg : Nat) (s : State) : State :=
  let s := s.err pg
  match r with
  | .host => (s.bump Reg.HIF.DENIED_CNT).raise 3 0
  | .prt => s.raise 4 2
  | _ => s

/-- An access to a page out of reach is counted for HOST (R76, R101); PRT is answered with UNREACHABLE by its own path. -/
def unreachable (r : Requester) (s : State) : State :=
  match r with
  | .host => (s.bump Reg.HIF.UNREACH_CNT).raise 3 3
  | _ => s

/-- The pages that HOST and PRT may still write in HOLD (R47). -/
def holdWritable (pg : Nat) : Bool :=
  pg == 0 || pg == 1 || pg == 2 || pg == 3 || pg == 4 || pg == 7 || pg == 9 || pg == 10

end State

end Sys2Proof.Machine
end

