-- ==== Sys2Proof/Machine/Real.lean ====
section
/-!
DEFINITION. The real functions that the spec's expressions use: cosine and sine of a turn (R138, R139), square root (R139, R225), exp (R230,
R231), powers and the EOTFs of R153. A rational result is exact. Any other is a rational approximation plus a free error of at most 2^-40
(`within`), since no rule fixes the arithmetic behind them (PRESUMED, log entry 23).
-/
namespace Sys2Proof.Machine

/-- Rounded down to 64 fractional bits. -/
def fix64 (q : Rat) : Rat := mkRat ((q * (2 ^ 64 : Nat)).floor) (2 ^ 64)

/-- An approximation and a free error held to 2^-40 of it. -/
def within (approx err : Rat) : Rat :=
  let e := mkRat 1 (2 ^ 40)
  approx + (if err < -e then -e else if e < err then e else err)

/-- `n` terms of x - x^3/3! + x^5/5! ... from term `t` with factorial position `k`: the alternating series of sine and cosine. -/
def altSeries (xx : Rat) : Nat → Nat → Rat → Rat
  | 0, _, _ => 0
  | n + 1, k, t => t + altSeries xx n (k + 2) (fix64 (-t * xx / ((k + 1) * (k + 2) : Nat)))

/-- Pi to 40 decimals. -/
def piQ : Rat := mkRat 31415926535897932384626433832795028841972 (10 ^ 40)

/-- cos (2 pi x) for 0 ≤ x ≤ 1/4. -/
def cosQuarter (x : Rat) : Rat :=
  let th := fix64 (2 * piQ * x)
  altSeries (th * th) 16 0 1

/-- cos (2 pi x) for x in [0, 1) folded into the first quarter: the sign and the turn. -/
def foldTurn (x : Rat) : Rat × Rat :=
  let w := x - (x.floor : Int)
  let h := if 1 < 2 * w then 1 - w else w
  if 1 < 4 * h then (-1, mkRat 1 2 - h) else (1, h)

/-- cos (2 pi x) by its series. -/
def cosApprox (x : Rat) : Rat := let a := foldTurn x; a.1 * cosQuarter a.2

/-- cos (2 pi x) (R138, R139): a rational value is exact (at a rational turn those are 0, 1/2 and 1 with either sign). -/
def cosTurn (x : Rat) : Rat :=
  let a := foldTurn x
  if a.2 == 0 then a.1
  else if a.2 == mkRat 1 4 then 0
  else if a.2 == mkRat 1 6 then a.1 * mkRat 1 2
  else within (cosApprox x) (Config.cosError x)

/-- sin (2 pi x) = cos (2 pi (x - 1/4)). -/
def sinTurn (x : Rat) : Rat := cosTurn (x - mkRat 1 4)

/-- The whole part of a square root, one binary digit a step: `r` has the digits found so far. -/
def isqrtBits (n : Nat) : Nat → Nat → Nat
  | 0, r => r
  | k + 1, r => isqrtBits n k (if (r + 2 ^ k) * (r + 2 ^ k) ≤ n then r + 2 ^ k else r)

/-- The whole part of the square root of a number. -/
def isqrt (n : Nat) : Nat := isqrtBits n (n.log2 / 2 + 1) 0

/-- Square root of a number that is not negative (R139, R225): exact at the square of a rational number. -/
def rootQ (x : Rat) : Rat :=
  let n := x.num.toNat
  let a := isqrt n
  let b := isqrt x.den
  if a * a == n && b * b == x.den then mkRat a b
  else within (mkRat (isqrt (x * (2 ^ 128 : Nat)).floor.toNat) (2 ^ 64)) (Config.rootError x)

/-- `n` terms of exp from term `t` at position `k`. -/
def expSeries (x : Rat) : Nat → Nat → Rat → Rat
  | 0, _, _ => 0
  | n + 1, k, t => t + expSeries x n (k + 1) (fix64 (t * x / (k + 1 : Nat)))

/-- ln 2 to 40 decimals. -/
def ln2 : Rat := mkRat 6931471805599453094172321214581765680755 (10 ^ 40)

/-- exp x: powers of 2 taken out. -/
def expApprox (x : Rat) : Rat :=
  let k := (x / ln2).floor
  let r := fix64 (x - k * ln2)
  let m := expSeries r 24 0 1
  if k < -64 then 0 else if k < 0 then m / (2 ^ k.natAbs : Nat) else m * (2 ^ k.natAbs : Nat)

/-- exp (-x) for x ≥ 0 (R230, R231). -/
def expNeg (x : Rat) : Rat := if x == 0 then 1 else within (expApprox (-x)) (Config.expError x)

/-- `n` terms of z + z^3/3 + z^5/5 ... from power `t` at position `k`. -/
def atanhSeries (zz : Rat) : Nat → Nat → Rat → Rat
  | 0, _, _ => 0
  | n + 1, k, t => t / (k : Nat) + atanhSeries zz n (k + 2) (fix64 (t * zz))

/-- ln x for x > 0. -/
def lnApprox (x : Rat) : Rat :=
  let k : Int := (x.num.toNat.log2 : Int) - (x.den.log2 : Int)
  let m := if k < 0 then x * (2 ^ k.natAbs : Nat) else x / (2 ^ k.natAbs : Nat)
  let z := fix64 ((m - 1) / (m + 1))
  k * ln2 + 2 * atanhSeries (z * z) 40 1 z

/-- x^p for p > 0, 0 for x ≤ 0. -/
def powApprox (x p : Rat) : Rat := if x ≤ 0 then 0 else if x == 1 then 1 else expApprox (fix64 (p * lnApprox x))

/-- BT.1886 relative to display white, with a black level of 0 (R153). -/
def eotfSdr (v : Rat) : Rat := powApprox v (mkRat 24 10)

/-- PQ, in units of 203 cd/m2 (R153). -/
def eotfPq (v : Rat) : Rat :=
  let x := powApprox v (mkRat 32 2523)
  let c2 := mkRat 2413 128
  let c3 := mkRat 2392 128
  let n := x - mkRat 3424 4096
  mkRat 10000 203 * powApprox ((if n < 0 then 0 else n) / (c2 - c3 * x)) (mkRat 16384 2610)

/-- The inverse OETF of HLG. -/
def hlgLinear (v : Rat) : Rat :=
  let a := mkRat 17883277 100000000
  let b := 1 - 4 * a
  let c := mkRat 1 2 - a * lnApprox (4 * a)
  if v ≤ 0 then 0 else if v ≤ mkRat 1 2 then v * v / 3 else (expApprox (fix64 ((v - c) / a)) + b) / 12

/-- HLG with system gamma 1.2, in units of the light of a 75 % white (R153). -/
def eotfHlg (v : Rat × Rat × Rat) : Rat × Rat × Rat :=
  let e := (hlgLinear v.1, hlgLinear v.2.1, hlgLinear v.2.2)
  let y := mkRat 2627 10000 * e.1 + mkRat 678 1000 * e.2.1 + mkRat 593 10000 * e.2.2
  let g := powApprox y (mkRat 2 10) / powApprox (hlgLinear (mkRat 75 100)) (mkRat 12 10)
  (g * e.1, g * e.2.1, g * e.2.2)

/-- The EOTF of a TRANSFER code (R153): linear R, G, B relative to reference white. A non-linear value of 0 or less gives no light, and SDR's 1 gives 1. -/
def eotf (transfer : Nat) (v : Rat × Rat × Rat) : Rat × Rat × Rat :=
  let a : Rat × Rat × Rat :=
    if transfer == 0 then (eotfSdr v.1, eotfSdr v.2.1, eotfSdr v.2.2)
    else if transfer == 1 then (eotfPq v.1, eotfPq v.2.1, eotfPq v.2.2)
    else eotfHlg v
  let e := Config.eotfError transfer v
  let near := fun (x err : Rat) => if x == 0 || (transfer == 0 && x == 1) then x else within x err
  (near a.1 e.1, near a.2.1 e.2.1, near a.2.2 e.2.2)

/-! Dusk and dawn (R387). -/

/-- cos and sin of degrees. -/
def cosDeg (d : Rat) : Rat := cosApprox (d / 360)
def sinDeg (d : Rat) : Rat := cosApprox (d / 360 - mkRat 1 4)

/-- Halving of [lo, lo + 2^k / 2^41] towards the turn whose cosine is c, which falls from 1 at 0 to -1 at 1/2. -/
def acosBits (c : Rat) : Nat → Rat → Rat
  | 0, lo => lo
  | k + 1, lo =>
    let m := lo + mkRat (2 ^ k) (2 ^ 25)
    acosBits c k (if c ≤ cosApprox m then m else lo)

/-- Sine and cosine of the sun's declination, and the equation of time in s, n days after 2000-01-01 12:00 UTC (PRESUMED, log entry 23). -/
def sunNow (n : Rat) : Rat × Rat × Rat :=
  let n := mkRat (n * 65536).floor 65536
  let l := mkRat 28046 100 + mkRat 9856474 10000000 * n
  let g := mkRat 357528 1000 + mkRat 9856003 10000000 * n
  let lam := l + mkRat 1915 1000 * sinDeg g + mkRat 20 1000 * sinDeg (2 * g)
  let eps := mkRat 23439 1000 - mkRat 4 10000000 * n
  let sd := fix64 (sinDeg eps * sinDeg lam)
  let t2 := fix64 ((1 - cosDeg eps) / (1 + cosDeg eps))
  let e := mkRat 16709 1000000
  let eot := t2 * sinDeg (2 * l) - 2 * e * sinDeg g + 4 * e * t2 * sinDeg g * cosDeg (2 * l) - t2 * t2 / 2 * sinDeg (4 * l) -
    mkRat 5 4 * e * e * sinDeg (2 * g)
  let cd := 1 - sd * sd
  (sd, mkRat (isqrt (cd * (2 ^ 128 : Nat)).floor.toNat) (2 ^ 64), fix64 (eot / (2 * piQ) * 86400))

/-- UTC second of day of dusk or dawn of a solar day, by `k` refinements from an estimate: the sun's position is taken at the estimate. -/
def sunPass (dusk : Bool) (lat lon zen : Rat) (day : Int) : Nat → Rat → Option Rat
  | 0, t => some t
  | k + 1, t =>
    let p := sunNow ((day : Rat) - mkRat 1 2 + t / 86400)
    let c := fix64 ((cosDeg zen - sinDeg lat * p.1) / (cosDeg lat * p.2.1))
    if c < -1 || 1 < c then none
    else
      let h := acosBits c 24 0 * 86400
      sunPass dusk lat lon zen day k (43200 - 240 * lon - p.2.2 + if dusk then h else -h)

/-- Dusk (true) or dawn of a local day in local seconds (R387): SITE_LAT, SITE_LON, ZENITH, offset of local time, day since 2000-01-01. Up to 60 degrees of
latitude the result is within 60 s of the sun's; beyond, it is free (PRESUMED, log entry 23). -/
def sunAt (dusk : Bool) (lat lon : Int) (zen : Nat) (tz day : Int) : Option Int :=
  if 60000000 < lat.natAbs then (Config.sunFar dusk lat lon zen tz day).map (fun x => ((x.val : Nat) : Int))
  else
    let at_ := fun (k : Int) =>
      (sunPass dusk (mkRat lat 1000000) (mkRat lon 1000000) (mkRat zen 100) (day + k) 3 43200).map (fun t => (t.floor : Int) + 86400 * k + tz)
    let inDay := fun (x : Int) => 0 ≤ x && x < 86400
    (([0, -1, 1].filterMap at_).find? (fun x => inDay x)).map (fun x => x + clampI (-60) 60 (Config.sunError dusk lat lon zen day))

end Sys2Proof.Machine
end

