-- ==== Sys2Proof/Machine/Render.lean ====
section
/-!
DEFINITION. What a lane computes for a tile, as functions of its inputs: layer coordinates, generators, pictures, compositing (R131-R171),
masters and groups (R213), the solver tables and the solve (R217-R224), residuals (R225) and quantising (R227).
-/
namespace Sys2Proof.Machine

/-- A table of numbers: rows of equal length. -/
abbrev Mat := List (List Rat)

/-- Entry of a matrix, 0 outside it. -/
def Mat.at (m : Mat) (i j : Nat) : Rat := (m.getD i []).getD j 0

/-- A matrix from a function. -/
def Mat.of (r c : Nat) (f : Nat → Nat → Rat) : Mat := (List.range r).map (fun i => (List.range c).map (f i))

/-- Product of matrices: `n` is the common size. -/
def Mat.mul (r n c : Nat) (a b : Mat) : Mat :=
  Mat.of r c (fun i j => (List.range n).foldl (fun s k => s + a.at i k * b.at k j) 0)

/-- One step of elimination on column `k` of `n` columns, in rows that carry the right-hand side with them; none where the column has no pivot. -/
def Mat.pivot (n : Nat) (k : Nat) (m : Mat) : Option Mat :=
  match (List.range n).find? (fun i => k ≤ i && m.at i k != 0) with
  | none => none
  | some p =>
    let rowP := m.getD p []
    let piv := rowP.getD k 0
    let unit := rowP.map (fun x => x / piv)
    let swapped := setAt (setAt m p (m.getD k [])) k unit
    some ((List.range n).map (fun i =>
      if i == k then unit
      else
        let row := swapped.getD i []
        let f := row.getD k 0
        (List.range row.length).map (fun j => row.getD j 0 - f * unit.getD j 0)))

/-- Inverse of an n x n matrix, if it has one. -/
def Mat.inv (n : Nat) (m : Mat) : Option Mat :=
  let aug := (List.range n).map (fun i => (m.getD i []).take n ++ (List.range n).map (fun j => if i == j then 1 else 0))
  ((List.range n).foldl (fun (a : Option Mat) k => a.bind (Mat.pivot n k)) (some aug)).map (fun a => a.map (fun r => r.drop n))

/-- Determinant of an n x n matrix for n up to 3. -/
def Mat.det (n : Nat) (m : Mat) : Rat :=
  if n == 1 then m.at 0 0
  else if n == 2 then m.at 0 0 * m.at 1 1 - m.at 0 1 * m.at 1 0
  else m.at 0 0 * (m.at 1 1 * m.at 2 2 - m.at 1 2 * m.at 2 1) - m.at 0 1 * (m.at 1 0 * m.at 2 2 - m.at 1 2 * m.at 2 0) +
    m.at 0 2 * (m.at 1 0 * m.at 2 1 - m.at 1 1 * m.at 2 0)

/-! Numbers. -/

/-- Rounded to the nearest whole number, ties to even. -/
def roundQ (q : Rat) : Int := roundEven q.num q.den

/-- Rounded to `n` fractional bits, to nearest with ties to even. -/
def roundTo (n : Nat) (q : Rat) : Rat := mkRat (roundQ (q * (2 ^ n : Nat))) (2 ^ n)

/-- 24 fractional bits (R223). -/
abbrev r24 (q : Rat) : Rat := roundTo 24 q

/-- A number held within limits. -/
def clampRat (lo hi q : Rat) : Rat := if q < lo then lo else if hi < q then hi else q

/-- The working format (R211): rounded to 16 fractional bits and held in [0, 0xF_FFFF / 0x1_0000]. -/
def working (q : Rat) : Rat := clampRat 0 (mkRat 0xFFFFF 65536) (roundTo 16 q)

/-- A working-format word as a number. -/
def ofWorking (n : Nat) : Rat := mkRat n 65536

/-- Unsigned 0.16 with 0xFFFF taken as 1.0. -/
def unit16 (n : Nat) : Rat := if n == 0xFFFF then 1 else mkRat n 65536

/-- Fractional part. -/
def fracQ (q : Rat) : Rat := q - (q.floor : Int)

/-! The zone table (R131-R137). -/

/-- Frame rate n/d in Hz of a RATE code (R133); (0, 1) for the reserved codes. -/
def rateOf (c : Nat) : Nat × Nat :=
  [(24000, 1001), (24, 1), (25, 1), (30000, 1001), (30, 1), (48, 1), (50, 1), (60000, 1001), (60, 1), (100, 1), (120000, 1001), (120, 1),
    (240, 1)].getD c (0, 1)

/-- E_k of a grid (R192), ns. -/
def gridNs (rate k : Nat) : Nat := k * 1000000000 * (rateOf rate).2 / (rateOf rate).1

/-- `n` frame periods in whole ns, rounded down (R135; DEDUCED, log entry 25). -/
def periodsNs (rate n : Nat) : Nat := n * 1000000000 * (rateOf rate).2 / (rateOf rate).1

/-- The last grid frame that lies before extended time `t` (R203), if there is one. -/
def gridBefore (rate : Nat) (t : Int) : Option Nat :=
  let d := 1000000000 * (rateOf rate).2
  if t ≤ 0 then none else some ((t.toNat * (rateOf rate).1 + d - 1) / d - 1)

/-- Word `w` of a zone's entry. -/
def Plan.zw (p : Plan) (z w : Nat) : Word := Sparse.get (fun _ => 0) p.zone (512 * z + w)

/-- Word `w` of a map entry. -/
def Plan.mw (p : Plan) (e w : Nat) : Word := Sparse.get (fun _ => 0) p.map (8 * e + w)

/-- Word `w` of a profile. -/
def Plan.pw (p : Plan) (pr w : Nat) : Word := Sparse.get (fun _ => 0) p.prof (512 * pr + w)

/-- Fields of the zone header (R132). -/
def Plan.zEn (p : Plan) (z : Nat) : Bool := bit (p.zw z 0) 0
def Plan.zTb (p : Plan) (z : Nat) : Nat := fld (p.zw z 0) 1 1
def Plan.zRate (p : Plan) (z : Nat) : Nat := fld (p.zw z 0) 4 4
def Plan.zLead (p : Plan) (z : Nat) : Nat := fld (p.zw z 0) 8 3 + 1
def Plan.zPrio (p : Plan) (z : Nat) : Nat := fld (p.zw z 0) 12 3
def Plan.zLayers (p : Plan) (z : Nat) : Nat := fld (p.zw z 0) 16 5
def Plan.zOffset (p : Plan) (z : Nat) : Int := (p.zw z 1).toInt

/-- Word `w` of layer `l` of a zone (R136). -/
def Plan.lw (p : Plan) (z l w : Nat) : Word := p.zw z (16 + 16 * l + w)

/-- The sources that the layers of a zone name, of a TYPE. -/
def Plan.zoneSources (p : Plan) (z type : Nat) : List Nat :=
  ((List.range (p.zLayers z)).filterMap (fun l => if fld (p.lw z l 0) 0 4 == type then some (fld (p.lw z l 0) 16 11) else none)).eraseDups

/-! The map (R179-R181). -/

/-- The page of a port of a KIND (R180); none for the reserved kind. -/
def kindPage (kind port : Nat) : Option Nat :=
  if kind == 0 then some (32 + port) else if kind == 1 && port < 16 then some (80 + port)
  else if kind == 2 && port < 4 then some (96 + port) else none

/-- The page that a map entry names. -/
def Plan.ePage (p : Plan) (e : Nat) : Option Nat := kindPage (fld (p.mw e 0) 9 2) (fld (p.mw e 0) 11 5)

/-- Zone of a map entry. -/
def Plan.eZone (p : Plan) (e : Nat) : Nat := fld (p.mw e 0) 0 8

/-- Fleet ID of a map entry. -/
def Plan.eFleet (p : Plan) (e : Nat) : Nat := fld (p.mw e 3) 0 17

/-- Profile of an entry's fixture, as copied at the commit (R218). -/
def Plan.eProfile (p : Plan) (e : Nat) : Nat := (Sparse.get (fun _ => ⟨0, []⟩) p.fix (p.eFleet e) : FixCopy).profile

/-- The valid entries in use, ascending. -/
def Plan.valid (p : Plan) : List Nat :=
  p.map.filterMap (fun x => if x.1 % 8 == 0 && bit x.2 8 && x.1 / 8 / 256 < p.tiles then some (x.1 / 8) else none)

/-- An entry whose port is in the plan (R58). -/
def Plan.inPlan (p : Plan) (e : Nat) : Bool := match p.ePage e with | some pg => p.ports.contains pg | none => false

/-- The entries of a zone that its frames render. -/
def Plan.zoneEntries (p : Plan) (z : Nat) : List Nat := p.valid.filter (fun e => p.eZone e == z && p.inPlan e)

/-- The tiles of a zone that are dispatched, ascending (R184). -/
def Plan.zoneTiles (p : Plan) (z : Nat) : List Nat := ((p.zoneEntries z).map (fun e => e / 256)).eraseDups

/-- The entries of a tile that are rendered. -/
def Plan.tileEntries (p : Plan) (t : Nat) : List Nat := (p.valid.filter (fun e => e / 256 == t)).filter p.inPlan

/-- The page of a tile (R182: its valid entries agree). -/
def Plan.tilePage (p : Plan) (t : Nat) : Nat := ((p.tileEntries t).head?.bind p.ePage).getD 0

/-- The ports of a zone's tiles. -/
def Plan.zonePorts (p : Plan) (z : Nat) : List Nat := ((p.zoneTiles z).map p.tilePage).eraseDups

/-- Lane cycles of a tile (R184). -/
def tileCycles (layers : Nat) : Nat := 2048 * Nat.max 8 layers

/-! Colour matrices (R153, R168). -/

/-- The matrix from linear R, G, B to X, Y, Z for primaries and white given as chromaticities in 1/10,000. -/
def rgbXyz (r g b w : Nat × Nat) : Mat :=
  let col := fun (c : Nat × Nat) => [mkRat c.1 c.2, 1, mkRat (10000 - c.1 - c.2 : Int) c.2]
  let m := Mat.of 3 3 (fun i j => ((([r, g, b].map col).getD j []).getD i 0))
  let s := match Mat.inv 3 m with
    | some inv => Mat.mul 3 3 1 inv ((col w).map (fun x => [x]))
    | none => []
  Mat.of 3 3 (fun i j => m.at i j * s.at j 0)

/-- BT.709 and BT.2020 primaries with the D65 white point. -/
def bt709 : Mat := rgbXyz (6400, 3300) (3000, 6000) (1500, 600) (3127, 3290)
def bt2020 : Mat := rgbXyz (7080, 2920) (1700, 7970) (1310, 460) (3127, 3290)

/-- The D65 white of Y = 1. -/
def d65 : List Rat := [mkRat 3127 3290, 1, mkRat 3583 3290]

/-- X, Y, Z of linear R, G, B. -/
def toXyz (m : Mat) (c : List Rat) : List Rat := (List.range 3).map (fun i => (List.range 3).foldl (fun s j => s + m.at i j * c.getD j 0) 0)

/-- A 10-bit narrow-range pixel in the working colour, X, Y, Z (R153). -/
def pixelXyz (transfer colorimetry : Nat) (y cb cr : Nat) : List Rat :=
  let kr : Rat := if colorimetry == 0 then mkRat 2126 10000 else mkRat 2627 10000
  let kb : Rat := if colorimetry == 0 then mkRat 722 10000 else mkRat 593 10000
  let l := mkRat ((y : Int) - 64) 876
  let b := l + 2 * (1 - kb) * mkRat ((cb : Int) - 512) 896
  let r := l + 2 * (1 - kr) * mkRat ((cr : Int) - 512) 896
  let g := (l - kr * r - kb * b) / (1 - kr - kb)
  let c := eotf transfer (r, g, b)
  (toXyz (if colorimetry == 0 then bt709 else bt2020) [c.1, c.2.1, c.2.2]).map working

/-! Sampling (R138, R168). A sample is its alpha and six channels. -/

/-- A sample of a layer. -/
abbrev Samp := Rat × List Rat

/-- A transparent sample. -/
def clear : Samp := (0, [0, 0, 0, 0, 0, 0])

/-- X, Y, Z with the bands of a layer: 0, or Y x BAND_Kn with BAND_FROM_Y (R153). -/
def withBands (p : Plan) (z l : Nat) (xyz : List Rat) : List Rat :=
  let y := xyz.getD 1 0
  xyz ++ (List.range 3).map (fun n =>
    if bit (p.lw z l 0) 28 then working (y * ofWorking (fld (p.lw z l (3 + n)) 0 20)) else 0)

/-- The Y, Cb and Cr of pixel (i, j) of a received picture: 4:2:2 10-bit pgroups of two pixels in five octets. -/
def picPixel (pic : Picture) (i j : Nat) : Option (Nat × Nat × Nat) :=
  (pic.parts.find? (fun x => x.1 == j && x.2.1 ≤ i && i < x.2.1 + x.2.2.length / 5 * 2)).map (fun x =>
    let n := (i - x.2.1) / 2
    let v := ofBE ((x.2.2.drop (5 * n)).take 5)
    (if (i - x.2.1) % 2 == 0 then v / 2 ^ 20 % 1024 else v % 1024, v / 2 ^ 30 % 1024, v / 2 ^ 10 % 1024))

/-- A universe pixel of FORMAT (R168): `cue` are the cue colours. -/
def uniPixel (fmt : Nat) (cue : List Rat) (s : List Byte) : List Rat :=
  let q8 := fun i => mkRat (byteAt s i) 255
  let q16 := fun i => mkRat (256 * byteAt s (2 * i) + byteAt s (2 * i + 1)) 65535
  if fmt == 0 then cue.map (fun c => working (c * q8 0))
  else if fmt == 1 then (toXyz bt709 [q8 0, q8 1, q8 2]).map working ++ [0, 0, 0]
  else if fmt == 2 then
    let x := toXyz bt709 [q8 0, q8 1, q8 2]
    (List.range 3).map (fun i => working (x.getD i 0 + d65.getD i 0 * q8 3)) ++ [0, 0, 0]
  else if fmt == 3 then (toXyz bt709 [q16 0, q16 1, q16 2]).map working ++ [0, 0, 0]
  else [0, 0, 0] ++ [q8 0, q8 1, q8 2].map working

/-- Slots per pixel of a FORMAT (R168). -/
def uniWidth (fmt : Nat) : Nat := [1, 3, 4, 6, 3].getD fmt 1

/-- A sample at whole pixel (i, j) of a layer's source; transparent outside it. -/
def sourcePixel (p : Plan) (z l : Nat) (shot : LayerShot) (cue : List Rat) (i j : Int) : Samp :=
  if i < 0 || j < 0 then clear
  else
    let x := i.toNat
    let y := j.toNat
    match shot.inp with
    | .pic pic =>
      if x < pic.width && y < pic.height then
        match picPixel pic x y with
        | some c => (1, withBands p z l (pixelXyz pic.transfer pic.colorimetry c.1 c.2.1 c.2.2))
        | none => clear
      else clear
    | .clip f fr =>
      if x < leAt f 8 2 && y < leAt f 10 2 then
        let c := Config.h265 f fr x y
        let fl := byteAt f 13
        (1, withBands p z l (pixelXyz (fl / 2 % 4) (fl / 8 % 4) c.1 c.2.1 c.2.2))
      else clear
    | .unis us =>
      let w := fld (p.lw z l 2) 0 16
      let fmt := fld (p.lw z l 1) 12 4
      let per := 512 / uniWidth fmt
      let k := y * w + x
      if x < w && k < per * us.length then
        (1, uniPixel fmt cue (((us.getD (k / per) []).drop (k % per * uniWidth fmt)).take (uniWidth fmt)))
      else clear
    | _ => clear

/-- A weighted sum of samples whose weights sum to 1: transparent ones carry no colour. -/
def mix (l : List (Rat × Samp)) : Samp :=
  let a := l.foldl (fun s x => s + x.1 * x.2.1) 0
  if a == 0 then clear
  else (a, (List.range 6).map (fun c => l.foldl (fun s x => s + x.1 * x.2.1 * x.2.2.getD c 0) 0 / a))

/-- Nearest or bilinear sampling (R138). -/
def sampleAt (px : Int → Int → Samp) (bilinear : Bool) (x y : Rat) : Samp :=
  if bilinear then
    let gx := x - mkRat 1 2
    let gy := y - mkRat 1 2
    let i := gx.floor
    let j := gy.floor
    let fx := fracQ gx
    let fy := fracQ gy
    mix [((1 - fx) * (1 - fy), px i j), (fx * (1 - fy), px (i + 1) j), ((1 - fx) * fy, px i (j + 1)), (fx * fy, px (i + 1) (j + 1))]
  else px x.floor y.floor

/-! Generators (R139). -/

/-- The lattice hash of NOISE. -/
def lattice (seed i j k : Word) : Word :=
  let h := seed ^^^ (i * 0x8DA6B343) ^^^ (j * 0xD8163841) ^^^ (k * 0xCB1AB31F)
  let h := (h ^^^ (h >>> 16)) * 0x7FEB352D
  let h := (h ^^^ (h >>> 15)) * 0x846CA68B
  h ^^^ (h >>> 16)

/-- Linear interpolation. -/
def lerpQ (a b u : Rat) : Rat := a + (b - a) * u

/-- 3-D value noise. -/
def noiseAt (seed : Word) (px py pz : Rat) : Rat :=
  let i := px.floor
  let j := py.floor
  let k := pz.floor
  let sm := fun (u : Rat) => u * u * (3 - 2 * u)
  let c := fun (a b d : Int) =>
    mkRat ((lattice seed (BitVec.ofInt 32 (i + a)) (BitVec.ofInt 32 (j + b)) (BitVec.ofInt 32 (k + d))).toNat / 65536) 65535
  let sx := sm (fracQ px)
  let sy := sm (fracQ py)
  let sz := sm (fracQ pz)
  lerpQ (lerpQ (lerpQ (c 0 0 0) (c 1 0 0) sx) (lerpQ (c 0 1 0) (c 1 1 0) sx) sy)
    (lerpQ (lerpQ (c 0 0 1) (c 1 0 1) sx) (lerpQ (c 0 1 1) (c 1 1 1) sx) sy) sz

/-- The alpha of a generator at (x, y) for phase `ph`, PARAM_A `lam` and PARAM_B `d`. -/
def generator (type : Nat) (a : Word) (x y ph lam d : Rat) (bands : List Rat) : Rat :=
  let pos := fun (q : Rat) => if q < 0 then 0 else q
  if type == 4 then 1
  else if type == 5 then
    if bit a 0 then pos (1 - rootQ (x * x + y * y)) else if x < 0 then 1 else pos (1 - x)
  else if type == 6 then
    let w := fracQ (x / lam - ph)
    let sh := fld a 0 2
    if sh == 0 then mkRat 1 2 - mkRat 1 2 * cosTurn w
    else if sh == 1 then 1 - (if 2 * w - 1 < 0 then 1 - 2 * w else 2 * w - 1)
    else if sh == 2 then (if w < d then 1 else 0)
    else w
  else if type == 7 then roundTo 16 (noiseAt a (x / lam) (y / lam) ph)
  else if type == 8 then
    if 0 ≤ x && x < 1 && 0 ≤ y && y < bands.getD (16 * x).floor.toNat 0 then 1 else 0
  else 0

/-! Cues and layers (R138, R140-R142, R144, R147). -/

/-- A cue word as a number (R144). -/
def cueRaw (cue : List Word) (w : Nat) : Rat :=
  let v := cue.getD w 0
  if w == 0 then unit16 (fld v 0 16)
  else if w == 1 || w == 2 || w == 5 then mkRat v.toInt 65536
  else if w == 4 || w == 6 then mkRat (fld v 0 16) 65536
  else if 7 ≤ w && w ≤ 12 then ofWorking (fld v 0 20)
  else mkRat v.toNat 65536

/-- A cue word after its modulation routes (R147). -/
def cueVal (p : Plan) (z l : Nat) (shot : LayerShot) (w : Nat) : Rat :=
  let f := fun (i : Nat) (m : Rat) =>
    let a := p.lw z l (6 + 2 * i)
    if fld a 0 2 != 0 && fld a 4 4 == w then 1 + unit16 (fld a 16 16) * (m - 1) else 1
  cueRaw shot.cue w * f 0 shot.m0 * f 1 shot.m1

/-- A layer at canvas position (u, v): its alpha before opacity and its colour. -/
def layerAt (p : Plan) (z l : Nat) (shot : LayerShot) (t : Rat) (u v : Rat) : Samp :=
  let type := fld (p.lw z l 0) 0 4
  let q := cueVal p z l shot
  let sc := if q 3 == 0 then mkRat 1 65536 else q 3
  let du := u - q 1
  let dv := v - q 2
  let c := cosTurn (q 4)
  let s := sinTurn (q 4)
  let x := (du * c + dv * s) / sc
  let y := (dv * c - du * s) / sc
  let colour := (List.range 6).map (fun i => q (7 + i))
  if type == 0 then clear
  else if 1 ≤ type && type ≤ 3 then
    sampleAt (sourcePixel p z l shot colour) (bit (p.lw z l 0) 14) x y
  else
    let lam := if q 13 == 0 then 1 else q 13
    let d := if q 14 == 0 then mkRat 1 2 else q 14
    (generator type (p.lw z l 1) x y (fracQ (q 5 * t + q 6)) lam d shot.bands, colour)

/-- A blend mode on one channel (R141). -/
def blend (mode : Nat) (d c a : Rat) : Rat :=
  if mode == 0 || mode == 7 then d * (1 - a) + c * a
  else if mode == 1 then d + c * a
  else if mode == 2 then d * (1 - a + a * c)
  else if mode == 3 then d + a * (c - d * c)
  else if mode == 4 then d * (1 - a) + (if d < c then c else d) * a
  else if mode == 5 then d * (1 - a) + (if c < d then c else d) * a
  else d - c * a

/-- The composited colour of a slot (R140 to R142). -/
def composite (p : Plan) (z : Nat) (shots : List LayerShot) (t u v : Rat) : List Rat :=
  let none_ : LayerShot := { inp := .none, m0 := 1, m1 := 1, bands := [], cue := [] }
  let sample := fun l => layerAt p z l (shots.getD l none_) t u v
  (List.range (p.zLayers z)).foldl (fun d l =>
    let w := p.lw z l 0
    let shot := shots.getD l none_
    if bit w 27 || bit (shot.cue.getD 0 0) 16 then d
    else
      let sm := sample l
      let mode := fld w 8 2
      let k : Rat :=
        if mode == 0 then 1
        else
          let ms := sample (fld w 10 4)
          if mode == 1 then ms.1 else if mode == 2 then 1 - ms.1 else clampRat 0 1 (ms.2.getD 1 0)
      let a := sm.1 * cueVal p z l shot 0 * k
      (List.range 6).map (fun c =>
        if fld w 4 4 == 7 && c < 3 then d.getD c 0 else working (blend (fld w 4 4) (d.getD c 0) (sm.2.getD c 0) a)))
    [0, 0, 0, 0, 0, 0]

/-! The solver (R217-R224). -/

/-- Emitters of a profile. -/
def Plan.emitters (p : Plan) (pr : Nat) : Nat := fld (p.pw pr 0) 1 3 + 1

/-- Solve channel `i` of a profile. -/
def Plan.solveCh (p : Plan) (pr i : Nat) : Nat := fld (p.pw pr 0) (4 + 3 * i) 3

/-- Interpolation of a profile word between set points at bin `b` (R219): `f` gives the word of set point s. -/
def binInterp (f : Nat → Rat) (b : Nat) : Rat :=
  if 60 ≤ b then f 4 else lerpQ (f (b / 15)) (f (b / 15 + 1)) (mkRat (b % 15) 15)

/-- Response of emitter e in channel c at bin b, before rounding. -/
def Plan.respQ (p : Plan) (pr b c e : Nat) : Rat := binInterp (fun s => ofWorking (fld (p.pw pr (16 + 64 * s + 8 * e + c)) 0 20)) b

/-- A[c][e] of a bin (R221). -/
def Plan.binA (p : Plan) (pr b c e : Nat) : Rat := if e < p.emitters pr then r24 (p.respQ pr b c e) else 0

/-- MAXD[e] of a bin (R219). -/
def Plan.binMax (p : Plan) (pr b e : Nat) : Rat := roundTo 16 (binInterp (fun s => mkRat (fld (p.pw pr (16 + 64 * s + 8 * e + 6)) 0 17) 65536) b)

/-- Weight W_c of a profile. -/
def Plan.weight (p : Plan) (pr c : Nat) : Rat := mkRat (fld (p.pw pr 1) (4 * c) 4) 1

/-- The matrix that the solver inverts at a bin (R222), from A as the table holds it (R221): A_S for N up to 3, else the regularised normal matrix. -/
def Plan.solveMat (p : Plan) (pr b : Nat) : Mat :=
  let n := p.emitters pr
  if n ≤ 3 then Mat.of n n (fun i e => p.binA pr b (p.solveCh pr i) e)
  else
    let g := Mat.of n n (fun i j => (List.range 6).foldl (fun s c => s + p.binA pr b c i * p.weight pr c * p.binA pr b c j) 0)
    let tr := (List.range n).foldl (fun s i => s + g.at i i) 0
    Mat.of n n (fun i j => g.at i j + (if i == j then tr / (4096 * n) else 0))

/-- P[e][c] of a bin (R222), before rounding; none where the matrix has no inverse. -/
def Plan.solveP (p : Plan) (pr b : Nat) : Option Mat :=
  let n := p.emitters pr
  (Mat.inv n (p.solveMat pr b)).map (fun inv =>
    if n ≤ 3 then
      Mat.of n 6 (fun e c => match (List.range n).find? (fun i => p.solveCh pr i == c) with | some i => inv.at e i | none => 0)
    else Mat.mul n n 6 inv (Mat.of n 6 (fun e c => p.binA pr b c e * p.weight pr c)))

/-- P[e][c] as the table holds it. -/
def Plan.binP (p : Plan) (pr b : Nat) : Mat := ((p.solveP pr b).getD []).map (fun r => r.map r24)

/-- The bins of a predicted temperature (R220, R223): the lower bin and the fraction in 1/256. -/
def binOf (tPred : Rat) : Nat × Rat :=
  let x := r24 ((tPred + 20) / 2)
  let b := (clampI 0 62 x.floor).toNat
  (b, mkRat (clampRat 0 1 (x - (b : Int)) * 256).floor 256)

/-- An interpolated coefficient (R220, R223). -/
def interpCoef (f : Nat → Rat) (b : Nat) (fr : Rat) : Rat := r24 (r24 (f b * (1 - fr)) + r24 (f (b + 1) * fr))

/-- What a solve gives: nominal drives, physical drives, out of gamut, the achieved colour. -/
structure Solved where
  drive : List Rat
  oog : Bool
  got : List Rat

/-- A sum of products, each rounded to 24 fractional bits (R223). -/
def dot24 (n : Nat) (f g : Nat → Rat) : Rat := (List.range n).foldl (fun s i => s + r24 (f i * g i)) 0

/-- The solve of a slot (R223): target `t`, trims in 1/16,384, predicted temperature. -/
def solve (p : Plan) (pr : Nat) (trims : List Nat) (tPred : Rat) (t : List Rat) : Solved :=
  let n := p.emitters pr
  let bf := binOf tPred
  let p0 := p.binP pr bf.1
  let p1 := p.binP pr (bf.1 + 1)
  let pm := Mat.of n 6 (fun e c => interpCoef (fun b => if b == bf.1 then p0.at e c else p1.at e c) bf.1 bf.2)
  let am := Mat.of 6 n (fun c e => interpCoef (fun b => p.binA pr b c e) bf.1 bf.2)
  let trim := fun e => mkRat (trims.getD e 0) 16384
  let dmax := (List.range n).map (fun e => r24 (interpCoef (fun b => p.binMax pr b e) bf.1 bf.2 * trim e))
  let d0 := (List.range n).map (fun e => dot24 6 (pm.at e) (fun c => t.getD c 0))
  let pass := fun (st : List Rat × List Bool) =>
    let fx := (List.range n).map (fun e => st.2.getD e false || st.1.getD e 0 ≤ 0 || dmax.getD e 0 ≤ st.1.getD e 0)
    let d := (List.range n).map (fun e =>
      if st.2.getD e false then st.1.getD e 0 else if st.1.getD e 0 ≤ 0 then 0
      else if dmax.getD e 0 ≤ st.1.getD e 0 then dmax.getD e 0 else st.1.getD e 0)
    let r := (List.range 6).map (fun c => t.getD c 0 - dot24 n (am.at c) (fun e => d.getD e 0))
    ((List.range n).map (fun e => if fx.getD e false then d.getD e 0 else d.getD e 0 + dot24 6 (pm.at e) (fun c => r.getD c 0)), fx)
  let start : List Rat × List Bool := (d0, [])
  let d := if n ≤ 3 then d0 else (pass (pass (pass start))).1
  let q := (List.range n).map (fun e => clampRat 0 (dmax.getD e 0) (d.getD e 0))
  { drive := (List.range n).map (fun e => r24 (q.getD e 0 / trim e))
    oog := (List.range n).any (fun e => q.getD e 0 != d.getD e 0)
    got := (List.range 6).map (fun c => dot24 n (am.at c) (fun e => q.getD e 0)) }

/-! Quantising (R227) and residuals (R225). -/

/-- Bits of a PIP_W code. -/
def pipBits (c : Nat) : Nat := if c == 0 then 8 else if c == 1 then 12 else 16

/-- A pip of a drive. -/
def quantise (w : Nat) (noDither : Bool) (k e pip : Nat) (drive : Rat) : Nat :=
  let v := r24 (drive * ((2 ^ w - 1 : Nat) : Rat))
  let theta := if noDither then 32768 else (k % 65536 * 0x9E37 + (e * 0x6A09 + pip * 0x3C6F) % 65536) % 65536
  Nat.min (2 ^ w - 1) (v + mkRat theta 65536).floor.toNat

/-- u', v' of a colour. -/
def uvOf (c : List Rat) : Rat × Rat :=
  let den := c.getD 0 0 + 15 * c.getD 1 0 + 3 * c.getD 2 0
  if den == 0 then Config.blackUv else (4 * c.getD 0 0 / den, 9 * c.getD 1 0 / den)

/-- A whole number that saturates at 16 bits. -/
def sat16 (q : Int) : Nat := (clampI 0 65535 q).toNat

/-- A slot joins the statistics of its frame (R225): target, achieved colour, out of gamut, REPORT_CH. -/
def residAdd (r : Resid) (ch : Nat) (t : List Rat) (got : List Rat) (oog : Bool) : Resid :=
  let r := if oog then { r with oog := r.oog + 1 } else r
  let tk := t.getD ch 0
  if tk < mkRat 1 1024 then r
  else
    let r :=
      if ch == 1 then
        let a := uvOf got
        let b := uvOf t
        let x := sat16 (roundQ (10000 * rootQ ((a.1 - b.1) * (a.1 - b.1) + (a.2 - b.2) * (a.2 - b.2))))
        { r with duvMax := Nat.max r.duvMax x, duvSum := r.duvSum + x, uvSlots := r.uvSlots + 1 }
      else r
    let diff := got.getD ch 0 - tk
    let x := sat16 (roundQ (10000 * (if diff < 0 then -diff else diff) / tk))
    { r with errMax := Nat.max r.errMax x, errSum := r.errSum + x, errSlots := r.errSlots + 1 }

/-! A tile. -/

/-- What a lane needs beside the plan and the frame: a group's words in the bank of the frame, a fixture's predicted temperature. -/
structure LaneIn where
  group : Nat → Nat → Word
  tPred : Nat → Rat

/-- The target of a slot (R213). -/
def target (p : Plan) (li : LaneIn) (e : Nat) (d : List Rat) : List Rat :=
  let z := p.eZone e
  let master := unit16 (fld (p.zw z 3) 0 16)
  let w := p.mw e 3
  if bit w 29 then
    let g := fld w 17 12
    let level := unit16 (fld (li.group g 0) 0 16)
    if fld (li.group g 0) 16 2 == 1 then
      (List.range 6).map (fun c => working (ofWorking (fld (li.group g (1 + c)) 0 20) * master * level))
    else d.map (fun x => working (x * master * level))
  else d.map (fun x => working (x * master))

/-- What a lane gathers over a tile's slots beside their pips: residuals, weighted drives, and the bin of each fixture that it has solved for (R229). -/
structure TileSums where
  stats : Resid
  pow : Sparse Rat
  bins : List (Nat × Nat)

/-- A tile before its first slot. -/
def TileSums.init : TileSums := { stats := Resid.init, pow := [], bins := [] }

/-- One slot of a tile: its pips, its part of the residuals, its weighted drive and its bin. -/
def renderSlot (p : Plan) (li : LaneIn) (f : Frame) (e : Nat) (st : TileSums) : SlotPips × TileSums :=
  let z := p.eZone e
  let fl := p.eFleet e
  let fx := Sparse.get (fun _ => ⟨0, []⟩) p.fix fl
  let pr := fx.profile
  let t := mkRat (gridNs (p.zRate z) f.k) 1000000000
  let u := mkRat (p.mw e 1).toNat 65536
  let v := mkRat (p.mw e 2).toNat 65536
  let tgt := target p li e (composite p z f.shots t u v)
  let dark := f.hot.contains fl || tgt.all (fun x => x == 0)
  let so : Solved := if dark then { drive := [], oog := false, got := [0, 0, 0, 0, 0, 0] } else solve p pr fx.trims (li.tPred fl) tgt
  let w0 := p.mw e 0
  let w := pipBits (fld w0 16 2)
  let em := fun k => fld (p.mw e 5) (3 * k) 3
  let pips := (List.range (fld w0 18 3 + 1)).map (fun k => quantise w (bit w0 21) f.k e k (so.drive.getD (em k) 0))
  let full : Rat := mkRat (2 ^ w - 1 : Nat) 1
  let pow := (List.range (fld w0 18 3 + 1)).foldl (fun (s : Rat) k =>
    s + mkRat (fld (p.pw pr (3 + em k / 4)) (8 * (em k % 4)) 8) 256 * (pips.getD k 0 : Nat) / full) 0
  ({ entry := e, dest := fld (p.mw e 4) 0 16, slot := fld (p.mw e 4) 16 16, pipW := fld w0 16 2, pips := pips },
    { stats := residAdd st.stats (fld (p.pw pr 0) 13 3) tgt so.got so.oog
      pow := Sparse.upd (fun _ => 0) st.pow fl (fun x => x + pow)
      bins := if dark || st.bins.any (fun x => x.1 == fl) then st.bins else st.bins ++ [(fl, (binOf (li.tPred fl)).1)] })

/-- A tile of a frame: its pips, and what it adds to the frame. -/
def renderTile (p : Plan) (li : LaneIn) (f : Frame) (tile : Nat) : TilePips × TileSums :=
  let r := (p.tileEntries tile).foldl (fun (a : List SlotPips × TileSums) e =>
    let x := renderSlot p li f e a.2
    (a.1 ++ [x.1], x.2)) ([], TileSums.init)
  ({ tile := tile, slots := r.1 }, r.2)

end Sys2Proof.Machine
end

