-- ==== Sys2Proof/Machine/Inner.lean ====
section
/-!
DEFINITION. What a block discards inside itself when it starts, stops or is soft reset (R57, R81): its registers' reset values and
its inner state, block by block. Registers whose Reset is MRAM or fuses keep their value (R10, R65).
-/
namespace Sys2Proof.Machine

/-- The address lies in the page, at 0x040 or above, and its register loses its value at a load of reset values (R10). -/
def losesAt (pg addr : Nat) : Bool :=
  addr / 0x1000 == pg && 0x40 ≤ addr % 0x1000 &&
    (match regRow addr with | some r => r.keep == .reset | none => true)

/-- The register is configuration that is kept in MRAM (R8, R10, R35). -/
def durableReg (addr : Nat) : Bool :=
  match regRow addr with
  | some r => r.keep == .durable && (r.acc == .rw || r.acc == .rws)
  | none => false

namespace State

/-- Load reset values: the block registers of a page take their Reset column (R81). -/
def loadRegs (pg : Nat) (s : State) : State :=
  { s with regs := s.regs.filter (fun e => !losesAt pg e.1), shadow := s.shadow.filter (fun e => e.1 / 0x1000 != pg) }

/-- RTC: both alarms disarm, and a pending set or shift is dropped (R411). -/
def clearRtc (s : State) : State :=
  let s := { s with rtc := { s.rtc with setPend := false, lateSet := none, shifts := [], stray := [] } }.wrFld Reg.RTC.STATUS 1 1 0
  (List.range 2).foldl (fun a k =>
    if bit (a.rd (Reg.RTC.ALM_STATUS k)) 0 then a.wr (Reg.RTC.ALM_STATUS k) (W 12) else a) s

/-- A time base. -/
def tb (s : State) (n : Nat) : TB := Sparse.get (fun _ => TB.init) s.tbs n

/-- A time base takes a value. -/
def setTb (n : Nat) (t : TB) (s : State) : State := { s with tbs := Sparse.set (fun _ => TB.init) s.tbs n t }

/-- SRC.SOURCE of a time base (R118). -/
def tbSource (s : State) (n : Nat) : Nat := fld (s.rd (Reg.TB.SRC n)) 0 4

/-- The leader of a follower (R118). -/
def tbLeader (s : State) (n : Nat) : Option Nat :=
  if s.tbSource n == 9 && n != 0 then some 0
  else if s.tbSource n == 10 && n == 3 then some 2
  else none

/-- A time base with the followers that its steps and INCR writes also apply to (R119). -/
def tbGroup (s : State) (n : Nat) : List Nat :=
  n :: (List.range 4).filter (fun m => s.tbLeader m == some n || (match s.tbLeader m with | some l => s.tbLeader l == some n | none => false))

/-- The LOCK.STATE that a time base starts with (R120): FREE where SOURCE is FREE or HOST, else ACQUIRING. -/
def tbLockInit (s : State) (n : Nat) : Nat := if s.tbSource n < 2 then 0 else 1

/-- An enabled zone of the plan, or of the old plan during a swap, runs on a time base (R206). -/
def tbZones (s : State) (m : Nat) : Bool :=
  (s.plan :: s.planOld.toList).any (fun p => (List.range 256).any (fun z => p.zEn z && p.zTb z == m))

/-- FE event bit 5: a time base with zones on it has left LOCKED (R206). -/
def lockLeft (m : Nat) (s : State) : State := if s.up 16 && s.tbZones m then s.raise 16 5 else s

/-- LOCK.STATE of one time base takes a value; a change raises LOCK (R113, R119), and leaving LOCKED with zones on it FE event bit 5 (R206). -/
def setLock (m st : Nat) (s : State) : State :=
  let old := fld (s.rd (Reg.TB.LOCK m)) 0 2
  if old == st then s
  else
    let s := (s.wrFld (Reg.TB.LOCK m) 0 2 st).raise (12 + m) 3
    if old == 2 then s.lockLeft m else s

/-- LOCK.STATE of a time base, and of its followers, takes a value (R119). -/
def moveLock (n st : Nat) (s : State) : State := (s.tbGroup n).foldl (fun a m => a.setLock m st) s

/-- The RTC's whole seconds since 2000-01-01. -/
def rtcSec (s : State) : Nat := s.rtc.time / 32768

/-- The RTC time as TB2 shows it, in ns since 1970-01-01 (R108, R120). -/
def rtcNs (s : State) : Nat := (s.rtcSec + 946684800) * 1000000000 + s.rtc.time % 32768 * 1000000000 / 32768

/-- A time base at the value that R120 starts it with: TB2 from the RTC, the others from TB2 and the offset from it that they held when last locked. -/
def tbSeed (s : State) (n : Nat) : TB :=
  let t := s.tb n
  if n == 2 then { t with count := W s.rtcNs, ext := s.rtcNs, frac := 0, phase := s.rtcNs % 1000000000 }
  else
    let b := s.tb 2
    { t with count := b.count + BitVec.ofInt 32 t.held, ext := ((b.ext : Int) + t.held).toNat, frac := 0, phase := (b.phase + t.heldPhase) % 1000000000 }

/-- A time base at a reset (R109, R114, R120, R129): nominal INCR, no pending work, STEP_SUM and every latch 0, TIME and SEC_PHASE as R120 starts them. -/
def clearTb (n : Nat) (s : State) : State :=
  let t := s.tbSeed n
  let new := { TB.init with count := t.count, ext := t.ext, phase := t.phase, held := t.held, heldPhase := t.heldPhase }
  (s.setTb n new).wrFld (Reg.TB.LOCK n) 0 2 (s.tbLockInit n)

/-- What a reset of one time base's page alone, from LOCK.STATE `old`, means for the others (R119, R206): a follower is stepped to its leader again, and so are its own
followers, which copy its LOCK. -/
def tbReloaded (n old : Nat) (s : State) : State :=
  let l := if (s.tbLeader n).isSome then s.tbGroup n else (s.tbGroup n).drop 1
  let s := l.foldl (fun a m => a.setTb m { a.tb m with snapTo := true }) s
  let s := if old == 2 then s.lockLeft n else s
  ((s.tbGroup n).drop 1).foldl (fun a m => a.setLock m (fld (a.rd (Reg.TB.LOCK n)) 0 2)) s

/-! The Gyzor line and its rings (R243, R282). -/

/-- LINE_STATUS.STATE of a port end takes a value; each move raises GZP event bit 0 (R243). -/
def lineMove (n st : Nat) (s : State) : State :=
  if fld (s.rd (Reg.GZP.LINE_STATUS n)) 0 3 == st then s else (s.wrFld (Reg.GZP.LINE_STATUS n) 0 3 st).raise (32 + n) 0

/-- RING_STATUS.STATE of a ring takes a value (R282): GZR event bit 0, and HEALS at each move to HEALED. -/
def ringMove (k st : Nat) (s : State) : State :=
  if fld (s.rd (Reg.GZR.RING_STATUS k)) 0 3 == st then s
  else
    let s := (s.wrFld (Reg.GZR.RING_STATUS k) 0 3 st).raise (64 + k) 0
    -- what was measured in another state is no round trip or traversal of this one (R267)
    let s := { s with gzPorts := Sparse.upd (fun _ => GzPort.init) s.gzPorts (2 * k) (fun g => { g with pair := none, cross := [] }) }
    if st == 3 then s.bumpWrap (Reg.GZR.HEALS k) else s.wrFld (Reg.GZR.RING_STATUS k) 3 1 0

/-- A ring follows the lines of its ends (R282). -/
def ringFollow (k : Nat) (s : State) : State :=
  let up := fun (n : Nat) => fld (s.rd (Reg.GZP.LINE_STATUS n)) 0 3 == 4 || fld (s.rd (Reg.GZP.LINE_STATUS n)) 0 3 == 5
  let a := up (2 * k)
  let b := up (2 * k + 1)
  let st := fld (s.rd (Reg.GZR.RING_STATUS k)) 0 3
  if !bit (s.rd (Reg.GZR.RING_CTL k)) 0 then s.ringMove k 0
  else if st == 0 then (if a && b then s.ringMove k 1 else s)
  else if !a && !b then s.ringMove k 5
  else if st == 5 then s.ringMove k 1
  else if (st == 2 || st == 3) && !(a && b) then s.ringMove k 4
  else if st == 4 && a && b then s.ringMove k 2
  else s

/-- The line of a port end goes OFF (R243): what runs on it is abandoned. What waits in the port's queues stays there (R81). -/
def lineOff (n : Nat) (s : State) : State :=
  let g := Sparse.get (fun _ => GzPort.init) s.gzPorts n
  let new := { GzPort.init with prev := g.prev, changed := g.changed, seq := g.seq, epochSent := g.epochSent }
  let s := { s with gzPorts := Sparse.set (fun _ => GzPort.init) s.gzPorts n new }
  let s := if fld (s.rd (Reg.GZP.CMD_STATUS n)) 4 3 == 1 then s.wrFld (Reg.GZP.CMD_STATUS n) 4 3 2 else s
  ((s.wrFld (Reg.GZP.NODES n) 16 3 0).lineMove n 0).ringFollow (n / 2)

/-- LINE_STATUS.STATE of a domino or DMX port takes a value; each move raises event bit 0 (R307, R308). -/
def localMove (pg st : Nat) (s : State) : State :=
  let a := if pg < 96 then Reg.DOM.LINE_STATUS (pg - 80) else Reg.DMX.LINE_STATUS (pg - 96)
  if fld (s.rd a) 0 2 == st then s else (s.wrFld a 0 2 st).raise pg 0

/-- A local port stops; a domino chain keeps its latched values (R294). What waits in the port's queues stays there (R81). -/
def localOff (pg : Nat) (s : State) : State :=
  let s := { s with doms := if pg < 96 then Sparse.upd (fun _ => DomPort.init) s.doms (pg - 80) (fun d => { DomPort.init with latched := d.latched }) else s.doms
                    dmxs := if pg < 96 then s.dmxs else Sparse.upd (fun _ => DmxPort.init) s.dmxs (pg - 96) (fun d => { d with rdm := none }) }
  s.localMove pg 0

/-- Entries of a sparse table that belong to other owners than `k`, `m` keys each. -/
def keepOthers {α : Type} (m k : Nat) (t : Sparse α) : Sparse α := t.filter (fun e => e.1 / m != k)

/-- The page whose memory a site of ECC lies in. -/
def sitePage : EccSite → Nat
  | .mapEntry _ => 18 | .solver _ => 19 | .clipCache _ => 22 | .table pg => pg | .frameStore _ => 21
  | .ingest n => if n.val == 8 then 25 else 21

/-- Registers that take effect at a SOFT_RESET of their block or a module reset only (R174, R210): the written values come into force. -/
def latchRegs (pg : Nat) (s : State) : State :=
  let l := if pg == 22 then [Reg.CLIP.CACHE_CFG] else if pg == 27 then Reg.DSP.REORDER_WIN :: (List.range 8).map Reg.DSP.LEVEL_CAP else []
  l.foldl (fun a r => { a with inForce := Sparse.set regDefault a.inForce r (a.rd r) }) s

/-- The tiles in port queues whose frames FE has struck: the packets of the others are incomplete, and are flushed (R25, R81). -/
def struckOnly (strikes : Sparse (List StrikeOut)) (t : Sparse (List TileOut)) : Sparse (List TileOut) :=
  t.filterMap (fun e =>
    let l := e.2.filter (fun x => strikes.any (fun q => q.2.any (fun i => i.zone == x.zone && i.k == x.k)))
    if l.isEmpty then none else some (e.1, l))

/-- The calibration sets of MTR that are held take effect, at its swap and at its start (R458). -/
def mtrSets (s : State) : State := { s with calMtr := s.cal.filter (fun e => e.1 / 0x1000 == 1) }

/-- The block discards the work inside it. -/
def clearInner (pg : Nat) (s : State) : State :=
  if pg == 2 then { s with swgen := [] }
  else if pg == 3 then { s with dbLast := [] }
  else if pg == 4 then { s with prtLast := [] }
  else if pg == 5 then { s with burnArmed := false }
  else if pg == 6 then { s with keyJobs := [], keyRegs := [] }
  else if pg == 7 then { s with safeStage := [], sealing := none }
  else if pg == 8 then { s with upd := { s.upd with load := none, loadWin := [], committing := false } }
  else if pg == 11 then s.clearRtc
  else if 12 ≤ pg && pg < 16 then s.clearTb (pg - 12)
  else if pg == 16 then { s with frames := [], lanes := [], zruns := [], tileQ := struckOnly s.portQ s.tileQ }
  else if pg == 17 then { s with lanes := [], laneLast := none }
  else if pg == 18 then { s with reloads := s.reloads.filter (fun x => sitePage x != 18) }
  else if pg == 19 then { s with gmI := s.gmA, gmOld := none, gmArm := none, gmStage := [], resid := [], reloads := s.reloads.filter (fun x => sitePage x != 19) }
  else if pg == 20 then { s with thm := [] }
  else if pg == 21 then { s with vins := [] }
  else if pg == 22 then { s with players := [], clipCache := [], reloads := s.reloads.filter (fun x => sitePage x != 22) }
  else if pg == 23 then { s with cueI := s.cueA, cueArm := [] }
  else if pg == 24 then { s with uniSt := [], uniCount := 0 }
  else if pg == 25 then { s with audFilt := [], audBuf := [], audNext := none, audBlocks := [], audSeq := none }
  else if pg == 27 then { s with frames := s.frames.map (fun f => { f with queued := [], todo := [], buf := [] }) }
  else if 32 ≤ pg && pg < 64 then { s with gzNodes := keepOthers 4096 (pg - 32) s.gzNodes, gzPorts := Sparse.drop s.gzPorts (pg - 32) }
  else if 96 ≤ pg && pg < 100 then { s with dmxs := Sparse.drop s.dmxs (pg - 96) }
  else if pg == 30 then { s with mtrLatch := [] }.mtrSets
  else if pg == 100 then { s with actArm := [] }
  else if pg == 26 then { s with odq := [], poolq := [], tileQ := [], poolLow := false }
  else if 104 ≤ pg && pg < 108 then { s with eths := Sparse.drop s.eths (pg - 104) }
  else if pg == 108 then { s with edups := [] }
  else if pg == 28 then { s with fpWait := [], stageReg := [], reports := [], energyLog := [], lossFrom := none, lossLast := 0, feedMarks := [], lossPrev := [] }
  else if pg == 29 then { s with groups := [], ruleEnds := [], loops := [], gmDirty := false, schDay := none }
  else if pg == 112 then
    { s with children := [], member := Member.init
             radio := { Radio.init with unlocked := s.radio.unlocked, busyRun := s.radio.busyRun, air := s.radio.air } }
  else if pg == 113 then { s with radio := { s.radio with unlocked := false, busyRun := 0, waits := [], air := [] } }
  else s

/-- The block begins its start-up: what its ports and lines do first. -/
def startInner (pg : Nat) (s : State) : State :=
  if 32 ≤ pg && pg < 64 then s.lineMove (pg - 32) 1 else if 80 ≤ pg && pg < 100 then s.localMove pg 1 else s

/-- The block leaves service for DISABLING, OFF or FAULT, or is reset: its lines stop. -/
def leaveInner (pg : Nat) (s : State) : State :=
  if 32 ≤ pg && pg < 64 then s.lineOff (pg - 32)
  else if 80 ≤ pg && pg < 100 then s.localOff pg
  else s

/-- What a block needs beside its own time to complete its start-up: a Gyzor port its enumeration (R243, R272), on a ring that of end A; a
domino port its count (R289). -/
def startupReady (s : State) (pg : Nat) : Bool :=
  if 32 ≤ pg && pg < 64 then
    let n := pg - 32
    let o := if bit (s.rd (Reg.GZR.RING_CTL (n / 2))) 0 then n / 2 * 2 else n
    fld (s.rd (Reg.GZP.NODES o)) 16 3 == 5
  else if 80 ≤ pg && pg < 96 then fld (s.rd (Reg.DOM.LINE_STATUS (pg - 80))) 0 2 == 2
  else true

/-- Load reset values and discard the work inside the block. -/
def loadReset (pg : Nat) (s : State) : State :=
  let t := (s.loadRegs pg).clearInner pg
  if 12 ≤ pg && pg < 16 then t.tbReloaded (pg - 12) (fld (s.rd (Reg.TB.LOCK (pg - 12))) 0 2) else t

end State

end Sys2Proof.Machine
end

