-- ==== Sys2Proof/Machine/Power.lean ====
section
/-!
DEFINITION. Domains, PLLs, the HOLD state of blocks, block starts and stops, and the start of a wake (R41-R55, R73, R81).
-/
namespace Sys2Proof.Machine

/-- The PLLs that feed a block, as bits of CLK_STATE: SYS 2, ENG 3, GYZOR 4, SERDES 5, DRAM 6 (R45). -/
def feeds (pg : Nat) : List Nat :=
  if pg == 26 || pg == 28 || pg == 29 then [2, 6]
  else if pageDomain pg == 1 || pageDomain pg == 4 then [2]
  else if pageDomain pg == 2 then [3, 6]
  else if 32 ≤ pg && pg < 80 then [4]
  else if pg == 104 || pg == 105 || pg == 108 then [5]
  else []

/-- The blocks whose tables, queues and records lie in DRAM (R45). -/
def usesDram (pg : Nat) : Bool := (feeds pg).contains 6

/-- Bit of CLK_STATE of a PLL. -/
def pllBit : Pll → Nat
  | .sys => 2 | .eng => 3 | .gyzor => 4 | .serdes => 5 | .dram => 6

namespace State

/-- Every PLL that feeds the block is locked (R45). -/
def pllsOk (s : State) (pg : Nat) : Bool := (feeds pg).all (fun b => bit (s.rd Reg.PWR.CLK_STATE) b)

/-- READY goes to HOLD while CTL.HOLD is 1 or a feeding PLL is unlocked, and HOLD to READY when neither holds (R81); DSP never reports HOLD (R191). -/
def settle (pg : Nat) (s : State) : State :=
  let b := s.blk pg
  if pg == 27 then s
  else if b.code == 2 && (b.hold || !s.pllsOk pg) then s.setCode pg 6
  else if b.code == 6 && !b.hold && s.pllsOk pg then s.setCode pg 2
  else s

/-- A domain takes a code; EV008 reports the change, EV006 the READY_MAP bits that follow it (R64, R73). -/
def setDom (d c : Nat) (s : State) : State :=
  if s.dom d == c then s
  else
    let s' := s.wrFld Reg.PWR.DOMAIN_STATE (4 * d) 4 c
    let s' := if (domainPages d).any (fun p => s.isReady p != s'.isReady p) then s'.raise 0 6 else s'
    s'.raise 1 0

/-- A block goes OFF: its stale look, pending enable and pending swap end (R83). -/
def offBlock (pg : Nat) (s : State) : State :=
  (s.leaveInner pg).setCode pg 0 |>.updBlk pg (fun b => { b with pendEnable := false, stale := false, swapPend := false })

/-- The page whose path a calibration run holds in CAL: the GZP port of a GZ_EQ run, MTR, none for RTC (R461). -/
def calPage (j : CalJob) : Option Nat := if j.kind == 0 then some (32 + j.inst) else if j.kind == 1 then some 30 else none

/-- A calibration run ends for its path: CAL is left for READY, or HOLD, STALE returns to 0, and MTR counts again (R81, R462, R473). -/
def calLeave (j : CalJob) (s : State) : State :=
  let s := if j.kind == 1 then s.wrFld Reg.MTR.STATUS 4 2 0 else s
  match calPage j with
  | some pg =>
    if s.code pg == 5 then ((s.updBlk pg (fun b => { b with stale := false })).setCode pg 2).settle pg else s
  | none => s

/-- A calibration run is aborted: RESULT ABORTED, the old set stays (R462). -/
def abortCal (s : State) : State :=
  match s.calRun with
  | some j =>
    (({ s with calRun := none }.wrFld Reg.CAL.STATUS 0 2 2).wrFld Reg.CAL.STATUS 8 8 7 |>.calLeave j).raise 10 1
  | none => s

/-- The path of a calibration run is reset, stopped or lost (R462). -/
def calGone (pg : Nat) (s : State) : State :=
  match s.calRun with
  | some j => if calPage j == some pg || pg == 10 then s.abortCal else s
  | none => s

/-- A block enters STARTING and begins its start-up. -/
def enterStarting (pg : Nat) (s : State) : State :=
  ((s.setCode pg 1).updBlk pg (fun b => { b with pendEnable := false, stale := false, swapPend := false })).startInner pg

/-- A block starts from OFF or DISABLING: load reset values, STARTING (R81). -/
def startBlock (pg : Nat) (s : State) : State := (s.loadReset pg).enterStarting pg

/-- A block begins its shutdown (R81). -/
def stopBlock (pg : Nat) (s : State) : State := ((s.calGone pg).leaveInner pg).setCode pg 3

/-- A block enters FAULT and raises its event (R33, R81; DESIGN CHOICE, log entry 11: bit 31, which drives the last of the page's sources). -/
def faultBlock (pg : Nat) (s : State) : State := (((s.calGone pg).leaveInner pg).setCode pg 7).raise pg 31

/-- A fault of the block is detected: the first opens a recovery window, a second inside it takes the block to FAULT (R31, R33). -/
def blockFault (pg : Nat) (s : State) : State :=
  if s.code pg == 0 then s
  else if s.windows.contains pg then s.faultBlock pg
  else { s with windows := s.windows ++ [pg] }

/-- A path of a block is lost (R31): a recovery window opens, unless one is open. Paths are independent, so that the loss of another is no second fault of the block; another fault of the
block is (R32, R33; DEDUCED, log entry 83). -/
def pathLost (pg : Nat) (s : State) : State := if s.code pg == 0 || s.windows.contains pg then s else { s with windows := s.windows ++ [pg] }

/-- CTL.HOLD of a page. -/
def setHold (pg : Nat) (h : Bool) (s : State) : State := (s.updBlk pg (fun b => { b with hold := h })).settle pg

/-- A wake source occurs in DOZE, or while DOZE is being entered (R51, R54): its WAKE_CAUSE bit is set; in DOZE the HF oscillator and
the SYS and DRAM PLLs restart and CTL leaves retention, which MODE_TRANSITION_DONE completes. -/
def wakeDoze (src : Option Nat) (s : State) : State :=
  let s := match src with
    | some b => s.wrBit Reg.SYS.WAKE_CAUSE b true
    | none => s
  if s.mode == .doze && s.trans.isNone then
    let s := { s with trans := some s.dozeFrom }.wrBit Reg.PWR.CLK_STATE 0 true
    if s.dom 1 == 3 then s.setDom 1 1 else s
  else { s with wakeSeen := true }

/-- The auxiliary rails follow their enables, their overload latches and the mode (R470, R485). -/
def auxUpdate (s : State) : State :=
  let c := s.rd Reg.PSU.CFG
  let st := s.rd Reg.PSU.STATUS
  let on := s.mode != .cold && (s.mode != .doze || bit c 11)
  s.wr Reg.PSU.STATUS (setBit (setBit st 3 (on && bit c 8 && !bit st 5)) 4 (on && bit c 9 && !bit st 6))

end State

end Sys2Proof.Machine
end

