-- ==== Sys2Proof/Machine/Access.lean ====
section
/-!
DEFINITION. The gate that every register write passes, and what becomes of a write that it stops (R41, R47, R57, R59, R74, R76, R88,
R452).
-/
namespace Sys2Proof.Machine

namespace State

/-- HOST requests are answered: CTL runs and HIF has left STARTING (R59, R76). -/
def hostUp (s : State) : Bool := s.dom 1 == 2 && s.code 3 != 0 && s.code 3 != 1

end State

/-- The order in which accesses of different requesters to one page take effect when they arrive in the same cycle (R77). -/
def arrivalRank : Requester → Nat
  | .host => 0 | .prt => 1 | .rp => 2 | .fp => 3 | .pp => 4 | .sc => 5

/-- Accesses of one cycle in the order in which they take effect (R77). -/
def arrivalOrder {α : Type} (l : List (Requester × α)) : List (Requester × α) :=
  (List.range 6).flatMap (fun k => l.filter (fun e => arrivalRank e.1 == k))

/-- What becomes of a register write before its own effect. -/
inductive Gate where
  /-- the requester cannot reach the module at all -/
  | absent
  /-- a HOST request in DOZE waits (R76) -/
  | waits
  | unpopulated
  | unreachable
  | denied
  /-- dropped and counted in ERR_CNT: HOLD mode (R47) or STARTING (R57) -/
  | dropped
  /-- dropped and counted: the block is under test (R452) -/
  | testing
  | pass
  deriving DecidableEq, Repr

namespace State

/-- The gate of a write to offset `off` of page `pg`. -/
def gate (s : State) (r : Requester) (pg off : Nat) : Gate :=
  if r == .host && s.mode == .doze then .waits
  else if r == .host && !s.hostUp then .absent
  else if !populated pg then .unpopulated
  else if !s.reach pg then .unreachable
  else if !s.allowed r pg true then .denied
  else if s.mode == .hold && (r == .host || r == .prt) && !holdWritable pg then .dropped
  else if 0x40 ≤ off && s.code pg == 1 then .dropped
  else if 0x40 ≤ off && s.code pg == 4 then .testing
  else .pass

/-- A host request takes the link out of L1.2, which raises no event (R101; DESIGN CHOICE, log entry 123), and, with WAKE_EN bit 6 at 1, wakes the module (R54, R76). -/
def hostWake (s : State) : State :=
  let s := s.wrFld Reg.HIF.LINK_STATUS 12 2 0
  if bit (s.rd Reg.SYS.WAKE_EN) 6 then s.wakeDoze (some 6) else s

/-- A write that changed a register kept in MRAM, or CTL.ENABLE, is made durable (R35; DESIGN CHOICE, log entry 26); `old` is the state before it. -/
def journalWrite (s old : State) (addr : Nat) : State :=
  if (durableReg addr && s.rd addr != old.rd addr) || (addr % 0x1000 == 8 && (s.blk (addr / 0x1000)).enable != (old.blk (addr / 0x1000)).enable)
  then s.journal old else s

/-- A register write that has come to gate `g`: `eff` is its effect when nothing stops it (R41, R47, R57, R74, R76, R88). -/
def accessBy (g : Gate) (r : Requester) (addr : Nat) (v : Word) (eff : State → State) (s : State) : State :=
  match g with
  | .absent => s
  | .waits => { s with hostWait := s.hostWait ++ [HostAccess.write addr v] }.hostWake
  | .unpopulated => s
  | .unreachable => s.unreachable r
  | .denied => s.denied r (addr / 0x1000)
  | .dropped => s.err (addr / 0x1000)
  | .testing => (s.bump Reg.BIST.WRITE_DROP).err (addr / 0x1000)
  | .pass => (eff { s with cfgSaved := Sparse.drop s.cfgSaved addr }).journalWrite s addr

/-- A register write passes its gate. -/
def access (r : Requester) (addr : Nat) (v : Word) (eff : State → State) (s : State) : State :=
  s.accessBy (s.gate r (addr / 0x1000) (addr % 0x1000)) r addr v eff

/-- A write to a command register whose rule says what it does while the block is in STARTING or in BIST (R257; DEDUCED, log entry 34): the gate of the page's
header. -/
def accessLive (r : Requester) (addr : Nat) (v : Word) (eff : State → State) (s : State) : State :=
  s.accessBy (s.gate r (addr / 0x1000) 0) r addr v eff

/-- A register read (R41, R57, R76, R88, R452): `val` is what the register reads and `eff` what the read does, when nothing stops it.
ID, STATE and ACCESS can always be read; the block registers of a block in STARTING or under test read zero. -/
def readAccess (r : Requester) (addr : Nat) (val : Word) (eff : State → State) (s : State) : State :=
  let pg := addr / 0x1000
  let off := addr % 0x1000
  if r == .host && s.mode == .doze then { s with hostWait := s.hostWait ++ [HostAccess.read addr] }.hostWake
  else if r == .host && !s.hostUp then s
  else if !populated pg then s.emit (.read r addr 0)
  else if !s.reach pg then (s.unreachable r).emit (.read r addr 0)
  else if !s.allowed r pg false && !(off == 0 || off == 0xC || off == 0x24) then (s.denied r pg).emit (.read r addr 0)
  else if 0x40 ≤ off && (s.code pg == 1 || s.code pg == 4) then s.emit (.read r addr 0)
  else (eff s).emit (.read r addr val)

end State

end Sys2Proof.Machine
end

