-- ==== Sys2Proof/Machine/Blocks.lean ====
section
/-!
DEFINITION. The common page header: ENABLE, SOFT_RESET, BIST_REQ, SWAP_REQ and HOLD of CTL, start-up and shutdown (R78-R86, R450), the
event registers and the software sources (R94-R100, R107).
-/
namespace Sys2Proof.Machine

/-- The readable part of CTL (R79). -/
def ctlValue (b : Block) : Word := W (b2n b.enable + 16 * b2n b.hold + 0x10000 * b.ctlHi.toNat)

/-- Address of a page's CTL register. -/
def ctlAddr (pg : Nat) : Nat := 0x1000 * pg + 8

/-- Whether a page has a self-test (R451). -/
def hasBist (pg : Nat) : Bool :=
  (16 ≤ pg && pg ≤ 27) || (32 ≤ pg && pg ≤ 100) || (104 ≤ pg && pg ≤ 108) || pg == 112 || pg == 113

namespace State

/-- A block in a FAULT that neither ENABLE nor SOFT_RESET releases: KEY after a tamper, and every block of a domain in code 4 (R73, R428). -/
def faultLocked (s : State) (pg : Nat) : Bool := (pg == 6 && bit (s.rd Reg.KEY.STATUS) 1) || s.dom (pageDomain pg) == 4

/-- CTL.ENABLE written 1 (R57, R61, R81, R82). -/
def enableOn (pg : Nat) (s : State) : State :=
  let s := { s.updBlk pg (fun b => { b with enable := true }) with enSaved := s.enSaved.filter (fun p => p != pg) }
  if s.code pg == 0 then s.startBlock pg
  else if s.code pg == 3 then s.updBlk pg (fun b => { b with pendEnable := true })
  else s

/-- CTL.ENABLE written 0 (R81). RTC and TAMP ignore and count it (R411, R436). In CAL only the field changes: R81 has no row for it, so the block returns to READY with
ENABLE 0 when its run ends (DESIGN CHOICE, log entry 99). -/
def enableOff (pg : Nat) (s : State) : State :=
  if pg == 11 || pg == 7 then s.err pg
  else if s.faultLocked pg then s.updBlk pg (fun b => { b with enable := false })
  else
    let s := { s.updBlk pg (fun b => { b with enable := false }) with enSaved := s.enSaved.filter (fun p => p != pg) }
    let c := s.code pg
    if c == 1 || c == 2 || c == 6 || c == 7 then s.stopBlock pg
    else if c == 3 then s.updBlk pg (fun b => { b with pendEnable := false })
    else s

/-- Every header register but the durable ENABLE takes its reset value (R10, R81). -/
def resetHeader (pg : Nat) (s : State) : State :=
  s.updBlk pg (fun b => { Block.init with enable := b.enable, code := b.code })

/-- CTL.SOFT_RESET (R81). RTC and TAMP keep what R411 and R436 name; QM and MTR ignore and count it outside SERVICE,
and in SERVICE it clears MTR's energy counters (R348, R484). -/
def softResetBlock (pg : Nat) (s : State) : State :=
  if (pg == 26 || pg == 30) && s.mode != .service then s.err pg
  else if s.faultLocked pg then s
  else
    let s := ((s.calGone pg).leaveInner pg).resetHeader pg |>.loadReset pg |>.latchRegs pg
    let s := if pg == 30 then { s with regs := s.regs.filter (fun e => !(Reg.MTR.IMP_LO 0 ≤ e.1 && e.1 ≤ Reg.MTR.TOTAL_HI)) } else s
    if (s.blk pg).enable then s.enterStarting pg else s.offBlock pg

/-- A self-test request is refused: RESULT and BIST event bit 1; BIST_DENIED also counts in the target's page (R450). -/
def bistRefuse (pg res : Nat) (s : State) : State :=
  let s := (s.wrFld Reg.BIST.STATUS 16 8 res).raise 9 1
  if res == 4 && populated pg then s.err pg else s

/-- A self-test request, through CTL.BIST_REQ or, `viaCmd`, through BIST.CMD.RUN (R82, R450). -/
def bistRequest (pg : Nat) (viaCmd : Bool) (s : State) : State :=
  let c := s.code pg
  if !viaCmd && (c == 0 || c == 7) then s.err pg
  else if fld (s.rd Reg.BIST.STATUS) 0 2 == 1 then s.bistRefuse pg 5
  else if hasBist pg && ((s.mode == .service && (c == 2 || c == 6)) ||
      (viaCmd && c == 0 && s.reach pg && (s.mode == .show_ || s.mode == .fleet || s.mode == .grow || s.mode == .service || s.mode == .hold))) then
    ((s.wr Reg.BIST.STATUS (W (1 + 0x100 * pg))).leaveInner pg).setCode pg 4
  else s.bistRefuse pg 4

/-- CTL.SWAP_REQ (R20, R82, R85, R86). -/
def swapRequest (pg : Nat) (s : State) : State :=
  if s.code pg == 0 || s.code pg == 7 then s.err pg
  else if (s.blk pg).swapPend then s.err pg
  else if planCoupled pg then { s with planAsked := true }
  else s.updBlk pg (fun b => { b with swapPend := true })

/-- The values written to the inactive bank of a page's RWS registers take effect (R8, R85, R86). -/
def applyShadow (pg : Nat) (s : State) : State :=
  let s' := (s.shadow.filter (fun e => e.1 / 0x1000 == pg)).foldl (fun a e => a.wr e.1 e.2) s
  { s' with shadow := s'.shadow.filter (fun e => e.1 / 0x1000 != pg) }

/-- The block swaps banks (R85, R86). -/
def swapBanks (pg : Nat) (s : State) : State :=
  let s := if pg == 30 then s.mtrSets else s
  (s.applyShadow pg).updBlk pg (fun b => { b with bank := !b.bank, swapCount := b.swapCount + 1, swapPend := false })

/-- What the PCIe endpoint answers configuration requests with once HIF is READY (R59, R89, R101): Device ID 0x9160 and the Vendor ID, the spans of BAR0 (1 MiB), BAR2
(256 MiB, 64-bit prefetchable) and BAR4 (128 KiB, 64-bit), and the MSI-X capability (PRESUMED, log entry 127: the layout of PCI Express). -/
def pcieConfig : Emission :=
  .pcieReady (W (0x9160 * 0x10000) ||| Config.vendorId.setWidth 32) [0xFFF00004, 0xFFFFFFFF, 0xF000000C, 0xFFFFFFFF, 0xFFFE0004, 0xFFFFFFFF] 32 0x3800 0x3A00

/-- Start-up completes (R45, R57, R60, R81): READY, or HOLD while CTL.HOLD is 1 or a feeding PLL is unlocked. -/
def startupDone (pg : Nat) (s : State) : State :=
  if s.code pg == 1 && s.reach pg && s.pllsOk pg && (!usesDram pg || s.dramOk) && s.startupReady pg then
    let s := (s.setCode pg 2).settle pg
    let s := if pg == 3 then s.emit pcieConfig else s
    if pg == 2 || pg == 3 then s.flushDeferred else s
  else s

/-- EV002 of a start into HOLD (TAMPER) is raised once the last block of the start has reached READY (R487). -/
def lastReady (s : State) : State :=
  if s.ev2Wait && allPages.all (fun pg => s.code pg != 1) then { s with ev2Wait := false }.raise 0 2 else s

/-- Shutdown completes (R81). -/
def shutdownDone (pg : Nat) (s : State) : State :=
  if s.code pg == 3 then
    if (s.blk pg).pendEnable then s.startBlock pg else s.offBlock pg
  else s

/-- A write to CTL as a whole: its fields in the order ENABLE, HOLD, SOFT_RESET, BIST_REQ, SWAP_REQ (R79; DESIGN CHOICE, log entry 12). -/
def ctlWrite (pg : Nat) (v : Word) (s : State) : State :=
  let s := if bit v 0 then s.enableOn pg else s.enableOff pg
  let s := s.setHold pg (bit v 4)
  let s := if bit v 1 then s.softResetBlock pg else s
  let s := if bit v 2 then s.bistRequest pg false else s
  if bit v 3 then s.swapRequest pg else s

/-- A write to EVT_EN: a source may rise or fall (R78, R95). -/
def evtEnWrite (pg : Nat) (v : Word) (s : State) : State := s.withCauses pg (fun r => r) (fun _ => v)

/-- EVT_CLR: the bits written 1 clear; a cause in the same cycle stays and counts as a new rise (R77, R95). -/
def evtClear (pg : Nat) (mask causes : Word) (s : State) : State :=
  (s.withCauses pg (fun r => r &&& ~~~mask) (fun e => e)).withCauses pg (fun r => r ||| causes) (fun e => e)

/-- EVR.SWGEN (R99). -/
def swgenWrite (v : Word) (s : State) : State :=
  let src := fld v 0 8
  if bit v 8 == bit v 9 || src < 200 then s.err 2
  else if bit v 8 then
    if s.swgen.contains src then s else { s with swgen := s.swgen ++ [src] }.rise src
  else { s with swgen := s.swgen.filter (fun x => x != src) }

end State

/-- ENABLE_SET (R81). -/
def execEnableSet (r : Requester) (pg : Fin 256) (s : State) : Out :=
  .next (s.access r (ctlAddr pg) (ctlValue { s.blk pg with enable := true }) (State.enableOn pg))

/-- ENABLE_CLEAR (R81). -/
def execEnableClear (r : Requester) (pg : Fin 256) (s : State) : Out :=
  .next (s.access r (ctlAddr pg) (ctlValue { s.blk pg with enable := false }) (State.enableOff pg))

/-- SOFT_RESET (R81). -/
def execSoftReset (r : Requester) (pg : Fin 256) (s : State) : Out :=
  .next (s.access r (ctlAddr pg) (ctlValue (s.blk pg) ||| 2) (State.softResetBlock pg))

/-- BIST_REQ (R450). -/
def execBistReq (r : Requester) (pg : Fin 256) (s : State) : Out :=
  .next (s.access r (ctlAddr pg) (ctlValue (s.blk pg) ||| 4) (State.bistRequest pg false))

/-- SWAP_REQ (R20, R85). -/
def execSwapReq (r : Requester) (pg : Fin 256) (s : State) : Out :=
  .next (s.access r (ctlAddr pg) (ctlValue (s.blk pg) ||| 8) (State.swapRequest pg))

/-- BANK_SWAP (R85). -/
def execBankSwap (pg : Fin 256) (s : State) : Out :=
  .next (if (s.blk pg).swapPend && !planCoupled pg then s.swapBanks pg else s)

/-- CTL_HOLD_SET (R81). -/
def execCtlHoldSet (r : Requester) (pg : Fin 256) (s : State) : Out :=
  .next (s.access r (ctlAddr pg) (ctlValue { s.blk pg with hold := true }) (State.setHold pg true))

/-- CTL_HOLD_CLEAR (R81). -/
def execCtlHoldClear (r : Requester) (pg : Fin 256) (s : State) : Out :=
  .next (s.access r (ctlAddr pg) (ctlValue { s.blk pg with hold := false }) (State.setHold pg false))

/-- BLOCK_SHUTDOWN_DONE (R81). -/
def execBlockShutdownDone (pg : Fin 256) (s : State) : Out := .next (s.shutdownDone pg)

/-- EVT_CLR (R95). -/
def execEvtClr (r : Requester) (pg : Fin 256) (mask causes : Word) (s : State) : Out :=
  .next (s.access r (0x1000 * pg + 0x1C) mask (State.evtClear pg mask causes))

/-- SWGEN_SET (R99). -/
def execSwgenSet (r : Requester) (source : Fin 256) (s : State) : Out :=
  .next (s.access r Reg.EVR.SWGEN (W (source + 0x100)) (State.swgenWrite (W (source + 0x100))))

/-- SWGEN_CLR (R99). -/
def execSwgenClr (r : Requester) (source : Fin 256) (s : State) : Out :=
  .next (s.access r Reg.EVR.SWGEN (W (source + 0x200)) (State.swgenWrite (W (source + 0x200))))

/-- EVT_PULSE_END (R107). -/
def execEvtPulseEnd (pin : EvtPin) (s : State) : Out :=
  .next { s with pinPulse := s.pinPulse.filter (fun p => p != pin) }

end Sys2Proof.Machine
end

