-- ==== Sys2Proof/Machine/Audio.lean ====
section
/-!
DEFINITION. The audio bands of R170: their edges, a sixth-order Butterworth band-pass, the mean square of a block and its level in dBFS.
-/
namespace Sys2Proof.Machine

/-- Rounded to 2^-40, the step of the filter's arithmetic (DESIGN CHOICE, log entry 110). -/
def fix40 (q : Rat) : Rat := mkRat ((q * (2 ^ 40 : Nat)).floor) (2 ^ 40)

/-- Edge b of the bands, 20 x 2^(5b/8) Hz: band b lies between edges b and b + 1 (R170). -/
def bandEdge (b : Nat) : Rat :=
  let e := rootQ (rootQ (rootQ 2))
  20 * (2 ^ (5 * b / 8) : Nat) * (List.range (5 * b % 8)).foldl (fun a _ => a * e) 1

/-- The frequency of the analogue filter that the bilinear transform at 48 kHz brings to `f`, so that the -3 dB points stay at the edges. -/
def prewarp (f : Rat) : Rat := sinTurn (f / 96000) / cosTurn (f / 96000)

/-- The coefficients of a band's filter: a second-order and a fourth-order section, numerator and denominator in powers of 1/z (R170; DESIGN CHOICE, log entry 110:
the bilinear transform of the analogue Butterworth band-pass). -/
def bandCoef (b : Nat) : (List Rat × List Rat) × (List Rat × List Rat) :=
  let lo := prewarp (bandEdge b)
  let hi := prewarp (bandEdge (b + 1))
  let w := lo * hi
  let d := hi - lo
  let c := 2 * w + d * d
  let g := d * w
  let e := w * w
  (([d, 0, -d], [1 + d + w, 2 * (w - 1), 1 - d + w]),
    ([d * d, 0, -2 * d * d, 0, d * d],
      [1 + d + c + g + e, -4 - 2 * d + 2 * g + 4 * e, 6 - 2 * c + 6 * e, -4 + 2 * d - 2 * g + 4 * e, 1 - d + c - g + e]))

/-- One section on its input history `x`, newest first, with its output history `y`. -/
def section_ (c : List Rat × List Rat) (x y : List Rat) : Rat :=
  let ff := (List.range c.1.length).foldl (fun a i => a + c.1.getD i 0 * x.getD i 0) 0
  let fb := (List.range (c.2.length - 1)).foldl (fun a i => a + c.2.getD (i + 1) 0 * y.getD i 0) 0
  fix40 ((ff - fb) / c.2.getD 0 1)

/-- A band's filter takes a sample: its state is the history of its input, of its first and of its second section, newest first. -/
def bandStep (c : (List Rat × List Rat) × (List Rat × List Rat)) (st : List Rat × List Rat × List Rat) (x : Rat) : List Rat × List Rat × List Rat :=
  let xs := (x :: st.1).take 3
  let ys := (section_ c.1 xs st.2.1 :: st.2.1).take 5
  (xs, ys, (section_ c.2 ys st.2.2 :: st.2.2).take 5)

/-- The level of a mean square relative to full scale, in 0.1 dB, with the floor of -100.0 dBFS (R170): `Config.dbfsSine` says whether 0 dBFS is a full-scale sine. -/
def dbLevel (q : Rat) : Int :=
  let q := if Config.dbfsSine then 2 * q else q
  if q ≤ 0 then -1000
  else
    let v := (100 * lnApprox q / lnApprox 10 + mkRat 1 2).floor
    if v < -1000 then -1000 else v

/-- One band over the samples of a block, each relative to full scale (R170): the filter's new state, and the block's level. -/
def audBand (b : Nat) (st : List Rat × List Rat × List Rat) (block : List Rat) : (List Rat × List Rat × List Rat) × Int :=
  let c := bandCoef b
  let r := block.foldl (fun (a : (List Rat × List Rat × List Rat) × Rat) x =>
    let n := bandStep c a.1 x
    (n, a.2 + n.2.2.headD 0 * n.2.2.headD 0)) (st, 0)
  (r.1, dbLevel (r.2 / (block.length : Nat)))

end Sys2Proof.Machine
end

