-- ==== Sys2Proof/Machine/H265.lean ====
section
/-!
DEFINITION. What R155 asks of the access units of a clip, read from their NAL units: Annex B byte-stream format, the profile, tier and level, the picture size, no picture
reordering, and the parameter sets of each IRAP access unit. The syntax is that of ITU-T H.265 (PRESUMED, log entry 109).
-/
namespace Sys2Proof.Machine

/-- A NAL unit ends: its bytes so far, last first, without the zeros that follow it. -/
def nalEnd (cur : List Byte) : List (List Byte) :=
  match cur.dropWhile (fun b => b == 0) with
  | [] => []
  | l => [l.reverse]

/-- The NAL units after a start code, with the bytes of the one that runs, last first. -/
def nalUnits (cur : List Byte) : List Byte → List (List Byte)
  | [] => nalEnd cur
  | 0 :: 0 :: 1 :: t => nalEnd cur ++ nalUnits [] t
  | b :: t => nalUnits (b :: cur) t

/-- The NAL units of an access unit in Annex B format: none where it does not begin with a start code. -/
def annexB (l : List Byte) : Option (List (List Byte)) :=
  match l.dropWhile (fun b => b == 0) with
  | 1 :: t => if 2 ≤ (l.takeWhile (fun b => b == 0)).length then some (nalUnits [] t) else none
  | _ => none

/-- nal_unit_type. -/
def nalType (n : List Byte) : Nat := byteAt n 0 / 2 % 64

/-- A NAL unit's payload without its emulation prevention bytes. -/
def unescape : List Byte → List Byte
  | 0 :: 0 :: 3 :: t => 0 :: 0 :: unescape t
  | b :: t => b :: unescape t
  | [] => []

/-- Bits of a byte string, most significant first. -/
def bitList (l : List Byte) : List Bool := (l.map (fun b => (List.range 8).map (fun i => b.getLsbD (7 - i)))).flatten

/-- The number that bits spell. -/
def bitsNat (l : List Bool) : Nat := l.foldl (fun a b => 2 * a + b2n b) 0

/-- u(n): a number of `n` bits, and the bits after it. -/
def readU (n : Nat) (l : List Bool) : Nat × List Bool := (bitsNat (l.take n), l.drop n)

/-- ue(v): an Exp-Golomb number, and the bits after it. -/
def readUe (l : List Bool) : Nat × List Bool :=
  let z := (l.takeWhile (fun b => !b)).length
  (2 ^ z - 1 + bitsNat ((l.drop (z + 1)).take z), l.drop (2 * z + 1))

/-- `n` ue(v) numbers in a row. -/
def readUes : Nat → List Bool → List Nat × List Bool
  | 0, l => ([], l)
  | n + 1, l => let a := readUe l; let r := readUes n a.2; (a.1 :: r.1, r.2)

/-- What R155 asks of a sequence parameter set. -/
structure Sps where
  tier : Nat
  profile : Nat
  compat : Nat
  flags : Nat
  level : Nat
  width : Nat
  height : Nat
  reorder : List Nat
  deriving DecidableEq, Repr

/-- A sequence parameter set. -/
def readSps (nal : List Byte) : Sps :=
  let b := bitList (unescape (nal.drop 2))
  let subs := (readU 3 (b.drop 4)).1
  let p := b.drop 8
  let per := (List.range subs).map (fun i => (p.getD (96 + 2 * i) false, p.getD (97 + 2 * i) false))
  let skip := 96 + (if subs == 0 then 0 else 16) + per.foldl (fun a x => a + 88 * b2n x.1 + 8 * b2n x.2) 0
  let id := readUe (p.drop skip)
  let chroma := readUe id.2
  let size := readUes 2 (if chroma.1 == 3 then chroma.2.drop 1 else chroma.2)
  let crop := if size.2.headD false then readUes 4 (size.2.drop 1) else ([0, 0, 0, 0], size.2.drop 1)
  let depths := readUes 3 crop.2
  let from_ := if depths.2.headD false then 0 else subs
  let order := readUes (3 * (subs + 1 - from_)) (depths.2.drop 1)
  let sx := if chroma.1 == 1 || chroma.1 == 2 then 2 else 1
  let sy := if chroma.1 == 1 then 2 else 1
  { tier := b2n (p.getD 2 false)
    profile := bitsNat ((p.drop 3).take 5)
    compat := bitsNat (((p.drop 8).take 32).reverse)
    flags := bitsNat ((p.drop 44).take 9)
    level := bitsNat ((p.drop 88).take 8)
    width := size.1.getD 0 0 - sx * (crop.1.getD 0 0 + crop.1.getD 1 0)
    height := size.1.getD 1 0 - sy * (crop.1.getD 2 0 + crop.1.getD 3 0)
    reorder := (List.range (subs + 1 - from_)).map (fun i => order.1.getD (3 * i + 1) 0) }

/-- Main, Main 10 and Main 4:2:2 10, Main tier, level 5.1 or lower, a picture size, and no picture reordering (R155). -/
def spsOk (w h : Nat) (x : Sps) : Bool :=
  (x.profile == 1 || x.profile == 2 || x.compat.testBit 1 || x.compat.testBit 2 || ((x.profile == 4 || x.compat.testBit 4) && x.flags == 0x1A1)) &&
    x.tier == 0 && x.level ≤ 153 && x.width == w && x.height == h && x.reorder.all (fun n => n == 0)

/-- An access unit keeps the rules of R155: `irap` is its flag in the index. -/
def accessUnitOk (w h : Nat) (irap : Bool) (l : List Byte) : Bool :=
  match annexB l with
  | none => false
  | some nals =>
    let has := fun t => nals.any (fun n => nalType n == t)
    let coded := nals.filter (fun n => nalType n < 32)
    let isIrap := coded.any (fun n => 16 ≤ nalType n && nalType n ≤ 23)
    !coded.isEmpty && isIrap == irap && (!isIrap || (has 32 && has 33 && has 34)) &&
      (nals.filter (fun n => nalType n == 33)).all (fun n => spsOk w h (readSps n))

end Sys2Proof.Machine
end

