-- ==== Sys2Proof/Machine/GzFrame.lean ====
section
/-!
DEFINITION. The frames of the Gyzor link as byte lists (R259-R263, R267, R270, R273), slot runs, capability descriptors (R271) and the
link lead (R279).
-/
namespace Sys2Proof.Machine

/-- A frame: common header, payload, CRC-32 (R259, R260). -/
def gzFrame (type : Nat) (bcast originB : Bool) (addr seq : Nat) (payload : List Byte) : List Byte :=
  let body := leBytes 1 (0x10 + type) ++ leBytes 1 (b2n bcast + 2 * b2n originB) ++ leBytes 2 (addr % 4096) ++ leBytes 2 seq ++
    leBytes 2 payload.length ++ payload
  body ++ leBytes 4 (Crypto.crc32 body).toNat

/-- A run of slots of one node, one zone and one pip format (R262): node, first slot, PIP_W, pips per slot, slots. -/
structure SlotRun where
  zone : Nat
  dest : Nat
  first : Nat
  pipW : Nat
  pips : Nat
  slots : List (List Nat)
  deriving DecidableEq, Repr

/-- The run takes another slot (R262): contiguous, of the same node and format, at most 1,024 slots and 65,536 bits. -/
def SlotRun.takes (r : SlotRun) (x : SlotPips) : Bool :=
  r.dest == x.dest && r.pipW == x.pipW && r.pips == x.pips.length && x.slot == r.first + r.slots.length && r.slots.length < 1024 &&
    (r.slots.length + 1) * r.pips * pipBits r.pipW ≤ 65536

/-- The PIX runs of slots in map order (R262). -/
def slotRuns (zone : Nat) (l : List SlotPips) : List SlotRun :=
  (l.foldl (fun (a : List SlotRun) x =>
    match a with
    | r :: t => if r.takes x then { r with slots := r.slots ++ [x.pips] } :: t
                else { zone := zone, dest := x.dest, first := x.slot, pipW := x.pipW, pips := x.pips.length, slots := [x.pips] } :: r :: t
    | [] => [{ zone := zone, dest := x.dest, first := x.slot, pipW := x.pipW, pips := x.pips.length, slots := [x.pips] }]) []).reverse

/-- Bits, most significant first, as bytes padded with zeros. -/
def packBits (l : List (Nat × Nat)) : List Byte :=
  let v := l.foldl (fun (a : Nat × Nat) x => (a.1 * 2 ^ x.1 + x.2 % 2 ^ x.1, a.2 + x.1)) (0, 0)
  let n := (v.2 + 7) / 8
  beBytes n (v.1 * 2 ^ (8 * n - v.2))

/-- Payload bytes of a run. -/
def SlotRun.size (r : SlotRun) : Nat := (r.slots.length * r.pips * pipBits r.pipW + 7) / 8

/-- The PIX payload of a run for grid index `k` (R262). -/
def pixPayload (r : SlotRun) (k : Nat) : List Byte :=
  leBytes 1 r.zone ++ leBytes 1 (r.pipW + 4 * (r.pips - 1)) ++ leBytes 2 (k % 65536) ++ leBytes 2 r.first ++ leBytes 2 r.slots.length ++
    packBits ((r.slots.flatten).map (fun p => (pipBits r.pipW, p)))

/-- The STRIKE payload (R22, R263): the epoch in full. -/
def strikePayload (zone flags k : Nat) (epoch lead : Word) : List Byte :=
  leBytes 1 zone ++ leBytes 1 flags ++ leBytes 2 (k % 65536) ++ leBytes 4 epoch.toNat ++ leBytes 4 lead.toNat

/-- The SYNC payload (R267); a port end sends ASYM 0. -/
def syncPayload (depart : Word) (measSeq rtA rtB : Nat) : List Byte :=
  leBytes 4 depart.toNat ++ leBytes 2 measSeq ++ [0, 0] ++ leBytes 4 rtA ++ leBytes 4 rtB ++ [0, 0, 0, 0]

/-- Line symbols of a frame with delimiters and gap: 10 for each byte and 6 (R279, R282). -/
def lineSymbols (bytes : Nat) : Nat := 10 * bytes + 6

/-- Symbol rate of a RATE code in kBd (R240). -/
def symbolRate (rate : Nat) : Nat := [1250000, 625000, 156250, 31250].getD rate 1250000

/-- Whether a descriptor makes its node compatible at a rate (R271). -/
def descOk (d : List Byte) (rate : Nat) : Bool :=
  d.length == 28 && (byteAt d 8).testBit rate && byteAt d 8 < 16 && byteAt d 9 % 16 < 8 && byteAt d 9 < 128 && leAt d 10 2 != 0 &&
    leAt d 12 2 ≤ 3072 && leAt d 14 2 ≤ 3072 && leAt d 20 2 ≤ 3072 && byteAt d 18 < 16 && byteAt d 19 != 0 && byteAt d 19 ≤ 8 &&
    leAt d 22 2 == 0 && leAt d 10 2 ≤ 16384

/-- A slot of PIP_W code `w`, `n` pips and index `slot` is within a descriptor (R181). -/
def descTakes (d : List Byte) (w n slot : Nat) : Bool :=
  (byteAt d 9).testBit w && n ≤ byteAt d 9 / 16 % 8 + 1 && slot < leAt d 10 2

/-- The slots of a zone on a port in map order, as placeholders without light. -/
def Plan.blankSlots (p : Plan) (z pg : Nat) : List SlotPips :=
  ((p.zoneEntries z).filter (fun e => p.ePage e == some pg)).map (fun e =>
    let w0 := p.mw e 0
    { entry := e, dest := fld (p.mw e 4) 0 16, slot := fld (p.mw e 4) 16 16, pipW := fld w0 16 2,
      pips := List.replicate (fld w0 18 3 + 1) 0 })

/-- The zones that a plan renders on a port. -/
def Plan.portZones (p : Plan) (pg : Nat) : List Nat :=
  (((p.valid.filter (fun e => p.ePage e == some pg && p.inPlan e)).map p.eZone).eraseDups).filter p.zEn

/-- S_frame of a port (R279): the most symbols of any one zone's frame. -/
def Plan.portSymbols (p : Plan) (pg : Nat) : Nat :=
  (p.portZones pg).foldl (fun m z =>
    Nat.max m ((slotRuns z (p.blankSlots z pg)).foldl (fun a r => a + lineSymbols (20 + r.size)) 0)) 0

/-- Byte 9 of a PIX frame for a slot (R262). -/
def SlotPips.format (x : SlotPips) : Nat := x.pipW + 4 * (x.pips.length - 1)

/-- Slots in ascending order, each contiguous stretch of one format as first slot and slots. -/
def stretches (l : List SlotPips) (format : Nat) : List (Nat × Nat) :=
  (((l.filter (fun x => x.format == format)).map (fun x => x.slot)).mergeSort (fun a b => decide (a ≤ b))).foldl (fun a x =>
    match a.getLast? with
    | some r => if x == r.1 + r.2 then a.dropLast ++ [(r.1, r.2 + 1)] else a ++ [(x, 1)]
    | none => [(x, 1)]) []

/-- The settings of a node (R273, R276): its slot runs as zone, format, first slot and slots. SETTINGS holds 8; of a node with more the spec does not say what becomes, and
the first 8 go (DESIGN CHOICE, log entry 114). -/
def Plan.nodeRuns (p : Plan) (pg addr : Nat) : List (Nat × Nat × Nat × Nat) :=
  (((p.portZones pg).map (fun z =>
    let l := (p.blankSlots z pg).filter (fun x => x.dest == addr)
    (((l.map SlotPips.format).eraseDups).map (fun f => (stretches l f).map (fun r => (z, f, r.1, r.2)))).flatten)).flatten).take 8

/-- SETTINGS of a node (R273). -/
def settingsPayload (epoch : Word) (runs : List (Nat × Nat × Nat × Nat)) : List Byte :=
  [3, 0, 0, 0] ++ leBytes 4 epoch.toNat ++ leBytes 1 runs.length ++ [0] ++
    (runs.map (fun r => leBytes 1 r.1 ++ leBytes 1 r.2.1 ++ leBytes 2 r.2.2.1 ++ leBytes 2 r.2.2.2 ++ [0, 0])).flatten

end Sys2Proof.Machine
end

