-- ==== Sys2Proof/Machine/LineCode.lean ====
section
/-!
DEFINITION. The 8b/10b line code of the Gyzor link (R258): code groups with running disparity, the ordered sets, and what a receiver makes of the code groups of a frame
(R259). The code groups are those of IEEE 802.3 Clause 36, which the spec names and does not print (PRESUMED, log entry 115).
-/
namespace Sys2Proof.Machine

/-- A code group, its first bit `a` the most significant. -/
abbrev Code := BitVec 10

/-- Six bits of the five low bits of a data byte at running disparity -1. -/
def code6 : List Nat :=
  [0b100111, 0b011101, 0b101101, 0b110001, 0b110101, 0b101001, 0b011001, 0b111000, 0b111001, 0b100101, 0b010101, 0b110100, 0b001101, 0b101100, 0b011100, 0b010111] ++
  [0b011011, 0b100011, 0b010011, 0b110010, 0b001011, 0b101010, 0b011010, 0b111010, 0b110011, 0b100110, 0b010110, 0b110110, 0b001110, 0b101110, 0b011110, 0b101011]

/-- Four bits of the three high bits of a data byte at running disparity -1; the alternate seventh is apart. -/
def code4 : List Nat := [0b1011, 0b1001, 0b0101, 0b1100, 0b1101, 0b1010, 0b0110, 0b1110]

/-- Ones among the low bits of a number. -/
def onesIn (bits v : Nat) : Nat := (List.range bits).foldl (fun a i => a + b2n (v.testBit i)) 0

/-- Running disparity after a block of `bits` bits: it follows a block with more ones than zeros, or fewer. -/
def rdAfter (bits v : Nat) (rd : Bool) : Bool :=
  let o := onesIn bits v
  if 2 * o == bits then rd else decide (bits < 2 * o)

/-- A block at a running disparity (true for +1) from its form at -1: complemented at +1 where it is unbalanced, or where `flips` says so. -/
def blockAt (bits v : Nat) (flips rd : Bool) : Nat := if rd && (flips || 2 * onesIn bits v != bits) then 2 ^ bits - 1 - v else v

/-- The 6-bit block of a data byte: D.7 also has two forms. -/
def enc6 (rd : Bool) (x : Nat) : Nat := blockAt 6 (code6.getD x 0) (x == 7) rd

/-- The 4-bit block of a data byte, at the running disparity after its 6-bit block: D.x.3 has two forms, and D.x.7 its alternate form where a run of five would arise. -/
def enc4 (rd : Bool) (x y : Nat) : Nat :=
  let alt := if rd then x == 11 || x == 13 || x == 14 else x == 17 || x == 18 || x == 20
  if y == 7 && alt then blockAt 4 0b0111 true rd else blockAt 4 (code4.getD y 0) (y == 3) rd

/-- Running disparity after a code group. -/
def rdNext (c : Code) (rd : Bool) : Bool := rdAfter 4 (c.toNat % 16) (rdAfter 6 (c.toNat / 16) rd)

/-- The code group of a data byte. -/
def encData (rd : Bool) (b : Byte) : Code :=
  let x := b.toNat % 32
  let h := enc6 rd x
  BitVec.ofNat 10 (16 * h + enc4 (rdAfter 6 h rd) x (b.toNat / 32))

/-- The special code groups in use at running disparity -1; at +1 they are complemented. -/
def k285 : Nat := 0b0011111010
def k277 : Nat := 0b1101101000
def k297 : Nat := 0b1011101000
def k307 : Nat := 0b0111101000

/-- A special code group. -/
def encK (rd : Bool) (k : Nat) : Code := BitVec.ofNat 10 (if rd then 1023 - k else k)

/-- Code groups one after another, and the running disparity after them. -/
def encAll (enc : List (Bool → Code)) (rd : Bool) : List Code × Bool :=
  enc.foldl (fun a e => let c := e a.2; (a.1 ++ [c], rdNext c a.2)) ([], rd)

/-- The ordered set IDLE, which keeps the running disparity. -/
def idleSet : List (Bool → Code) := [fun rd => encK rd k285, fun rd => encData rd (0x50 : Byte)]

/-- A frame on the line: start delimiter, its bytes, end delimiter, and two IDLE ordered sets; IDLE fill goes on until the next frame. -/
def lineCode (rd : Bool) (frame : List Byte) : List Code × Bool :=
  encAll ([fun r => encK r k277] ++ frame.map (fun b r => encData r b) ++ [fun r => encK r k297] ++ idleSet ++ idleSet) rd

/-- The data byte of a code group at a running disparity; none for a code or disparity error. -/
def decData (rd : Bool) (c : Code) : Option Byte :=
  let h := c.toNat / 16
  match (List.range 32).find? (fun x => enc6 rd x == h) with
  | some x => ((List.range 8).find? (fun y => enc4 (rdAfter 6 h rd) x y == c.toNat % 16)).map (fun y => BitVec.ofNat 8 (32 * y + x))
  | none => none

/-- What a receiver makes of the code groups of a frame between its delimiters: code and disparity errors, and its bytes where there is none. -/
def decAll : List Code → Bool → Nat × List Byte
  | [], _ => (0, [])
  | c :: t, rd =>
    let r := decAll t (rdNext c rd)
    match decData rd c with
    | some b => (r.1, b :: r.2)
    | none => (r.1 + 1, r.2)

/-- A received frame (R259): its code and disparity errors; its header and payload where it is good. -/
structure GzRx where
  errs : Nat
  frame : Option (List Byte)

/-- A port end receives the code groups of a frame from the start delimiter to the end delimiter (R258-R260). -/
def gzRx (l : List Code) : GzRx :=
  let rd := l.headD 0 != encK false k277
  let start := l.headD 0 == encK rd k277
  let r := decAll ((l.drop 1).dropLast) (rdNext (l.headD 0) rd)
  let last := l.getLastD 0
  let ends := last == encK false k297 || last == encK true k297
  let n := r.2.length - 4
  let body := r.2.take n
  let good := start && ends && r.1 == 0 && 12 ≤ r.2.length && leAt r.2 n 4 == (Crypto.crc32 body).toNat && leAt body 6 2 + 8 == n && byteAt body 0 / 16 == 1
  { errs := r.1 + b2n (!start), frame := if good then some body else none }

end Sys2Proof.Machine
end

