-- ==== Sys2Proof/Machine/QueueBase.lean ====
section
/-!
DEFINITION. Queues (R23-R25, R333-R349): items, the state of a queue, the free cells of the pool, and the queues of the output ports (R189).
-/
namespace Sys2Proof.Machine

/-! Items (R333). -/

/-- TYPE and EOP of an item. -/
def itemType (i : DWord) : Nat := i.toNat / 2 ^ 60
def itemEop (i : DWord) : Bool := i.getLsbD 59

/-- The item IDLE, and ABORT. -/
def itemIdle : DWord := 0xF000000000000000
def itemAbort : DWord := 0x2800000000000000

/-- A CELL item. -/
def itemCell (cell bytes : Nat) (eop : Bool) : DWord :=
  BitVec.ofNat 64 (2 ^ 59 * b2n eop + 2 ^ 24 * (bytes % 256) + cell % 2 ^ 23)

/-- The host address of a host buffer (R333, R347). -/
def bufAddr (i : DWord) : BitVec 48 := BitVec.ofNat 48 (2 ^ 8 * (i.toNat % 2 ^ 40))

/-- Bytes of a host buffer (R333). -/
def bufBytes (i : DWord) : Nat := let n := i.toNat / 2 ^ 40 % 65536; if n == 0 then 65536 else n

/-- A descriptor that a doorbell takes (R335). -/
def descValid (i : DWord) : Bool :=
  (itemType i == 1 && i.toNat / 2 ^ 56 % 8 == 0) || (itemType i == 3 && i.toNat / 2 ^ 48 % 2 ^ 11 == 0)

/-- An item that a block writes to a queue: CELL, ABORT with EOP, or MARK, with every reserved bit 0. -/
def blockItem (i : DWord) : Bool :=
  (itemType i == 0 && i.toNat / 2 ^ 32 % 2 ^ 27 == 0 && !i.getLsbD 23) || i == itemAbort || (itemType i == 3 && i.toNat / 2 ^ 48 % 2 ^ 11 == 0)

/-- The bytes that a CELL item uses. -/
def cellBytes (i : DWord) : Nat := let n := i.toNat / 2 ^ 24 % 256; if n == 0 then 256 else n

/-! Assignments (R344). -/

/-- A host queue. -/
def hostQueue (q : Nat) : Bool := 16256 ≤ q && q < 16384

/-- A queue that HOST produces, and one that it consumes. -/
def hostProduces (q : Nat) : Bool := q == 16256 || q == 16258 || q == 16260 || q == 16262 || q == 16264
def hostConsumes (q : Nat) : Bool := q == 16257 || q == 16259 || q == 16261 || q == 16263

/-- What an unlisted queue of the pool is. -/
def poolInit (q : Nat) : QueueSt :=
  if hostQueue q then QueueSt.empty 256 0 262144
  else let a := Config.poolAssign q; QueueSt.empty (a.1 + 1) a.2.1 a.2.2.1

/-- What an unlisted on-die queue is. -/
def onDieInit (q : Nat) : QueueSt := QueueSt.empty ((Config.onDie q).1 + 1) 0 0

/-- PRODUCER and CONSUMER of Q_CFG (R344, R349). -/
def queueEnds (q : Nat) : Nat × Nat :=
  if q == 16264 then (1, 7) else if hostProduces q then (1, 5) else if hostConsumes q then (5, 1) else if hostQueue q then (0, 0)
  else ((Config.poolAssign q).2.2.2.1, (Config.poolAssign q).2.2.2.2)

/-- Link cells of a queue (R338). -/
def QueueSt.links (x : QueueSt) : Nat := if x.items.isEmpty then 0 else (x.head + x.items.length + 30) / 31

/-- Cells that a queue holds (R338, R339). -/
def QueueSt.cells (x : QueueSt) : Nat := x.spare + (x.items.filter (fun i => itemType i.item == 0)).length + x.links

/-- Credits that the producer holds (R339, R345); for a queue that HOST consumes, HOST's credits for posting. -/
def queueCredits (q : Nat) (x : QueueSt) : Nat :=
  if hostConsumes q then x.depth - x.posted.length else x.depth - (x.fetch.length + (x.items.filter (fun i => i.credit)).length)

/-- Items up to and including the next EOP item are gone (R25). -/
def dropPacket {α : Type} (eop : α → Bool) : List α → List α
  | [] => []
  | i :: t => if eop i then t else dropPacket eop t

/-- A queue is reset after a pointer mismatch or the loss of its list (R337). -/
def QueueSt.reset (x : QueueSt) : QueueSt :=
  { x with items := [], fetch := [], spare := 0, head := 0, flush := false, taken := false, abort := x.abort || x.taken, cut := x.part, idle := true, used := 0 }

/-- A pending flush takes effect where the queue holds an EOP item (R25, R343). A consumer that has taken part of the packet gets ABORT, so that no part of it counts as
sent (R25, R334; DEDUCED, log entry 41). -/
def QueueSt.flushNow (x : QueueSt) : QueueSt :=
  let eop := fun (i : QItem) => itemEop i.item
  let y := { x with flush := false, taken := false, used := 0, abort := x.abort || x.taken }
  if x.items.any eop then
    let rest := dropPacket eop x.items
    { y with items := rest, head := (x.head + (x.items.length - rest.length)) % 31 }
  else if x.fetch.any itemEop then { y with items := [], fetch := dropPacket itemEop x.fetch, part := false, head := 0 }
  else { x with flush := true }

/-- The item that a consumer reads, and the queue after it (R23, R24, R337, R343). -/
def QueueSt.take (x : QueueSt) : DWord × QueueSt :=
  let full := x.items.any (fun i => itemEop i.item)
  if x.abort then (itemAbort, { x with abort := false })
  else if x.flush || (x.idle && !full) then (itemIdle, x)
  else
    match x.items with
    | [] => (itemIdle, x)
    | i :: t => (i.item, { x with items := t, taken := !itemEop i.item, idle := false, used := 0, head := if t.isEmpty then 0 else (x.head + 1) % 31 })

/-! Port queues (R189): each pair of an output port and a zone has the queue 256 x port + zone, with Gyzor port ends as ports 0-31, domino ports 32-47 and DMX ports
48-51 (DESIGN CHOICE, log entry 74). -/

/-- The queue of a port page and a zone. -/
def pairQueue (pg z : Nat) : Nat := 256 * (if pg < 64 then pg - 32 else pg - 48) + z

/-- The port page of a pair queue. -/
def pairPage (q : Nat) : Nat := let i := q / 256; if i < 32 then 32 + i else 48 + i

/-- Data cells of a tile: its pips, in one or two bytes each. -/
def TileOut.cells (t : TileOut) : Nat :=
  ((t.tile.slots.foldl (fun a x => a + x.pips.length * (if x.pipW == 0 then 1 else 2)) 0) + 255) / 256

/-- Cells of the tiles of a pair queue, with a link cell for each 31 items (R338). -/
def tileCells (l : List TileOut) : Nat :=
  let n := l.foldl (fun a t => a + t.cells) 0
  n + (n + 30) / 31

namespace State

/-- A queue of the cell pool. -/
def pq (s : State) (q : Nat) : QueueSt := Sparse.get poolInit s.poolq q

/-- An on-die queue. -/
def oq (s : State) (q : Nat) : QueueSt := Sparse.get onDieInit s.odq q

/-- An on-die queue takes a value. -/
def setOq (q : Nat) (x : QueueSt) (s : State) : State := { s with odq := Sparse.set onDieInit s.odq q x }

/-- Free cells (R338, R341). -/
def poolFree (s : State) : Nat := 8388608 - (s.rd Reg.QM.RETIRED).toNat - s.poolq.foldl (fun a e => a + e.2.cells) 0 - s.tileQ.foldl (fun a e => a + tileCells e.2) 0

/-- POOL_MIN_FREE follows the free cells; QM event bit 3 below LOW_MARK, again only after twice LOW_MARK (R342). -/
def poolShow (s : State) : State :=
  let f := s.poolFree
  let low := fld (s.rd Reg.QM.POOL_CFG) 0 23
  let s := if f < (s.rd Reg.QM.POOL_MIN_FREE).toNat then s.wr Reg.QM.POOL_MIN_FREE (W f) else s
  if f < low && !s.poolLow then { s with poolLow := true }.raise 26 3
  else if 2 * low < f then { s with poolLow := false }
  else s

/-- A queue of the cell pool takes a value. -/
def setPq (q : Nat) (x : QueueSt) (s : State) : State := { s with poolq := Sparse.set poolInit s.poolq q x }.poolShow

/-- Cells that reservations still keep (R339). -/
def reserved (s : State) : Nat := (List.range 16384).foldl (fun a q => a + ((s.pq q).min - (s.pq q).cells)) 0

/-- QM may allocate a cell to a queue (R339). -/
def allocMay (s : State) (q : Nat) : Bool :=
  let x := s.pq q
  x.cells < x.min || (x.cells < x.max && s.reserved < s.poolFree)

/-- QM is at work: READY, and so the DRAM PLL is locked (R45). -/
def qmUp (s : State) : Bool := s.isReady 26

/-- A consumer grants credits (R58, R81): its block is READY, or in HOLD or CAL on the way from READY and back. -/
def grants (s : State) (pg : Nat) : Bool := s.reach pg && (s.code pg == 2 || s.code pg == 5 || s.code pg == 6)

/-- The page of the block that consumes a cell-pool queue; none for HOST and the processors (R344, R349). -/
def queueConsumer (q : Nat) : Option Nat :=
  if q == 16264 then some 22
  else if hostProduces q then some (104 + (q - 16256) / 2)
  else if hostQueue q then none
  else (Config.poolConsumer q).map (fun p => p.val)

/-- The consumer of a queue takes items and grants credits (R81). -/
def consumes (s : State) (q : QueueId) : Bool :=
  s.qmUp &&
    (match q with
     | .onDie q => s.grants (Config.onDie q.val).2.val
     | .pool q => (queueConsumer q.val).all s.grants)

/-- The credits that HOST holds for a queue (R81, R93, R339, R345). -/
def hostCredits (s : State) (q : Nat) : Nat :=
  if hostConsumes q then queueCredits q (s.pq q)
  else if hostProduces q && (queueConsumer q).all s.grants then queueCredits q (s.pq q)
  else 0

/-- The tiles of a pair queue. -/
def tiles (s : State) (pg z : Nat) : List TileOut := Sparse.get (fun _ => []) s.tileQ (pairQueue pg z)

/-- The tiles that wait at a port, zone by zone. -/
def portTiles (s : State) (pg : Nat) : List TileOut := ((s.tileQ.filter (fun e => pairPage e.1 == pg)).map (fun e => e.2)).flatten

/-- DSP holds a credit for a pair queue (R23, R81, R189): DEPTH counts tiles. -/
def tileRoom (s : State) (pg z : Nat) : Bool := s.grants pg && (s.tiles pg z).length < (poolInit (pairQueue pg z)).depth

/-- A released tile joins its pair queue, and takes cells of the pool (R189, R338). -/
def putTile (pg : Nat) (t : TileOut) (s : State) : State :=
  { s with tileQ := Sparse.upd (fun _ => []) s.tileQ (pairQueue pg t.zone) (fun l => l ++ [t]) }.poolShow

/-- The queues of the output ports change, and no cell is taken: those that tiles have left are free again (R339, R342). -/
def lessTiles (q : Sparse (List TileOut)) (s : State) : State :=
  let s := { s with tileQ := q }
  if 2 * fld (s.rd Reg.QM.POOL_CFG) 0 23 < s.poolFree then { s with poolLow := false } else s

/-- Tiles leave the queues of a port. -/
def dropTiles (pg : Nat) (gone : TileOut → Bool) (s : State) : State :=
  s.lessTiles (s.tileQ.filterMap (fun (e : Nat × List TileOut) =>
    if pairPage e.1 != pg then some e
    else
      let l := e.2.filter (fun t => !gone t)
      if l.isEmpty then none else some (e.1, l)))

/-- An item joins a queue of the pool, with the cells it needs; otherwise its producer waits for a cell (R339). Whether it joined. -/
def poolPut (q : Nat) (i : QItem) (s : State) : State × Bool :=
  let x := s.pq q
  let cell := itemType i.item == 0 && x.spare == 0
  let link := (x.head + x.items.length) % 31 == 0
  if (cell || link) && !s.allocMay q then (s.bumpWrap Reg.QM.ALLOC_WAIT, false)
  else
    let spare := if itemType i.item == 0 then x.spare - 1 else x.spare
    (s.setPq q { x with items := x.items ++ [i], spare := spare, part := !itemEop i.item }, true)

end State

end Sys2Proof.Machine
end

