-- ==== Sys2Proof/Machine/EthBase.lean ====
section
/-!
DEFINITION. What several families share of the Ethernet ports (R310-R331): addresses, the headers of a received frame, the egress queues and the module's own traffic in
them, and the multicast groups that FP joins. Header layouts, protocol numbers and group addresses are those of the IEEE and the IETF (PRESUMED, log entry 120).
-/
namespace Sys2Proof.Machine

/-- A big-endian field of a list of bytes. -/
def beAt (l : List Byte) (i n : Nat) : Nat := ofBE ((l.drop i).take n)

/-- The IPv6 link-local address that derives from a station address of an ETH port (R330; PRESUMED, log entry 102: the modified EUI-64 of RFC 4291). -/
def linkLocal (mac : BitVec 48) : BitVec 128 :=
  let hi := mac.extractLsb' 24 24 ^^^ 0x020000
  (0xFE80000000000000 : BitVec 64) ++ hi ++ (0xFFFE : BitVec 16) ++ mac.extractLsb' 0 24

/-- The station address of a multicast group. -/
def groupMac (v6 : Bool) (g : BitVec 128) : Nat := if v6 then 0x333300000000 + g.toNat % 2 ^ 32 else 0x01005E000000 + g.toNat % 2 ^ 23

/-- What the headers of a received frame say: its destination, its tag, and what follows the tag (R312, R317). -/
structure EthView where
  dest : Nat
  tagged : Bool
  pcp : Nat
  vid : Nat
  type : Nat
  rest : List Byte
  deriving DecidableEq, Repr

/-- The headers of a frame, from its destination address on. -/
def ethView (l : List Byte) : EthView :=
  let tagged := beAt l 12 2 == 0x8100
  let tci := if tagged then beAt l 14 2 else 0
  let p := if tagged then 16 else 12
  { dest := beAt l 0 6, tagged := tagged, pcp := tci / 8192, vid := tci % 4096, type := beAt l p 2, rest := l.drop (p + 2) }

/-- The frame without its tag (R317). -/
def untag (l : List Byte) : List Byte := if (ethView l).tagged then l.take 12 ++ l.drop 16 else l

/-- An IP packet: version, destination, protocol and what it carries; an IPv6 hop-by-hop header is passed over. None for another frame. -/
structure IpView where
  v6 : Bool
  dst : BitVec 128
  proto : Nat
  body : List Byte
  deriving DecidableEq, Repr

/-- The IP packet of a frame. -/
def ipView (v : EthView) : Option IpView :=
  let l := v.rest
  if v.type == 0x0800 && byteAt l 0 / 16 == 4 then
    some { v6 := false, dst := BitVec.ofNat 128 (beAt l 16 4), proto := byteAt l 9, body := l.drop (4 * (byteAt l 0 % 16)) }
  else if v.type == 0x86DD then
    let hop := byteAt l 6 == 0
    some { v6 := true, dst := BitVec.ofNat 128 (beAt l 24 16), proto := byteAt l (if hop then 40 else 6), body := l.drop (if hop then 48 + 8 * byteAt l 41 else 40) }
  else none

/-- Version, destination address and port, and payload of a UDP datagram. -/
def udpView (v : EthView) : Option (Bool × BitVec 128 × Nat × List Byte) :=
  match ipView v with
  | some i => if i.proto == 17 then some (i.v6, i.dst, beAt i.body 2 2, i.body.drop 8) else none
  | none => none

/-- Bytes of the IP packet of a datagram with `n` bytes. -/
def udpBytes (v6 : Bool) (n : Nat) : Nat := (if v6 then 48 else 28) + n

/-- Bytes of a PTP message after the UDP header (R121). -/
def ptpBytes (type : Nat) : Nat := if type == 11 then 64 else if type == 9 || type == 12 then 54 else 44

/-- The multicast group of PTP. -/
def ptpGroup (v6 : Bool) : BitVec 128 := if v6 then 0xFF0E0000000000000000000000000181 else 0xE0000181

/-- The ports that a stream comes in on (R173). -/
def vinPorts (c : Word) : List Nat := if fld c 1 2 == 2 then [0, 1] else [fld c 1 2]

namespace State

/-- A MAC. -/
def eth (s : State) (n : Nat) : EthPort := Sparse.get (fun _ => EthPort.init) s.eths n

/-- A MAC takes a value. -/
def setEth (n : Nat) (e : EthPort) (s : State) : State := { s with eths := Sparse.set (fun _ => EthPort.init) s.eths n e }

/-- CFG of an Ethernet port. -/
def ethCfg (s : State) (n : Nat) : Word := s.rd (Reg.ETH.CFG n)

/-- VID in force (R331). -/
def ethVid (s : State) (n : Nat) : Nat := let v := fld (s.ethCfg n) 16 12; if v == 4095 then 0 else v

/-- The station address of a port (R330). -/
def ethMac (s : State) (n : Nat) : BitVec 48 := (s.rd (Reg.ETH.MAC_HI n)).setWidth 16 ++ s.rd (Reg.ETH.MAC_LO n)

/-- The IPv6 address of a port (R330). -/
def ethIp6 (s : State) (n : Nat) : BitVec 128 := s.rd (Reg.ETH.IP6_ADDR n 0) ++ s.rd (Reg.ETH.IP6_ADDR n 1) ++ s.rd (Reg.ETH.IP6_ADDR n 2) ++ s.rd (Reg.ETH.IP6_ADDR n 3)

/-- An address is one of an ETH port: the IPv4 address, the IPv6 address or the link-local address, where the page enables the protocol (R102, R330). -/
def ethHears (s : State) (n : Nat) (v6 : Bool) (dst : BitVec 128) : Bool :=
  if v6 then bit (s.rd (Reg.ETH.IP6_CFG n)) 8 && (dst == s.ethIp6 n || dst == linkLocal (s.ethMac n))
  else bit (s.rd (Reg.ETH.IP4_CFG n)) 8 && dst == (s.rd (Reg.ETH.IP4_ADDR n)).setWidth 128

/-- The address on the link to which a port sends a datagram (R330): an IPv4 destination outside the port's prefix goes to the gateway, if there is one. -/
def ethHop (s : State) (n : Nat) (v6 : Bool) (dst : BitVec 128) : Option (BitVec 128) :=
  if v6 then (if bit (s.rd (Reg.ETH.IP6_CFG n)) 8 then some dst else none)
  else if !bit (s.rd (Reg.ETH.IP4_CFG n)) 8 then none
  else
    let host := 2 ^ (32 - Nat.min 32 (fld (s.rd (Reg.ETH.IP4_CFG n)) 0 6))
    if dst.toNat / host == (s.rd (Reg.ETH.IP4_ADDR n)).toNat / host || fld (W dst.toNat) 28 4 == 14 then some dst
    else if s.rd (Reg.ETH.IP4_GW n) == 0 then none
    else some ((s.rd (Reg.ETH.IP4_GW n)).setWidth 128)

/-- Traffic of the module enters an egress queue of a port (R320): an emission whose packet has `bytes` bytes after the Ethernet header. -/
def ethOwn (n q bytes : Nat) (e : Emission) (s : State) : State :=
  if s.up (104 + n) then
    let len := Nat.max 60 (14 + bytes + (if s.ethVid n == 0 then 0 else 4))
    s.setEth n { s.eth n with txq := (s.eth n).txq ++ [{ queue := q, body := .own e len, stamp := none, since := s.clock }] }
  else s

/-- The link of a port is lost: it renegotiates, or its block stops (R310, R327). A frame in progress is lost with it. -/
def linkDrop (n : Nat) (s : State) : State :=
  if bit (s.rd (Reg.ETH.LINK_STATUS n)) 0 then
    ((s.setEth n { s.eth n with cur := none, left := none, verify := 0 }).wr (Reg.ETH.LINK_STATUS n) 0).wr (Reg.ETH.PREEMPT_STATUS n) 0 |>.raise (104 + n) 0
  else s

/-! Groups (R148, R164, R313). -/

/-- The multicast group of a stream, if its destination is one (R148, R172; DEDUCED, log entry 29: an address's first word is its most significant). -/
def vinGroup (s : State) (n : Nat) (c : Word) : Option (BitVec 128) :=
  let d0 := s.rd (Reg.VIN.S_DEST0 n)
  if bit c 3 then
    if fld d0 24 8 == 0xFF then some (d0 ++ s.rd (Reg.VIN.S_DEST1 n) ++ s.rd (Reg.VIN.S_DEST2 n) ++ s.rd (Reg.VIN.S_DEST3 n)) else none
  else if fld d0 28 4 == 0xE then some (BitVec.ofNat 128 d0.toNat) else none

/-- The multicast group of the audio stream, if its destination is one (R169, R313). -/
def audGroup (s : State) : Option (BitVec 128) :=
  let d0 := s.rd (Reg.AUD.DEST 0)
  if bit (s.rd Reg.AUD.CFG) 3 then
    if fld d0 24 8 == 0xFF then some (d0 ++ s.rd (Reg.AUD.DEST 1) ++ s.rd (Reg.AUD.DEST 2) ++ s.rd (Reg.AUD.DEST 3)) else none
  else if fld d0 28 4 == 0xE then some (BitVec.ofNat 128 d0.toNat) else none

/-- The group of MATCH entry `i` of a port, one that FP owns (R313): streams 0-7, AUD, the PTP instance and the fleet network; entry 11 is spare (DESIGN CHOICE, log entry
121). -/
def fpGroup (s : State) (n i : Nat) : Option (Bool × BitVec 128) :=
  let v6 := !bit (s.rd (Reg.ETH.IP4_CFG n)) 8 && bit (s.rd (Reg.ETH.IP6_CFG n)) 8
  if i < 8 then
    let c := s.rd (Reg.VIN.S_CTL i)
    if s.up 21 && bit c 0 && (vinPorts c).contains n then (s.vinGroup i c).map (fun g => (bit c 3, g)) else none
  else if i == 8 then
    let c := s.rd Reg.AUD.CFG
    if s.up 25 && bit c 0 && fld c 1 2 == n then s.audGroup.map (fun g => (bit c 3, g)) else none
  else if i == 9 then
    if fld (s.rd (Reg.TB.SRC 0)) 4 2 == n || fld (s.rd (Reg.TB.SRC 1)) 4 2 == n then some (v6, ptpGroup v6) else none
  else if i == 10 then
    if bit (s.rd Reg.FLT.NET_CFG) n then (Config.fleetGroup v6).map (fun g => (v6, g)) else none
  else none

/-- The station address that a MATCH entry of a port names, if the entry is valid (R312, R313). -/
def matchMac (s : State) (n i : Nat) : Option Nat :=
  if bit (s.rd (Reg.ETH.MATCH_HI n i)) 16 then some ((s.rd (Reg.ETH.MATCH_LO n i)).toNat + 2 ^ 32 * fld (s.rd (Reg.ETH.MATCH_HI n i)) 0 16)
  else none

/-- A membership report on a port: IGMPv3 or MLDv2 (R148, R164, R313, R320). -/
def memberReport (n : Nat) (v6 : Bool) (g : BitVec 128) (join : Bool) (s : State) : State := s.ethOwn n 5 (if v6 then 76 else 40) (.member n v6 g join)

/-- FP brings one of its MATCH entries up to date, and reports the group that it leaves or joins (R148, R313). -/
def fpEntry (n i : Nat) (s : State) : State :=
  let e := s.eth n
  let was := (e.groups.find? (fun g => g.1 == i)).map (fun g => g.2)
  let now := s.fpGroup n i
  if was == now then s
  else
    let s := s.setEth n { e with groups := e.groups.filter (fun g => g.1 != i) ++ now.toList.map (fun g => (i, g)) }
    let m := match now with | some g => groupMac g.1 g.2 + 2 ^ 48 | none => 0
    let s := (s.wr (Reg.ETH.MATCH_LO n i) (W m)).wr (Reg.ETH.MATCH_HI n i) (W (m / 2 ^ 32))
    let s := was.toList.foldl (fun a g => a.memberReport n g.1 g.2 false) s
    now.toList.foldl (fun a g => a.memberReport n g.1 g.2 true) s

/-- FP brings its MATCH entries up to date on the ports that are up, once it runs (R13, R313). -/
def fpSync (s : State) : State :=
  if s.proc 2 != 2 then s
  else
    ((List.range 4).filter (fun n => s.up (104 + n))).foldl (fun a n => (List.range 11).foldl (fun a i => a.fpEntry n i) a) s

end State

end Sys2Proof.Machine
end

