-- ==== Sys2Proof/Machine/CalBase.lean ====
section
/-!
DEFINITION. Calibration sets as the paths read them (R458, R459): the sets that CAL holds and the correction at a temperature.
-/
namespace Sys2Proof.Machine

namespace State

/-- Key of a set. -/
def calKey (kind inst point : Nat) : Nat := 0x1000 * kind + 0x10 * inst + point

/-- A set: 16 words, or none. -/
def calSet (s : State) (kind inst point : Nat) : List Word := Sparse.get (fun _ => []) s.cal (calKey kind inst point)

/-- The greatest number of points (R458). -/
def calMax (kind : Nat) : Nat := if kind == 2 then 16 else 4

/-- The points that a kind and instance hold (R458, R459). -/
def calPoints (s : State) (kind inst : Nat) : List Nat := (List.range (calMax kind)).filter (fun p => bit ((s.calSet kind inst p).getD 0 0) 16)

/-- TEMP of a set, 0.125 degC. -/
def calTemp (l : List Word) : Int := sfld (l.getD 0 0) 0 16

end State

/-- Linear interpolation between the two points around a temperature, the nearest point outside their range, and none where there is no point (R458): points as TEMP and value,
in any order. -/
def calInterp (pts : List (Int × Int)) (t : Int) : Option Rat :=
  let below := pts.foldl (fun (m : Option (Int × Int)) p => if p.1 ≤ t && (match m with | some q => decide (q.1 < p.1) | none => true) then some p else m) none
  let above := pts.foldl (fun (m : Option (Int × Int)) p => if t < p.1 && (match m with | some q => decide (p.1 < q.1) | none => true) then some p else m) none
  match below, above with
  | some p, some q => some (lerpQ p.2 q.2 (mkRat (t - p.1) (q.1 - p.1).toNat))
  | some p, none => some p.2
  | none, some q => some q.2
  | none, none => none

namespace State

/-- The correction of a metered phase at a temperature of the MTR die, from the sets in force (R458, R459): V_GAIN, I_GAIN and PHASE, none without a point. -/
def mtrCal (s : State) (p : Nat) (t : Int) : Option (Rat × Rat × Rat) :=
  let sets := ((List.range (calMax 1)).map (fun k => Sparse.get (fun _ => []) s.calMtr (calKey 1 p k))).filter (fun l => bit (l.getD 0 0) 16)
  let w := fun (n : Nat) (f : Word → Int) => calInterp (sets.map (fun l => (calTemp l, f (l.getD n 0)))) t
  match w 1 (fun v => v.toNat), w 2 (fun v => v.toNat), w 3 BitVec.toInt with
  | some v, some i, some ph => some (v / 4194304, i / 4194304, ph)
  | _, _, _ => none

/-- Word `w` of the correction of a kind and instance at a temperature of 0.125 degC (R458), `f` giving the value of a point's word. -/
def calAt (s : State) (kind inst w : Nat) (f : Word → Int) (t : Int) : Option Rat :=
  calInterp ((s.calPoints kind inst).map (fun p => let l := s.calSet kind inst p; (calTemp l, f (l.getD w 0)))) t

end State

end Sys2Proof.Machine
end

