-- ==== Sys2Proof/Machine/KeyStore.lean ====
section
/-!
DEFINITION. The key store: slots, derivation, the operations of OP_CMD, revocation and zeroisation (R414-R425, R428, R429).
-/
namespace Sys2Proof.Machine

namespace State

/-- A slot in key RAM. -/
def slot (s : State) (i : Nat) : KeySlot := Sparse.get slotFactory s.slots i

/-- A slot changes; unless it is EPHEMERAL its wrapped record changes with it (R418). -/
def setSlot (i : Nat) (k : KeySlot) (s : State) : State :=
  { s with
    slots := Sparse.set slotFactory s.slots i k
    slotsMram := Sparse.set slotFactory s.slotsMram i (if bit k.attr 8 then KeySlot.init else k) }

/-- KEY is locked by a tamper (R428). -/
def keyLocked (s : State) : Bool := bit (s.rd Reg.KEY.STATUS) 1

/-- The root, where it has been reconstructed and KEY is not locked (R414). -/
def rootKey (s : State) : Option (List Byte) :=
  if bit (s.rd Reg.KEY.STATUS) 0 && !s.keyLocked then some ((List.range 32).map Config.root) else none

end State

/-- The KDF of R416: one iteration of the SP 800-108 counter mode with HMAC-SHA-256. -/
def kdf (key label context : List Byte) : List Byte :=
  Crypto.hmac key ([0, 0, 0, 1] ++ label ++ [0] ++ context ++ [0, 0, 1, 0])

/-- TYPE of an ATTR word is ECC_P256 (R417). -/
def isEcc (attr : Word) : Bool := fld attr 10 2 == 1

namespace State

/-- The key of a slot: stored, or computed from its chain (R415, R416); none where the chain passes through a slot that is not LIVE. -/
def slotKey (s : State) : Nat → Nat → Option (List Byte)
  | 0, _ => none
  | n + 1, i =>
    let k := s.slot i
    if k.state != 1 then none
    else if k.origin == 1 then
      let parent := if k.parent == 63 then s.rootKey else s.slotKey n k.parent
      parent.map (fun p => kdf p k.label (leBytes 4 k.attr.toNat))
    else if k.key.isEmpty then some ((List.range 32).map Config.identity)
    else some k.key

/-- The key of slot `i`, with the 8 derivations that a chain can hold (R416). -/
def keyOf (s : State) (i : Nat) : Option (List Byte) := s.slotKey 9 i

/-- A key that a block derives for its own use, from a slot it may use (R416, R417, R421). -/
def blockKey (s : State) (i user : Nat) (label : List Byte) : Option (List Byte) :=
  let k := s.slot i
  if k.state == 1 && bit k.attr 2 && bit k.attr (16 + user) && !isEcc k.attr && !s.keyLocked then
    (s.keyOf i).map (fun p => kdf p label [0, 0, 0, 0])
  else none

/-- A key that SC derives from the root: "SAFE", "ARB" (R430, R443). -/
def rootDerived (s : State) (label : List Byte) : Option (List Byte) := s.rootKey.map (fun p => kdf p label [0, 0, 0, 0])

/-- Slot `j` descends from slot `i`, with fuel the depth of a chain. -/
def descends (s : State) (i : Nat) : Nat → Nat → Bool
  | 0, _ => false
  | n + 1, j =>
    let k := s.slot j
    k.origin == 1 && k.parent != 63 && (k.parent == i || s.descends i n k.parent)

/-- The slots that a revocation of `i` reaches: itself and every descendant that is LIVE (R421). -/
def revokeSet (s : State) (i : Nat) : List Nat :=
  (List.range 64).filter (fun j => j == i || ((s.slot j).state == 1 && s.descends i 9 j))

/-! Operation registers of a requester (R419). -/

def kreg (s : State) (r : Requester) (off : Nat) : Word := Sparse.get (fun _ => 0) s.keyRegs (0x1000 * reqIdx r + off)

def setKreg (r : Requester) (off : Nat) (v : Word) (s : State) : State :=
  { s with keyRegs := Sparse.set (fun _ => 0) s.keyRegs (0x1000 * reqIdx r + off) v }

/-- The bytes of OP_IN. -/
def opIn (s : State) (r : Requester) (n : Nat) : List Byte :=
  ((List.range ((n + 3) / 4)).map (fun i => leBytes 4 (s.kreg r (0x400 + 4 * i)).toNat)).flatten.take n

/-- OP_OUT takes bytes; the rest of the 1,024 reads zero. -/
def setOut (r : Requester) (l : List Byte) (s : State) : State :=
  let s := { s with keyRegs := s.keyRegs.filter (fun e => !(e.1 / 0x1000 == reqIdx r && 0x800 ≤ e.1 % 0x1000 && e.1 % 0x1000 < 0xC00)) }
  (List.range ((l.length + 3) / 4)).foldl (fun a i => a.setKreg r (0x800 + 4 * i) (W (ofLE ((l.drop (4 * i)).take 4)))) s

/-- OP_STATUS: STATE, RESULT and OUT_LEN (R435). -/
def opStatus (r : Requester) (st res len : Nat) (s : State) : State := s.setKreg r 0x6C (W (st + 16 * res + 0x10000 * len))

/-- An operation of a requester ends: OP_STATUS, OP_OUT and KEY event bit 0 (R419, R420). -/
def opEnd (r : Requester) (res : Nat) (out : List Byte) (s : State) : State :=
  ((if res == 0 then (s.setOut r out).opStatus r 3 0 out.length else (s.setOut r []).opStatus r 3 res 0)).raise 6 0

/-- The first operation of the queue runs. -/
def opNext (s : State) : State :=
  match s.keyJobs with
  | [] => s
  | j :: _ => s.setKreg j.req 0x6C (setFld (s.kreg j.req 0x6C) 0 2 2)

end State

/-- Result codes of R420. -/
abbrev KeyRes := Nat

/-- The checks of a use of slot `i` (R417, R420, R421): LIVE, its type, its use bit, its users, its uses left. -/
def useCheck (s : State) (j : KeyJob) (i : Nat) (ecc : Option Bool) (use : Option Nat) : KeyRes :=
  let k := s.slot i
  if k.state == 2 then 5
  else if k.state != 1 || (match ecc with | some e => isEcc k.attr != e | none => false) then 2
  else if (match use with | some u => !bit k.attr u | none => false) || !bit k.attr (16 + reqIdx j.req) then 3
  else if bit k.attr 9 && k.useLeft == 0 then 4
  else if (s.keyOf i).isNone then 5
  else 0

namespace State

/-- An operation on a LIMITED slot starts: USE_LEFT falls, and KEY event bit 2 is raised as it reaches 0 (R417). -/
def useOne (i : Nat) (s : State) : State :=
  let k := s.slot i
  if bit k.attr 9 then
    let s := s.setSlot i { k with useLeft := k.useLeft - 1 }
    if k.useLeft == 1 then s.raise 6 2 else s
  else s

/-- The uses of a new slot: for a LIMITED one a free value, since no rule gives the first USE_LEFT (DESIGN CHOICE, log entry 15). -/
def firstUses (s : State) (attr : Word) : Nat := if bit attr 9 then fld s.freeW 0 16 else 0

end State

/-- The bits of ATTR that name fields (R417). -/
def attrMask : Word := 0x003F0F1F

/-- The target of GENERATE, DERIVE and IMPORT is EMPTY and its TYPE is known; slot 0 takes only a new identity, after a wipe, in SERVICE
(R415, R417, R429). -/
def targetCheck (s : State) (j : KeyJob) : KeyRes :=
  if (s.slot j.slot).state != 0 || 2 ≤ fld j.attr 10 2 then 2
  else if j.slot == 0 && !(j.op == 1 && s.mode == .service && j.attr &&& attrMask == 0x408) then 3
  else 0

/-- A result of an operation: code, output, and the state with its effect. -/
abbrev KeyOut := KeyRes × List Byte × State

/-- A new LIVE slot. -/
def liveSlot (origin depth parent : Nat) (attr : Word) (uses : Nat) (key label : List Byte) : KeySlot :=
  { state := 1, origin := origin, depth := depth, parent := parent, attr := attr, useLeft := uses, key := key, label := label }

/-- GENERATE (R415): the key is a free value. -/
def opGenerate (s : State) (j : KeyJob) : KeyOut :=
  let c := targetCheck s j
  if c != 0 then (c, [], s)
  else
    let attr := j.attr &&& attrMask
    (0, [], (s.setSlot j.slot (liveSlot 2 0 0 attr (s.firstUses attr) (s.freeBytes 32) [])).useFree)

/-- DERIVE (R416). -/
def opDerive (s : State) (j : KeyJob) : KeyOut :=
  let c := targetCheck s j
  if c != 0 then (c, [], s)
  else if isEcc j.attr then (2, [], s)
  else
    let root := j.aux == 63
    let c := if root then (if s.rootKey.isNone then 6 else 0) else useCheck s j j.aux (some false) (some 2)
    if c != 0 then (c, [], s)
    else if j.len == 0 || 32 < j.len then (7, [], s)
    else
      let depth := if root then 1 else (s.slot j.aux).depth + 1
      if 8 < depth then (9, [], s)
      else
        let attr := j.attr &&& attrMask
        let s := if root then s else s.useOne j.aux
        (0, [], (s.setSlot j.slot (liveSlot 1 depth (j.aux) attr (s.firstUses attr) [] (j.inp))).useFree)

/-- IMPORT (R419). -/
def opImport (s : State) (j : KeyJob) : KeyOut :=
  let c := targetCheck s j
  let attr := j.attr &&& attrMask
  let store := fun (s : State) (key : List Byte) =>
    (s.setSlot j.slot (liveSlot 3 0 0 attr (s.firstUses attr) key [])).useFree
  if c != 0 then (c, [], s)
  else if j.aux == 63 then
    if j.len == 32 then (0, [], store s j.inp) else (7, [], s)
  else
    let c := useCheck s j j.aux (some false) (some 4)
    if c != 0 then (c, [], s)
    else if j.len != 40 then (7, [], s)
    else
      match Crypto.keyUnwrap ((s.keyOf j.aux).getD []) j.inp with
      | some k => (0, [], store (s.useOne j.aux) k)
      | none => (8, [], s)

/-- FREE (R419, R420). -/
def opFree (s : State) (j : KeyJob) : KeyOut :=
  let k := s.slot j.slot
  if k.state == 0 then (2, [], s)
  else if !bit k.attr (16 + reqIdx j.req) then (3, [], s)
  else if k.state == 1 && (List.range 64).any (fun i => (s.slot i).state == 1 && s.descends j.slot 9 i) then (12, [], s)
  else (0, [], s.setSlot j.slot KeySlot.init)

/-- GCM encrypt and decrypt (R419). AAD_LEN is little-endian, and on decrypt the tag follows the ciphertext (DEDUCED, log entry 16). -/
def opGcm (s : State) (j : KeyJob) (enc : Bool) : KeyOut :=
  let c := useCheck s j j.slot (some false) (some 0)
  let aadLen := leAt j.inp 12 2
  let iv := j.inp.take 12
  let aad := (j.inp.drop 14).take aadLen
  let data := j.inp.drop (14 + aadLen)
  let key := (s.keyOf j.slot).getD []
  if c != 0 then (c, [], s)
  else if 1024 < j.len || j.len < 14 + aadLen + (if enc then 0 else 16) || (enc && 1024 < data.length + 16) then (7, [], s)
  else if enc then
    let (ct, tag) := Crypto.gcm key iv aad data
    (0, ct ++ tag, s.useOne j.slot)
  else
    match Crypto.gcmOpen key iv aad (data.take (data.length - 16)) (data.drop (data.length - 16)) with
    | some pt => (0, pt, s.useOne j.slot)
    | none => (8, [], s.useOne j.slot)

/-- HMAC and HMAC verify (R419). -/
def opHmac (s : State) (j : KeyJob) (verify : Bool) : KeyOut :=
  let c := useCheck s j j.slot (some false) (some 1)
  let key := (s.keyOf j.slot).getD []
  if c != 0 then (c, [], s)
  else if 1024 < j.len || (verify && j.len < 32) then (7, [], s)
  else if verify then
    if Crypto.hmac key (j.inp.take (j.len - 32)) = j.inp.drop (j.len - 32) then (0, [], s.useOne j.slot)
    else (8, [], s.useOne j.slot)
  else (0, Crypto.hmac key j.inp, s.useOne j.slot)

/-- ECDSA sign (R419): the nonce is a free value. -/
def opSign (s : State) (j : KeyJob) : KeyOut :=
  let c := useCheck s j j.slot (some true) (some 3)
  if c != 0 then (c, [], s)
  else if j.len != 32 then (7, [], s)
  else (0, Crypto.ecSign (ofBE ((s.keyOf j.slot).getD [])) j.inp (ofBE (s.freeBytes 32)), (s.useOne j.slot).useFree)

/-- ECDSA verify (R419). -/
def opVerify (s : State) (j : KeyJob) : KeyOut :=
  if j.len != 160 then (7, [], s)
  else if Crypto.ecVerify (j.inp.take 64) ((j.inp.drop 64).take 32) (j.inp.drop 96) then (0, [], s)
  else (8, [], s)

/-- PUBKEY (R419). -/
def opPubkey (s : State) (j : KeyJob) : KeyOut :=
  let c := useCheck s j j.slot (some true) none
  if c != 0 then (c, [], s) else (0, Crypto.ecPublic (ofBE ((s.keyOf j.slot).getD [])), s.useOne j.slot)

/-- The labels of a chain from the root down, each after its length (R425). -/
def lineage (s : State) : Nat → Nat → List Byte
  | 0, _ => []
  | n + 1, i =>
    let k := s.slot i
    if k.origin != 1 then []
    else (if k.parent == 63 then [] else lineage s n k.parent) ++ BitVec.ofNat 8 k.label.length :: k.label

/-- The signed part of an attestation statement (R425). -/
def attestBody (s : State) (i : Nat) (nonce : List Byte) : List Byte :=
  let k := s.slot i
  let key := (s.keyOf i).getD []
  [0x4D, 0x41, 0x54, 0x31, BitVec.ofNat 8 i, BitVec.ofNat 8 (k.origin + 16 * k.depth), 0, 0] ++
  leBytes 4 k.attr.toNat ++ leBytes 4 k.useLeft ++
  leBytes 4 (s.rd Reg.MISC.SERIAL_HI).toNat ++ leBytes 4 (s.rd Reg.MISC.SERIAL_LO).toNat ++
  leBytes 4 (s.rd Reg.FUSE.LIFECYCLE).toNat ++ leBytes 4 0 ++ nonce ++
  (if isEcc k.attr then Crypto.ecPublic (ofBE key) else fitBytes 64 ((Crypto.hmac key [0x4B, 0x49, 0x44]).take 8)) ++
  (if k.depth == 0 then List.replicate 32 0 else Crypto.sha256 (lineage s 9 i))

/-- ATTEST (R425, R429). -/
def opAttest (s : State) (j : KeyJob) : KeyOut :=
  if (s.slot 0).state != 1 then (10, [], s)
  else
    let c := useCheck s j j.slot none none
    if c != 0 then (c, [], s)
    else if j.len != 32 then (7, [], s)
    else
      let body := attestBody s j.slot j.inp
      (0, body ++ Crypto.ecSign (ofBE ((s.keyOf 0).getD [])) (Crypto.sha256 body) (ofBE (s.freeBytes 32)), (s.useOne j.slot).useFree)

/-- RANDOM (R419): free bytes. -/
def opRandom (s : State) (j : KeyJob) : KeyOut :=
  if j.len == 0 || 1024 < j.len then (7, [], s) else (0, s.freeBytes j.len, s.useFree)

/-- An operation as the table of R419 gives it. -/
def keyOp (s : State) (j : KeyJob) : KeyOut :=
  if j.op == 1 then opGenerate s j
  else if j.op == 2 then opDerive s j
  else if j.op == 3 then opImport s j
  else if j.op == 5 then opFree s j
  else if j.op == 0x10 then opGcm s j true
  else if j.op == 0x11 then opGcm s j false
  else if j.op == 0x12 then opHmac s j false
  else if j.op == 0x13 then opHmac s j true
  else if j.op == 0x14 then (if 1024 < j.len then (7, [], s) else (0, Crypto.sha256 j.inp, s))
  else if j.op == 0x15 then opSign s j
  else if j.op == 0x16 then opVerify s j
  else if j.op == 0x17 then opPubkey s j
  else if j.op == 0x18 then opAttest s j
  else if j.op == 0x19 then opRandom s j
  else (1, [], s)

namespace State

/-- The slots whose keys an operation uses (R419): its SLOT, and the parent or wrapping slot that AUX names. -/
def jobSlots (j : KeyJob) : List Nat :=
  if j.op == 2 || j.op == 3 then (if j.aux == 63 then [] else [j.aux])
  else if j.op == 5 || (0x10 ≤ j.op && j.op ≤ 0x13) || j.op == 0x15 || j.op == 0x17 || j.op == 0x18 then [j.slot]
  else []

/-- REVOKE of a LIVE slot: the slot and its descendants are REVOKED in one step, KEY event bit 1 is raised, and a running operation on
any of them ends with KEY_REVOKED (R421). It does not wait for the operation that runs (DESIGN CHOICE, log entry 17). -/
def revoke (r : Requester) (i : Nat) (s : State) : State :=
  let k := s.slot i
  if k.state == 2 then s.opEnd r 5 []
  else if k.state != 1 then s.opEnd r 2 []
  else if !bit k.attr (16 + reqIdx r) then s.opEnd r 3 []
  else
    let set := s.revokeSet i
    let s := set.foldl (fun a j => a.setSlot j { a.slot j with state := 2 }) s
    let s := s.raise 6 1
    let s := match s.keyJobs with
      | j :: t =>
        if (jobSlots j).any set.contains then
          ({ s with keyJobs := t }.opEnd j.req 5 []).opNext
        else s
      | [] => s
    s.opEnd r 0 []

/-- OP_CMD is written (R419): refused with BUSY while the requester's operation waits or runs, with TAMPER while locked; REVOKE acts at
once; the rest are queued. A KEY block that is not READY takes no command. -/
def keyCommand (r : Requester) (op slot aux : Nat) (s : State) : State :=
  if s.keyLocked then s.opEnd r 6 []
  else if s.code 6 != 2 && s.code 6 != 6 then s
  else if s.keyJobs.any (fun j => j.req == r) then s.setKreg r 0x6C (setFld (s.kreg r 0x6C) 4 8 11)
  else if op == 4 then s.revoke r slot
  else
    let len := fld (s.kreg r 0x64) 0 11
    let j : KeyJob := { req := r, op := op, slot := slot, aux := aux, len := len, attr := s.kreg r 0x68, inp := s.opIn r len }
    ({ s with keyJobs := s.keyJobs ++ [j] }.opStatus r (if s.keyJobs.isEmpty then 2 else 1) 0 0)

/-- The running operation completes and the next starts (R419, R420). -/
def keyDone (s : State) : State :=
  match s.keyJobs with
  | [] => s
  | j :: t =>
    let (c, out, s') := keyOp s j
    ({ s' with keyJobs := t }.opEnd j.req c out).opNext

/-- Key RAM and every slot are zeroised: every operation that runs or waits ends with TAMPER, KEY locks and goes to FAULT, and the
wrapped secrets are erased now or at the next start if TAMP_WIPE is burned (R428, R429). -/
def zeroise (s : State) : State :=
  let jobs := s.keyJobs
  let s := { s with slots := Sparse.set slotFactory [] 0 KeySlot.init, keyJobs := [] }
  let s := (s.wrBit Reg.KEY.STATUS 1 true).setCode 6 7
  let s := jobs.foldl (fun a j => a.opEnd j.req 6 []) s
  let s := s.raise 6 3
  if bit (s.rd Reg.FUSE.LIFECYCLE) 1 then
    if s.dom 1 == 2 then { s with slotsMram := Sparse.set slotFactory [] 0 KeySlot.init }.wr Reg.KEY.CERT_LEN 0
    else { s with wipePend := true }
  else s

end State

end Sys2Proof.Machine
end

