-- ==== Sys2Proof/Machine/TimeBase.lean ====
section
/-!
DEFINITION. The calendar of the RTC (R397, R398), and the values that the time bases take at a module reset and at a wake (R120).
-/
namespace Sys2Proof.Machine

/-- A leap year of the Gregorian calendar (R397). -/
def isLeap (y : Nat) : Bool := y % 4 == 0 && (y % 100 != 0 || y % 400 == 0)

/-- The length of a month (R397). -/
def monthLen (y m : Nat) : Nat :=
  if m == 2 then (if isLeap y then 29 else 28) else if m == 4 || m == 6 || m == 9 || m == 11 then 30 else 31

/-- Days from 2000-01-01 to a date from 2000 on. -/
def dayNumber (y m d : Nat) : Nat :=
  let y' := (if m ≤ 2 then y - 1 else y) - 1600
  365 * y' + y' / 4 - y' / 100 + y' / 400 + (153 * ((m + 9) % 12) + 2) / 5 + d - 1 - 146037

/-- The date that is `n` days after 2000-01-01: year, month, day. -/
def dateOf (n : Nat) : Nat × Nat × Nat :=
  let z := n + 146037
  let e := z / 146097
  let r := z % 146097
  let yoe := (r - r / 1460 + r / 36524 - r / 146096) / 365
  let doy := r - (365 * yoe + yoe / 4 - yoe / 100)
  let mp := (5 * doy + 2) / 153
  let m := if mp < 10 then mp + 3 else mp - 9
  (1600 + 400 * e + yoe + (if m ≤ 2 then 1 else 0), m, doy - (153 * mp + 2) / 5 + 1)

/-- Units of 1/32,768 s in the 400 years of the calendar (R398). -/
def rtcEnd : Nat := 12622780800 * 32768

/-- The TIME register of a second count (R412); WEEKDAY 0 is Monday, and 2000-01-01 was a Saturday. -/
def timeWord (sec : Nat) : Word :=
  W (sec % 60 + 0x100 * (sec / 60 % 60) + 0x10000 * (sec / 3600 % 24) + 0x1000000 * ((sec / 86400 + 5) % 7))

/-- The DATE register of a second count (R412). -/
def dateWord (sec : Nat) : Word :=
  let d := dateOf (sec / 86400)
  W (d.2.2 + 0x100 * d.2.1 + 0x10000 * d.1)

/-- The second count that a time and a date word give, if they are possible under R402. -/
def wordsToSec (t d : Word) : Option Nat :=
  let sec := fld t 0 6
  let min := fld t 8 6
  let hour := fld t 16 5
  let day := fld d 0 5
  let month := fld d 8 4
  let year := fld d 16 12
  if sec ≤ 59 && min ≤ 59 && hour ≤ 23 && 1 ≤ month && month ≤ 12 && 2000 ≤ year && year ≤ 2399 && 1 ≤ day && day ≤ monthLen year month
  then some (dayNumber year month day * 86400 + hour * 3600 + min * 60 + sec)
  else none

namespace State

/-- The time bases start from the RTC at a module reset and at a wake (R120): TB2 first, the others at their held offsets from it. INCR keeps its value, which a module
reset has made nominal (R109). A follower too starts at its held offset, and is not stepped to its leader plus FOLLOW_OFFSET until R119 asks for it (DEDUCED, log entry
104). -/
def tbRestart (s : State) : State :=
  [2, 0, 1, 3].foldl (fun a n =>
    (a.setTb n { a.tbSeed n with snapTo := false, measured := false, pull := false, good := 0, bad := 0,
                                 freq := mkRat (((a.tb n).incr : Int) - 0x200000000) 0x200000000 }).setLock n (a.tbLockInit n)) s

end State

end Sys2Proof.Machine
end

