-- ==== Sys2Proof/Machine/Start.lean ====
section
/-!
DEFINITION. The modes: entering each, forced transitions, the start of the module from COLD or by a reset, the wake sources, and the
check of the safe look that a start and an entry to HOLD make (R46-R56, R62, R414, R428-R431, R434, R444, R445, R454, R462, R486,
R487).
-/
namespace Sys2Proof.Machine

/-- A stop or a start of the module ends a load, a commit that is not durable, and a pause (R446). A pause of an activation counts as a trial, which the next start
reverts; that of a revert leaves the trial to it. -/
def Upd.cut (u : Upd) : Upd :=
  let v := { u with load := none, pause := none, port := none, committing := false }
  match u.pause with
  | some (i, false) => { v with trial := some i, activeB := u.activeB ^^^ 2 ^ i }
  | _ => v

/-- The value of a mode in SYS.MODE (R46). -/
def modeCode : Mode → Nat
  | .cold => 0 | .bringup => 1 | .show_ => 2 | .fleet => 3 | .grow => 4 | .doze => 5 | .service => 6 | .hold => 7

/-- The mode of a value; none for 0x8 to 0xF. -/
def modeOf (n : Nat) : Option Mode :=
  if n == 0 then some .cold else if n == 1 then some .bringup else if n == 2 then some .show_
  else if n == 3 then some .fleet else if n == 4 then some .grow else if n == 5 then some .doze
  else if n == 6 then some .service else if n == 7 then some .hold else none

/-- SHOW, FLEET and GROW. -/
def modeLive (m : Mode) : Bool := m == .show_ || m == .fleet || m == .grow

namespace State

/-- HOLD_CAUSE (R69): 1 COMMAND, 2 TAMPER, 3 BOOT_VERIFY, 4 DRAM_FAIL, 5 SC_DOUBLE, 6 CLOCK, 7 SUPPLY. -/
def holdCause (s : State) : Nat := fld (s.rd Reg.SYS.MODE_STATUS) 16 8

/-- The bytes that a safe-look tag covers: 416 levels and SAFE_SEQ, little-endian (R430). -/
def safeBytes (r : SafeRec) : List Byte :=
  ((List.range 416).map (fun i => leBytes 2 (Sparse.get (fun _ => 0) r.levels i))).flatten ++ leBytes 4 r.seq.toNat

/-- The SHA-256 of a sealed record and its tag (R430). -/
def safeDigest (r : SafeRec) : List Byte := Crypto.sha256 (safeBytes r ++ r.tag)

/-- A sealed safe look verifies: by its HMAC while the key store is usable, by its pinned digest while it is locked (R431). -/
def safeOk (s : State) (r : SafeRec) : Bool :=
  if s.keyLocked then safeDigest r == s.safePin
  else
    match s.rootDerived [0x53, 0x41, 0x46, 0x45] with
    | some k => Crypto.hmac k (safeBytes r) == r.tag
    | none => false

/-- SC checks the safe look and reports it in SAFE_STATUS.STATE; `repin` at a BRINGUP (R431). -/
def checkSafe (repin : Bool) (s : State) : State :=
  match s.safe with
  | none => s.wrFld Reg.TAMP.SAFE_STATUS 0 2 0
  | some r =>
    if s.safeOk r then
      let s := s.wrFld Reg.TAMP.SAFE_STATUS 0 2 1
      if repin && !s.keyLocked then { s with safePin := safeDigest r }.wrBit Reg.TAMP.SAFE_STATUS 4 true else s
    else (s.wrFld Reg.TAMP.SAFE_STATUS 0 2 2).raise 7 2

/-- A seal in progress is abandoned: the previous record stays in force (R430). -/
def abandonSeal (s : State) : State :=
  if s.sealing.isSome then { s with sealing := none }.wrFld Reg.TAMP.SAFE_STATUS 0 2 (b2n s.safe.isSome) else s

/-- A full test that runs is aborted: RESULT ABORTED, and the block re-initialises (R453, R454). -/
def abortTest (s : State) : State :=
  if fld (s.rd Reg.BIST.STATUS) 0 2 == 1 then
    let pg := fld (s.rd Reg.BIST.STATUS) 8 8
    let s := ((s.wrFld Reg.BIST.STATUS 0 2 2).wrFld Reg.BIST.STATUS 16 8 6).wrFld (Reg.BIST.LAST pg) 0 8 6
    if s.code pg == 4 then
      let s := s.loadReset pg
      if (s.blk pg).enable then s.enterStarting pg else s.offBlock pg
    else s
  else s

/-- A requested transition in progress is abandoned by a forced one: RESULT 2 with the cause PREEMPTED (R51). It was accepted, so EV001, "mode request refused", is not
raised (DESIGN CHOICE, log entry 98). -/
def preempt (s : State) : State :=
  if fld (s.rd Reg.SYS.MODE_STATUS) 4 2 == 3 then
    { s with trans := none }.wr Reg.SYS.MODE_STATUS (setFld (setFld (s.rd Reg.SYS.MODE_STATUS) 4 2 2) 8 8 8)
  else { s with trans := none }

/-- The pages whose HOLD SC set at SERVICE entry are released (R48). -/
def leaveService (s : State) : State :=
  let l := s.svcHeld
  l.foldl (fun a pg => a.setHold pg false) { s with svcHeld := [] }

/-- SERVICE entry: CTL.HOLD is set in every output port that does not hold it already (R48). -/
def enterService (s : State) : State :=
  let l := portPages.filter (fun pg => !(s.blk pg).hold)
  l.foldl (fun a pg => a.setHold pg true) { s with svcHeld := l }

/-- The actuators take their SAFE states (R306). -/
def actSafe (s : State) : State :=
  (List.range 4).foldl (fun a m => a.wrFld Reg.SIO.ACT_STATUS (4 * m) 1
    (if fld (a.rd Reg.SIO.ACT_STATUS) (4 * m + 1) 3 == 0 then fld (a.rd (Reg.SIO.ACT_CTL m)) 1 1 else 0)) s

/-- The mode changes (R49, R64, R67): EV000, and EV004 on entry to HOLD. Leaving SERVICE releases its holds; entering SERVICE sets
them; entering HOLD checks the safe look and takes the actuators to SAFE (R47, R48, R306, R431). -/
def setMode (m : Mode) (s : State) : State :=
  let s := if s.mode == .service && m != .service then s.leaveService else s
  let old := s.mode
  let s := { s with mode := m, prevMode := if old == m then s.prevMode else old, trans := none }.auxUpdate
  let s := if m == .hold then s else s.wrFld Reg.SYS.MODE_STATUS 16 8 0
  let s := if old == m then s else s.raise 0 0
  let s := if m == .service then s.enterService else s
  if m == .hold then (s.checkSafe false).actSafe.raise 0 4 else s

/-- A forced transition to HOLD (R49, R51): tests and calibrations are aborted; in HOLD only the cause changes, and never from
TAMPER. -/
def forceHold (cause : Nat) (s : State) : State :=
  let s := s.preempt.abortTest.abortCal
  if s.mode == .hold then
    if s.holdCause == 2 then s else s.wrFld Reg.SYS.MODE_STATUS 16 8 cause
  else (s.wrFld Reg.SYS.MODE_STATUS 16 8 cause).setMode .hold

/-- Every block of a domain goes OFF and the domain is switched off (R41, R46). -/
def stopDomain (d : Nat) (s : State) : State :=
  ((domainPages d).foldl (fun a pg => a.offBlock pg) s).setDom d 0

/-- The ports that SC disabled for DOZE are enabled as they were (R54; DEDUCED, log entry 57). -/
def dozeEnables (s : State) : State :=
  let l := s.dozeOff
  l.foldl (fun a pg => a.updBlk pg (fun b => { b with enable := true })) { s with dozeOff := [] }

/-- Entry to COLD (R46, R49): every domain but AON stops, with the HF oscillator and the PLLs; PP, FP and RP are off. A burn, load or
seal that runs ends, and a commit whose record is not durable is not made (R36, R430, R446). -/
def enterCold (s : State) : State :=
  let s := s.preempt.abortTest.abortCal.abandonSeal
  let s := [2, 3, 4, 1].foldl (fun a d => a.stopDomain d) s
  let s := s.wr Reg.PWR.CLK_STATE (s.rd Reg.PWR.CLK_STATE &&& 2)
  let s := ((s.setProc 1 0).setProc 2 0).setProc 3 0
  let s := s.dozeEnables
  { s with starting := false, ev2Wait := false, startWait := none, windows := [], hostWait := [],
           upd := s.upd.cut }.setMode .cold

/-- A header at a module reset that reaches its domain: every field at reset, ENABLE as last made durable (R81). -/
def moduleResetBlock (pg : Nat) (s : State) : State :=
  let s := ((s.leaveInner pg).resetHeader pg |>.loadRegs pg).clearInner pg |>.latchRegs pg
  if (s.blk pg).enable then s.enterStarting pg else s.offBlock pg

/-- A module reset outside the blocks: the committed plan is read back into both banks (R183), a swap in progress is gone, and so is what SC, PP and
FP held in RAM. -/
def resetInner (s : State) : State :=
  { s with planOld := none, ptc := 0, ptc1 := 0, entered := [], flipped := [], tileQ := [], portQ := [], mapSh := s.plan.map, zoneSh := s.plan.zone, profSh := s.plan.prof, faultWait := [], snapPend := false,
           ppsOut := false, capArm := [], refEdges := [], ptpA := PtpInst.init, ptpB := PtpInst.init,
           fpWait := [] }

/-- A trial ends at a module reset: the previous slot boots (R444). -/
def revertTrial (s : State) : State :=
  match s.upd.trial with
  | some i =>
    { s with upd := { s.upd with
        trial := none
        activeB := s.upd.activeB ^^^ 2 ^ i
        reverts := Sparse.upd (fun _ => 0) s.upd.reverts i (fun n => (n + 1) % 65536) } }.wrFld Reg.UPD.TRIAL_LEFT 0 16 0
  | none => s

/-- The active slot of an image, as 2 x image + slot. -/
def activeSlot (s : State) (i : Nat) : Nat := 2 * i + b2n (s.upd.activeB.testBit i)

/-- A slot of an image. -/
def imgSlot (s : State) (k : Nat) : ImgSlot := Sparse.get imgFactory s.upd.slots k

/-- The anti-rollback counter of an image. -/
def arbOf (s : State) (i : Nat) : Nat := Sparse.get (fun _ => 0) s.upd.arb i

/-- A slot passes R439 at boot: valid, not found damaged, and its SEC_VERSION at least the counter. -/
def bootable (s : State) (bad : List Nat) (k : Nat) : Bool :=
  (s.imgSlot k).valid && !bad.contains k && s.arbOf (k / 2) ≤ (s.imgSlot k).sec

/-- The first image and peer of a set of active slots whose generations conflict (R442). -/
def genConflict (s : State) (slotOf : Nat → Nat) : Option (Nat × Nat) :=
  (List.range 5).findSome? (fun x =>
    (List.range 5).findSome? (fun y =>
      let l := (s.imgSlot (slotOf x)).lims.getD y (0, 0)
      let g := (s.imgSlot (slotOf y)).gen
      if x != y && (g < l.1 || l.2 < g) then some (x, y) else none))

end State

/-- Image codes (R438). -/
def imgIdx : Image → Nat
  | .sc => 0 | .pp => 1 | .fp => 2 | .rp => 3 | .lnk => 4

namespace State

/-- SC verifies the images (R434, R445): an image whose active slot fails boots from the other slot if that passes, with UPD event bit
2. Whether the whole boot passes. -/
def bootImages (bad : List Nat) (s : State) : State × Bool :=
  let s := (List.range 5).foldl (fun a i =>
    if !a.bootable bad (a.activeSlot i) && a.bootable bad (2 * i + b2n (!a.upd.activeB.testBit i)) then
      { a with upd := { a.upd with activeB := a.upd.activeB ^^^ 2 ^ i } }.raise 8 2
    else a) s
  (s, (List.range 5).all (fun i => s.bootable bad (s.activeSlot i)) && (s.genConflict s.activeSlot).isNone)

/-- The durable configuration of the blocks, with the input entries of UNI, for a start (R53, R177): with BOOT_SEL 1, 0 it is set aside and factory values are used; a
start without it brings back what is still set aside. -/
def bootConfig (sel0 sel1 : Bool) (s : State) : State :=
  let s := s.cfgSaved.foldl (fun a e => a.wr e.1 e.2) { s with cfgSaved := [] }
  let s := s.enSaved.foldl (fun a pg => a.updBlk pg (fun b => { b with enable := false })) { s with enSaved := [] }
  let s := { s with uniSaved := [], uniIn := s.uniSaved.foldl (fun m e => Sparse.set (fun _ => 0) m e.1 e.2) s.uniIn }
  if sel1 && !sel0 then
    let off := allPages.filter (fun pg => !(s.blk pg).enable)
    let s' := { s with cfgSaved := s.regs.filter (fun e => durableReg e.1), enSaved := off, uniSaved := s.uniIn, uniIn := [],
                       regs := s.regs.filter (fun e => !durableReg e.1) }
    off.foldl (fun a pg => a.updBlk pg (fun b => { b with enable := true })) s'
  else s

/-- Enabled tamper sources: EN, all of them with TAMP_FORCE burned, and SHIELD (R426, R427). -/
def tamperEnabled (s : State) : Nat :=
  (if bit (s.rd Reg.FUSE.LIFECYCLE) 2 then 63 else fld (s.rd Reg.TAMP.CFG) 0 6) + 64

/-- Enabled active sources latch (R426): LATCH, FIRST, FIRST_TIME, TAMP event bit 0. -/
def latchTamper (active : Nat) (s : State) : State :=
  let hit := active &&& s.tamperEnabled
  let s := s.wr Reg.TAMP.NOW (W active)
  if hit == 0 then s
  else
    let s := s.wr Reg.TAMP.LATCH (s.rd Reg.TAMP.LATCH ||| W hit)
    let s :=
      if bit (s.rd Reg.TAMP.FIRST) 7 then s
      else
        let low := (bitsOf hit 7).headD 0
        (s.wr Reg.TAMP.FIRST (W (low + 128))).wr Reg.TAMP.FIRST_TIME (s.rd Reg.RTC.SECONDS_LO)
    s.raise 7 0

/-- SC starts no other image: PP, FP and RP halt, and the port ends, which need the LNK image, stay stopped (R434, R487; DEDUCED for a start that fails without a tamper,
log entry 97). -/
def noImages (s : State) : State :=
  let s := ((s.setProc 1 4).setProc 2 4).setProc 3 4
  (allPages.filter (fun pg => 32 ≤ pg && pg < 64)).foldl (fun a pg => a.offBlock pg) s

/-- The causes of a start (R62): those that led to it or waited for it, and what the module's own record adds. -/
def startCauses (causes : Nat) (reverting latched : Bool) (s : State) : Nat :=
  causes ||| s.causeWait ||| (if s.coldThermal then 16 else 0) ||| (if s.coldCmd then 32 else 0) ||| (if reverting then 64 else 0) |||
    (if latched then 128 else 0)

/-- The domains, clocks, blocks and processors of a start (R49, R53, R57, R81, R486): every page outside AON is reset and starts, AON pages that were OFF start, KEY
apart. -/
def startBlocks (i : StartInfo) (s : State) : State :=
  let s := s.bootConfig i.sel0 i.sel1
  let s := s.dozeEnables
  let s := [1, 2, 3, 4].foldl (fun a d => a.setDom d 2) s
  let s := (allPages.filter (fun pg => pageDomain pg != 0)).foldl (fun a pg => a.moduleResetBlock pg) s
  let s := s.resetInner.tbRestart
  let s := ((domainPages 0).filter (fun pg => pg != 6 && s.code pg == 0 && (s.blk pg).enable)).foldl (fun a pg => a.enterStarting pg) s
  (((s.setProc 0 2).setProc 1 1).setProc 2 1).setProc 3 1

/-- A fuse is burned, or its burn has not held (R432, R433, R437, R457): a copy that does not verify is used up. -/
def burnApply (b : Burn) (ok : Bool) (s : State) : State :=
  let f := Sparse.get (fun _ => FuseRow.init) s.fuseRows b.row
  if b.kind == 0 then
    let g : FuseRow := if ok then { copies := f.copies + 1, valid := true, row := b.stage } else { f with copies := f.copies + 1 }
    { s with fuseRows := Sparse.set (fun _ => FuseRow.init) s.fuseRows b.row g }
  else if !ok then s
  else if b.kind == 1 then s.wr Reg.FUSE.LIFECYCLE (s.rd Reg.FUSE.LIFECYCLE ||| 0x19)
  else if b.kind ≤ 5 then s.wrBit Reg.FUSE.LIFECYCLE (b.kind - 1) true
  else s.wr Reg.BIST.FUSE_LEFT (W (fld (s.rd Reg.BIST.FUSE_LEFT) 0 16 - 1))

/-- A burn that ran as the module stopped has left its fuse burned or unburned: which is free (R433; DESIGN CHOICE, log entry 20). -/
def burnCut (s : State) : State :=
  match s.burn with
  | none => s
  | some b =>
    let s' := { s.useFree with burn := none }
    if bit s.freeW 0 then s'.burnApply b true else s'

/-- Repair and lane BIST at power-up (R186, R456). -/
def startRepairs (i : StartInfo) (s : State) : State :=
  let s := s.wr Reg.BIST.REPAIR (W (i.softRepairs % 4096 + 0x10000 * (i.unrepaired.length % 4096)))
  let s := if i.softRepairs != 0 then s.raise 9 2 else s
  let s := (i.unrepaired.map (fun p => p.val)).foldl (fun a pg => if populated pg then a.faultBlock pg else a) s
  let s := (s.wr Reg.LANE.SPARE_MAP 0xFFFFFFFF).wr Reg.LANE.ACTIVE 0
  (List.range 3).foldl (fun a k => a.wr (Reg.LANE.FAILED k)
      (W ((i.laneFails.filter (fun l => l.val / 32 == k)).foldl (fun m l => m ||| 2 ^ (l.val % 32)) 0))) s

/-- Calibration sets whose CHECK fails at the start are treated as absent; one that is lost raises CAL event bit 1 once the blocks start (R459). -/
def lostSets (s : State) (l : List (Fin 3 × Fin 4 × Fin 16)) : List Nat :=
  (l.map (fun e => 0x1000 * e.1.val + 0x10 * e.2.1.val + e.2.2.val)).filter (fun k => !(Sparse.get (fun _ => []) s.cal k).isEmpty)

def dropSets (l : List (Fin 3 × Fin 4 × Fin 16)) (s : State) : State :=
  { s with cal := (s.lostSets l).foldl (fun c k => Sparse.set (fun _ => []) c k []) s.cal }

/-- The start of the module (R49, R62, R414, R434, R444, R445, R486, R487): `causes` are bits of RESET_CAUSE. Domains and clocks start,
every page outside AON is reset and starts, AON pages that were OFF start, KEY reconstructs its root, the images are verified, and with them running the journal is replayed.
The mode is BRINGUP, from which a failure leads to HOLD (BOOT_VERIFY); with the tamper latch set it is HOLD (TAMPER), whatever fails. -/
def startModule (causes : Nat) (i : StartInfo) (s : State) : State :=
  let s := s.latchTamper i.tamper.toNat
  let latched := s.rd Reg.TAMP.LATCH != 0
  -- wrapped secrets are erased first (R429), ephemeral slots are gone (R417)
  let s := if s.wipePend then
      { s with wipePend := false, slotsMram := Sparse.set slotFactory [] 0 KeySlot.init }.wr Reg.KEY.CERT_LEN 0
    else s
  let s := { s with keyJobs := [], slots := if latched then Sparse.set slotFactory [] 0 KeySlot.init else s.slotsMram }
  let s := { s with upd := s.upd.cut }
  let reverting := s.upd.trial.isSome
  let s := s.preempt.abortTest.abortCal.abandonSeal.burnCut.revertTrial
  let s := if s.porStart then s else s.wr Reg.SYS.RESET_CAUSE (s.rd Reg.SYS.RESET_CAUSE ||| W (s.startCauses causes reverting latched))
  let s := s.wr Reg.SYS.BOOT_SEL (W (b2n i.sel0 + 2 * b2n i.sel1))
  let s := { s with porStart := false, startWait := none, causeWait := 0, coldCmd := false, coldThermal := false, starting := true, ev2Wait := false, dramOk := false,
                    windows := [], hostWait := [], svcHeld := [], planAsked := false, scReset := none, burnArmed := false }
  let s := (s.wr Reg.SYS.UPTIME 0).wr Reg.PWR.CLK_STATE (s.rd Reg.PWR.CLK_STATE &&& 2 ||| 1)
  -- the images, and with them the journal
  let boot := s.bootImages (i.badSlots.map (fun e => 2 * imgIdx e.1 + b2n e.2))
  let rootOk := i.rootOk && !latched
  let ok := boot.2 && i.arbOk && (latched || i.rootOk)
  let s := if ok then boot.1.replay i.journalBad else if latched || i.rootOk then boot.1 else s
  let lost := !(s.lostSets i.calBad).isEmpty
  let s := (s.dropSets i.calBad).startBlocks i
  let s := if lost then s.raise 10 1 else s
  let s := s.wr Reg.KEY.STATUS (W (b2n rootOk + 2 * b2n latched))
  let s := s.startRepairs i
  let s := if reverting then s.raise 8 2 else s
  let s := if rootOk then s.enterStarting 6 else s.setCode 6 7
  let s := if ok then s else s.noImages
  if latched then
    if s.mode == .hold then s.wrFld Reg.SYS.MODE_STATUS 16 8 2 else (s.wrFld Reg.SYS.MODE_STATUS 16 8 2).setMode .hold
  else
    let s := (s.setMode .bringup).checkSafe true
    if ok then s else (s.wrFld Reg.SYS.MODE_STATUS 16 8 3).setMode .hold

/-- A start in which nothing is found wrong, with the lands as they were sampled last: the start of a wake from COLD (DESIGN CHOICE, log entry 18). -/
def goodStart (s : State) : StartInfo :=
  { sel0 := bit (s.rd Reg.SYS.BOOT_SEL) 0, sel1 := bit (s.rd Reg.SYS.BOOT_SEL) 1, rootOk := true, badSlots := [], arbOk := true,
    journalBad := none, laneFails := [], softRepairs := 0, unrepaired := [], calBad := [], tamper := 0 }

/-- A wake source of R54 occurs: if it is enabled it wakes the module from DOZE, is latched while DOZE is being entered, and, for the RTC
sources, starts the module from a COLD that was entered by command (R49, R51, R54). -/
def wakeSource (src : Nat) (s : State) : State :=
  if !bit (s.rd Reg.SYS.WAKE_EN) src then s
  else if s.mode == .doze || s.trans == some .doze then s.wakeDoze (some src)
  else if s.mode == .cold && s.coldCmd && s.mainsOn && src < 3 then
    (s.wrBit Reg.SYS.WAKE_CAUSE src true).startModule 0 s.goodStart
  else s

/-- A forced transition to HOLD from any mode but COLD (R49, R51): in DOZE the wake begins with MODE at HOLD. -/
def holdFrom (cause : Nat) (s : State) : State :=
  if s.mode == .cold then s
  else if s.mode == .doze then
    let s := s.wakeDoze none
    { (s.wrFld Reg.SYS.MODE_STATUS 16 8 cause).setMode .hold with trans := some .hold }
  else s.forceHold cause

/-- The response to a latched tamper (R428, R430, R446, R487): key RAM is zeroised, a seal is abandoned, and the module goes to HOLD
(TAMPER) from every mode but a COLD without mains. In DOZE the wake begins with MODE at HOLD. -/
def tamperResponse (s : State) : State :=
  let s := s.zeroise.abandonSeal
  if s.mode == .cold then (if s.mainsOn then s.startModule 0 s.goodStart else s)
  else s.holdFrom 2

/-- Tamper sources are seen active (R426, R428): new latches get the response once; with nothing active and the latch set, TAMP event
bit 3 is raised. -/
def tamperSeen (active : Nat) (s : State) : State :=
  let was := s.rd Reg.TAMP.LATCH
  let before := s.rd Reg.TAMP.NOW
  let s := s.latchTamper active
  if was == 0 && s.rd Reg.TAMP.LATCH != 0 then s.tamperResponse
  else if was != 0 && active == 0 && before != 0 then s.raise 7 3
  else s

end State

end Sys2Proof.Machine
end

