-- ==== Sys2Proof/Machine/Modes.lean ====
section
/-!
DEFINITION. Power-on, mains, resets, mode requests, die temperature, clocks, rails and the PCIe link (R42-R63, R101, R466, R467, R479,
R485). MODE_TRANSITION_DONE stands in Window.lean, because the host requests that waited for a wake follow it.
-/
namespace Sys2Proof.Machine

namespace State

/-- An AON power-on (R43, R49, R62): everything takes its reset value but what fuses, flash and MRAM hold. -/
def aonReset (s : State) : State :=
  let s := s.dozeEnables
  { State.reset with
    pending := s.pending, free := s.free, clock := s.clock, outbox := s.outbox,
    regs := s.regs.filter (fun e => match regRow e.1 with | some r => r.keep == .durable | none => false),
    blocks := (s.blocks.filter (fun e => !e.2.enable)).map (fun e => (e.1, { Block.init with enable := false })),
    cfgSaved := s.cfgSaved, enSaved := s.enSaved, uniSaved := s.uniSaved, jrnl := s.jrnl, fuseRows := s.fuseRows, slotsMram := s.slotsMram,
    plan := s.plan, cueA := s.cueA, cueI := s.cueA, clips := s.clips, uniIn := s.uniIn, gmA := s.gmA, gmI := s.gmA, heatOff := s.heatOff,
    registry := s.registry, sched := s.sched, rules := s.rules, faults := s.faults, fleetSeq := s.fleetSeq, images := s.images,
    imgQueue := s.imgQueue, camp := s.camp, cellBad := s.cellBad,
    slots := Sparse.set slotFactory [] 0 KeySlot.init, wipePend := s.wipePend, safe := s.safe, cal := s.cal,
    upd := { Upd.init with slots := s.upd.slots, activeB := s.upd.activeB, trial := s.upd.trial, arb := s.upd.arb,
                           reverts := s.upd.reverts },
    tbs := (List.range 4).foldl (fun m n => Sparse.set (fun _ => TB.init) m n
      { TB.init with held := (s.tb n).held, heldPhase := (s.tb n).heldPhase }) [] }

/-- The AON reset, and a tamper source active at it, which latches again (R428). -/
def aonPowerOn (tamper : Nat) (s : State) : State :=
  let s := s.aonReset.latchTamper tamper
  if s.rd Reg.TAMP.LATCH == 0 then s else s.zeroise

/-- A start waits for the release of MRST_N with its causes: the mode is BRINGUP, or with the tamper latch set HOLD (TAMPER), which R487 gives from the tick at which SC
sees the latch (R49, R487; DEDUCED, log entry 97). -/
def awaitRelease (causes : Nat) (s : State) : State :=
  let s := { s with startWait := some causes }
  if s.rd Reg.TAMP.LATCH == 0 then s.setMode .bringup else (s.wrFld Reg.SYS.MODE_STATUS 16 8 2).setMode .hold

/-- A start that nothing but MRST_N can hold back any more (R49): it waits for the release with RESET_CAUSE.MRST_N among its causes, or runs. -/
def startOrWait (causes : Nat) (i : StartInfo) (s : State) : State :=
  if s.mrstLow then s.awaitRelease (causes ||| 4) else s.startModule causes i

/-- Mains becomes good (R49, R53, R467). A thermal stop that is pending holds the start back, which records the return of mains all the same (R62). -/
def mainsGood (i : StartInfo) (s : State) : State :=
  if s.mainsOn then s
  else
    let st := s.rd Reg.PSU.STATUS
    let s := { s with failSeq := false }.wr Reg.PSU.STATUS (setBit (setBit (setBit st 0 true) 1 false) 8 false)
    if s.mode != .cold then s
    else if s.coldThermal && bit (s.rd Reg.SYS.BOOT_CFG) 4 && sfld (s.rd Reg.PWR.AON_TEMP) 0 16 > 800 && s.rd Reg.TAMP.LATCH == 0 then
      { s with causeWait := s.causeWait ||| 2 }
    else s.startOrWait 2 i

/-- A request is refused: RESULT 2 with its cause, EV001 (R64, R69). -/
def refuseMode (target cause : Nat) (s : State) : State :=
  let v := s.rd Reg.SYS.MODE_STATUS
  let v := setFld (setFld v 0 4 target) 8 8 cause
  -- a request refused with BUSY leaves the transition in progress
  (s.wr Reg.SYS.MODE_STATUS (if s.trans.isSome then v else setFld v 4 2 2)).raise 0 1

/-- A request is accepted: RESULT 3 until the transition is done (R50, R69). -/
def acceptMode (m : Mode) (s : State) : State :=
  { s with trans := some m, wakeSeen := false }.wr Reg.SYS.MODE_STATUS
    (setFld (setFld (setFld (s.rd Reg.SYS.MODE_STATUS) 0 4 (modeCode m)) 4 2 3) 8 8 0)

/-- Any zone is enabled in the committed plan (R52, R207). -/
def zonesActive (s : State) : Bool := (List.range 256).any (fun z => bit (s.rd (Reg.FE.ZONE_STATE z)) 2)

/-- The cause for which a request for `m` is refused now, 0 if it is accepted (R49, R50, R52, R69). -/
def modeRefusal (s : State) (m : Mode) : Nat :=
  if s.trans.isSome then 7
  else if s.mode == .cold then 2
  else
    match m with
    | .hold => 0
    | .cold => 0
    | .bringup => 2
    | .doze =>
      if !modeLive s.mode then 2
      else if s.mode == .show_ && s.zonesActive then 5
      else if !bit (s.rd Reg.SYS.DOZE_CFG) 0 && portPages.any (fun p => (s.blk p).enable) then 4
      else 0
    | .service =>
      if s.mode == .hold then (if s.holdCause == 2 then 3 else 0)
      else if modeLive s.mode then 0 else 2
    | t =>
      if s.mode == .hold then (if s.holdCause == 2 then 3 else 0)
      else if s.mode == .service then (if allPages.any (fun p => s.code p == 4 || s.code p == 5) then 6 else 0)
      else if modeLive s.mode && s.mode != t then 0 else 2

/-- A request for a mode value (R46, R49, R68). In HOLD, a request for HOLD is done at once and changes nothing else. -/
def requestMode (n : Nat) (s : State) : State :=
  match modeOf n with
  | none => s.refuseMode n (if s.trans.isSome then 7 else 1)
  | some m =>
    let c := s.modeRefusal m
    if c != 0 then s.refuseMode n c
    else if m == .hold && s.mode == .hold then
      s.wr Reg.SYS.MODE_STATUS (setFld (setFld (setFld (s.rd Reg.SYS.MODE_STATUS) 0 4 7) 4 2 1) 8 8 0)
    else s.acceptMode m

/-- The PSU power-fail warning (R35, R36, R51, R56, R430, R446, R466). -/
def powerFail (s : State) : State :=
  let st := s.rd Reg.PSU.STATUS
  let s := (s.bump Reg.PSU.PFW_CNT).wr Reg.PSU.STATUS (setBit (setBit st 0 false) 1 true)
  let s := { s with failSeq := true, burnArmed := false }.raise 31 0
  if s.mode == .cold then s else s.enterCold

/-- AON changes over to VBAT (R42, R56, R466, R486): SC waits, and the AON blocks but RTC, TAMP and PSU read OFF. -/
def toVbat (holdup : Word) (s : State) : State :=
  if s.mainsOn || bit (s.rd Reg.PSU.STATUS) 8 then s
  else
    let s := (s.wr Reg.PSU.HOLDUP_LAST holdup).wrBit Reg.PSU.STATUS 8 true
    let s := [0, 1, 2, 101, 5, 6, 30].foldl (fun a pg => a.offBlock pg) s
    s.setProc 0 0

/-- MRST_N falls (R49, R62): a module reset, unless mains is absent or the sequence of R56 runs. PREVIOUS shows the mode it found. -/
def mrstFall (s : State) : State :=
  let s := { s with mrstLow := true }
  if s.mainsOn && !s.failSeq then
    let old := s.mode
    let s := (if old == .cold then s else s.enterCold).awaitRelease 4
    { s with prevMode := if old == s.mode then s.prevMode else old }
  else s

/-- MRST_N rises: a start that waits for it runs, with the lands as they are now (R53). -/
def mrstRise (i : StartInfo) (s : State) : State :=
  let s := { s with mrstLow := false }
  match s.startWait with
  | some c => s.startModule c i
  | none => s

/-- RESET_REQ.MODULE (R49, R62): the lands are not sampled again (R53). -/
def resetRequest (i : StartInfo) (s : State) : State :=
  if s.mainsOn && !s.failSeq then
    s.startModule 8 { i with sel0 := bit (s.rd Reg.SYS.BOOT_SEL) 0, sel1 := bit (s.rd Reg.SYS.BOOT_SEL) 1 }
  else s

/-- A die temperature is read (R63, R72): CURRENT and the greatest since reset. -/
def dieTemp (t : BitVec 16) (s : State) : State :=
  let v := s.rd Reg.PWR.DIE_TEMP
  let v := setFld v 0 16 t.toNat
  s.wr Reg.PWR.DIE_TEMP (if sfld v 16 16 < t.toInt then setFld v 16 16 t.toNat else v)

/-- The 115 degC warning, once until the temperature has fallen below 110 degC (R63). -/
def dieWarn (t : BitVec 16) (s : State) : State :=
  let s := s.dieTemp t
  if t.toInt ≥ 920 && !s.dieWarned then { s with dieWarned := true }.raise 1 2
  else if t.toInt < 880 then { s with dieWarned := false }
  else s

/-- The thermal stop at 125 degC (R49, R63). -/
def thermalStop (t : BitVec 16) (s : State) : State :=
  let s := s.dieTemp t
  if s.mode != .cold && t.toInt ≥ 1000 then
    { (s.wrBit Reg.SYS.RESET_CAUSE 4 true).enterCold with coldThermal := true }
  else s

/-- The thermal restart: AON at or below 100 degC, and BOOT_CFG.THERM_RESTART (R49, R64). -/
def thermalRestart (t : BitVec 16) (i : StartInfo) (s : State) : State :=
  let s := s.wrFld Reg.PWR.AON_TEMP 0 16 t.toNat
  if s.mode == .cold && s.coldThermal && s.mainsOn && t.toInt ≤ 800 && bit (s.rd Reg.SYS.BOOT_CFG) 4 then
    (s.raise 1 6).startOrWait 0 { i with sel0 := bit (s.rd Reg.SYS.BOOT_SEL) 0, sel1 := bit (s.rd Reg.SYS.BOOT_SEL) 1 }
  else s

/-- Every block follows its PLLs and its HOLD bit (R45, R81). -/
def settleAll (s : State) : State := allPages.foldl (fun a pg => a.settle pg) s

/-- A PLL loses lock (R45). -/
def pllLost (p : Pll) (s : State) : State :=
  if bit (s.rd Reg.PWR.CLK_STATE) (pllBit p) then
    (((s.wrBit Reg.PWR.CLK_STATE (pllBit p) false).bump Reg.PWR.PLL_LOSS).raise 1 3).settleAll
  else s

/-- A PLL fails to lock within 1 ms: the blocks it feeds go to FAULT. The limit does not apply while the oscillator is faulty (R45). -/
def pllTimeout (p : Pll) (s : State) : State :=
  if !bit (s.rd Reg.PWR.CLK_STATE) (pllBit p) && bit (s.rd Reg.PWR.CLK_STATE) 0 then
    (allPages.filter (fun pg => (feeds pg).contains (pllBit p) && s.code pg != 0 && s.code pg != 7)).foldl
      (fun a pg => a.faultBlock pg) s
  else s

/-- A PLL locks (R44, R45): the blocks held by it return. -/
def pllLocked (p : Pll) (s : State) : State :=
  if bit (s.rd Reg.PWR.CLK_STATE) 0 then (s.wrBit Reg.PWR.CLK_STATE (pllBit p) true).settleAll else s

/-- RP abandons its exchange in DOZE (R45): the frames stay queued, and without its oscillator the synthesiser sends no beacon until a later exchange finds it locked (R358). -/
def exchangeCut (s : State) : State :=
  { s with children := s.children.map (fun e => (e.1, e.2.map (fun c => { c with fly := 0 }))), radio := { s.radio with unlocked := true } }

/-- A fault of the HF oscillator (R45, R49): every PLL stops, EV012. In COLD there is none; in DOZE it arises during an exchange, which RP abandons and where the mode stays, or during a wake,
which ends in HOLD (CLOCK). -/
def hfFault (inExchange : Bool) (s : State) : State :=
  if s.mode == .cold || (s.mode == .doze && s.trans.isNone && !inExchange) then s
  else
    let s := (s.wr Reg.PWR.CLK_STATE (s.rd Reg.PWR.CLK_STATE &&& 2)).raise 1 4
    if s.mode == .doze && s.trans.isNone then s.exchangeCut
    else
    let s := s.settleAll
    if s.mode == .doze then { (s.wrFld Reg.SYS.MODE_STATUS 16 8 6).setMode .hold with trans := some .hold }
    else s.forceHold 6

/-- SC restarts the oscillator (R45). -/
def hfRetry (stable : Bool) (s : State) : State :=
  if stable && s.mode != .cold then s.wrBit Reg.PWR.CLK_STATE 0 true else s

end State

/-- The domains that a rail serves (R485). -/
def railDomains (rail : Nat) : List Nat :=
  if rail == 0 then [0] else if rail == 1 then [1] else if rail == 2 then [2] else if rail == 3 then [3]
  else if rail == 4 then [4] else if rail == 5 then [1] else [1, 3, 4]

namespace State

/-- A rail faults (R73, R485): each domain it serves that is ramping, on or in retention faults, with every block it contains, and the module goes to HOLD (SUPPLY). -/
def railFault (rail : Nat) (mv : BitVec 16) (s : State) : State :=
  let ds := (railDomains rail).filter (fun d => 1 ≤ s.dom d && s.dom d ≤ 3)
  if ds.isEmpty then s
  else
    let s := s.wr (Reg.PSU.RAIL rail) (W (mv.toNat + 0x10000))
    let s := ds.foldl (fun a d =>
      let a := (a.wrBit Reg.PWR.DOMAIN_FAULT d true).setDom d 4
      ((domainPages d).filter (fun pg => a.code pg != 7)).foldl (fun b pg => b.faultBlock pg) a) s
    (s.raise 1 1).holdFrom 7

/-- LINK_STATUS takes new fields; a change raises HIF event bit 2, and pending vectors are sent once the link is up (R97, R101). -/
def linkStatus (v : Word) (s : State) : State :=
  if s.rd Reg.HIF.LINK_STATUS == v then s
  else
    let s := (s.wr Reg.HIF.LINK_STATUS v).raise 3 2
    if bit v 10 then
      let pba := s.rd (Reg.HIF.MSIX_PBA 0)
      let go := (bitsOf pba.toNat 32).filter (fun n => !bit (s.rd (Reg.HIF.MSIX_CTRL n)) 0)
      go.foldl (fun a n => (a.wrBit (Reg.HIF.MSIX_PBA 0) n false).msixSend n) s
    else s

/-- The word of LINK_STATUS (R101). -/
def linkWord (up : Bool) (speed : BitVec 4) (width : BitVec 6) (pm : BitVec 2) : Word :=
  W (speed.toNat + 16 * width.toNat + 1024 * b2n up + 4096 * pm.toNat)

/-- PERST_N rises (R59): HIF, which it held in reset, restarts from its reset state and its link trains. The configuration requests that arrive before it is READY are
answered with Configuration Request Retry Status. -/
def perstRise (speed : BitVec 4) (width : BitVec 6) (cfg : List (Fin 1024)) (s : State) : State :=
  if s.dom 1 != 2 || s.faultLocked 3 then s
  else
    let s := (s.resetHeader 3).loadReset 3
    let s := if (s.blk 3).enable then s.enterStarting 3 else s.offBlock 3
    (cfg.map (fun c => c.val)).foldl (fun a c => a.emit (.pcieRetry c)) (s.linkStatus (linkWord true speed width 0))

end State

/-- AON_POWER_ON (R49). -/
def execAonPowerOn (tamper : BitVec 7) (s : State) : Out := .next (s.aonPowerOn tamper.toNat)

/-- MAINS_GOOD (R467). -/
def execMainsGood (i : StartInfo) (s : State) : Out := .next (s.mainsGood i)

/-- DRAM_TRAINING_DONE (R49): a failure raises EV015 and leads to HOLD (DRAM_FAIL). -/
def execDramTrainingDone (ok : Bool) (s : State) : Out :=
  .next (if !s.starting then s else if ok then { s with dramOk := true } else (s.raise 1 7).forceHold 4)

/-- BRINGUP_END (R49, R53, R487): the processors run, and from BRINGUP the boot mode is entered; EV002, at a start into HOLD (TAMPER) once no block is left STARTING. -/
def execBringupEnd (s : State) : Out :=
  .next (
    if !s.starting || s.startWait.isSome then s
    else
      let s := [1, 2, 3].foldl (fun a p => if a.proc p == 1 then a.setProc p 2 else a) { s with starting := false }
      let s := s.flushDeferred
      let tamper := s.mode == .hold && s.holdCause == 2
      let s :=
        if s.mode == .bringup then
          let boot := if fld (s.rd Reg.SYS.BOOT_SEL) 0 2 == 0 then fld (s.rd Reg.SYS.BOOT_CFG) 0 4 else 6
          s.setMode ((modeOf boot).getD .service)
        else s
      if tamper then { s with ev2Wait := true }.lastReady else s.raise 0 2)

/-- MODE_REQ (R49, R68). -/
def execModeReq (r : Requester) (v : Word) (s : State) : Out :=
  .next (s.access r Reg.SYS.MODE_REQ v (State.requestMode (fld v 0 4)))

/-- WAKE (R54). -/
def execWake (src : Fin 9) (s : State) : Out := .next (s.wakeSource src)

/-- POWER_FAIL_WARNING (R56). -/
def execPowerFailWarning (s : State) : Out := .next s.powerFail

/-- VBAT_CHANGEOVER (R42). -/
def execVbatChangeover (holdup : Word) (s : State) : Out := .next (s.toVbat holdup)

/-- MRST_N_ASSERT (R62). -/
def execMrstAssert (s : State) : Out := .next s.mrstFall

/-- MRST_N_RELEASE (R53). -/
def execMrstRelease (i : StartInfo) (s : State) : Out := .next (s.mrstRise i)

/-- RESET_REQ_MODULE (R62). -/
def execResetReqModule (r : Requester) (i : StartInfo) (s : State) : Out :=
  .next (s.access r Reg.SYS.RESET_REQ 1 (State.resetRequest i))

/-- DIE_TEMP_WARNING (R63). -/
def execDieTempWarning (t : BitVec 16) (s : State) : Out := .next (s.dieWarn t)

/-- THERMAL_STOP (R63). -/
def execThermalStop (t : BitVec 16) (s : State) : Out := .next (s.thermalStop t)

/-- THERMAL_RESTART (R49). -/
def execThermalRestart (t : BitVec 16) (i : StartInfo) (s : State) : Out := .next (s.thermalRestart t i)

/-- PLL_LOCK_LOSS (R45). -/
def execPllLockLoss (p : Pll) (s : State) : Out := .next (s.pllLost p)

/-- PLL_LOCK_TIMEOUT (R45). -/
def execPllLockTimeout (p : Pll) (s : State) : Out := .next (s.pllTimeout p)

/-- PLL_LOCK (R45). -/
def execPllLock (p : Pll) (s : State) : Out := .next (s.pllLocked p)

/-- HF_OSC_FAULT (R45). -/
def execHfOscFault (inExchange : Bool) (s : State) : Out := .next (s.hfFault inExchange)

/-- HF_OSC_RETRY (R45). -/
def execHfOscRetry (stable : Bool) (s : State) : Out := .next (s.hfRetry stable)

/-- RAIL_FAULT (R485). -/
def execRailFault (rail : Fin 8) (mv : BitVec 16) (s : State) : Out := .next (s.railFault rail mv)

/-- PERST_N_DEASSERT (R59). -/
def execPerstDeassert (speed : BitVec 4) (width : BitVec 6) (cfg : List (Fin 1024)) (s : State) : Out := .next (s.perstRise speed width cfg)

/-- PCIE_LINK_CHANGE (R101). -/
def execPcieLinkChange (up : Bool) (speed : BitVec 4) (width : BitVec 6) (pm : BitVec 2) (s : State) : Out :=
  .next (s.linkStatus (State.linkWord up speed width pm))

/-- WAKE_N_PULSE_END (R479). -/
def execWakeNPulseEnd (s : State) : Out := .next { s with wakeN := false }

end Sys2Proof.Machine
end

