-- ==== Sys2Proof/Machine/Rtc.lean ====
section
/-!
DEFINITION. The RTC: its tick, sets, shifts, alarms, trim, periodic wake and discipline (R397-R413).
-/
namespace Sys2Proof.Machine

/-- Whether tick `w` of a trim window is one of the |N| adjusted ticks (R408). -/
def trimmedTick (n : Nat) (w : Nat) : Bool :=
  let k := (w * n + 1048575) / 1048576
  k < n && k * 1048576 / n == w

/-- Units that a tick advances the time by (R408). -/
def tickUnits (n : Int) (w : Nat) : Nat := if trimmedTick n.natAbs w then (if 0 < n then 2 else 0) else 1

namespace State

/-- The RTC changes. -/
def setRtc (r : Rtc) (s : State) : State := { s with rtc := r }

/-- A set or shift is pending (R404). -/
def rtcPend (s : State) : Bool := s.rtc.setPend || !s.rtc.shifts.isEmpty

/-- STATUS.PEND follows what is pending (R404). -/
def pendBit (s : State) : State := s.wrBit Reg.RTC.STATUS 1 s.rtcPend

/-- A shift is staged for the next tick; while PEND is 1 it is dropped and counted (R403, R404). -/
def rtcShift (units : List Int) (s : State) : State :=
  if s.rtcPend then s.err 11 else (s.setRtc { s.rtc with shifts := units }).pendBit

/-- SET_GO (R402, R404). -/
def rtcGo (s : State) : State :=
  if s.rtcPend then s.err 11 else (s.setRtc { s.rtc with setPend := true }).pendBit

/-- The staged set, if it passes R402, in units. -/
def stagedSet (s : State) : Option Nat :=
  if s.rtc.stray.any (fun a => a == Reg.RTC.SET_SUBSEC || a == Reg.RTC.SET_TIME || a == Reg.RTC.SET_DATE) then none
  else (wordsToSec (s.rd Reg.RTC.SET_TIME) (s.rd Reg.RTC.SET_DATE)).map (fun n => n * 32768 + fld (s.rd Reg.RTC.SET_SUBSEC) 0 15)

/-- The alarm instant of an alarm, in units, if its value is possible (R402, R406). -/
def alarmAt (s : State) (a : Nat) : Option Nat :=
  if s.rtc.stray.any (fun x => x == Reg.RTC.ALM_TIME a || x == Reg.RTC.ALM_DATE a) then none
  else (wordsToSec (s.rd (Reg.RTC.ALM_TIME a)) (s.rd (Reg.RTC.ALM_DATE a))).map (fun n => n * 32768)

/-- An alarm is armed. -/
def almArmed (s : State) (a : Nat) : Bool := bit (s.rd (Reg.RTC.ALM_STATUS a)) 0

/-- Step 2 of a tick (R401 to R403): a pending set or the first pending shift. The time it leaves, whether a set was applied, whether the time wrapped,
whether it was rejected. -/
def tickApply (s : State) (t : Nat) : Nat × Bool × Bool × Bool :=
  if s.rtc.setPend then
    match s.stagedSet with
    | some n => (n, true, false, false)
    | none => (t, false, false, true)
  else
    match s.rtc.shifts with
    | d :: _ =>
      let v := (t : Int) + d
      if v < 0 then (t, false, false, true)
      else if (rtcEnd : Int) ≤ v then ((v - rtcEnd).toNat, false, true, false)
      else (v.toNat, false, false, false)
    | [] => (t, false, false, false)

/-- An alarm fires: it disarms, with RESULT 2 or 3 (R406, R413). -/
def alarmFire (a : Nat) (stepped : Bool) (s : State) : State :=
  let s := s.wr (Reg.RTC.ALM_STATUS a) (W (if stepped then 6 else 4))
  if stepped then s.wrBit Reg.RTC.STICKY (2 + a) true else s

/-- The trim window of a tick (R408): at its end a new window begins with the new N, which TRIM_NOW shows. -/
def windowStep (s : State) : State :=
  let r := s.rtc
  if r.winTick + 1 < 1048576 then s.setRtc { r with winTick := r.winTick + 1 }
  else if bit (s.rd Reg.RTC.TRIM_CFG) 0 then
    (s.setRtc { r with winTick := 0, trimN := r.trimNext }).wr Reg.RTC.TRIM_NOW (W (encS 10 r.trimNext + 0x10000 * r.trimTemp.toNat))
  else
    let n := clampI (-511) 511 (sfld (s.rd Reg.RTC.TRIM_MAN) 0 10)
    (s.setRtc { r with winTick := 0, trimN := n }).wrFld Reg.RTC.TRIM_NOW 0 10 (encS 10 n)

/-- Periodic wake counter of a tick (R410): whether it expires. -/
def periodStep (s : State) : State × Bool :=
  let r := s.rtc
  if r.perRestart then (s.setRtc { r with perTick := 0, perRestart := false }, false)
  else if bit (s.rd Reg.RTC.WAKE_CFG) 0 then
    if r.perTick + 1 ≥ 32 * clampN 1 67107840 (fld (s.rd Reg.RTC.WAKE_PERIOD) 0 26) then
      ((s.setRtc { r with perTick := 0 }).bumpWrap Reg.RTC.WAKE_COUNT, true)
    else (s.setRtc { r with perTick := r.perTick + 1 }, false)
  else (s, false)

/-- The time that a tick counts to before a set or shift, and whether it wrapped (R398, R401, R408). -/
def tickCount (s : State) : Nat × Bool :=
  let n := s.rtc.time + tickUnits s.rtc.trimN s.rtc.winTick
  if rtcEnd ≤ n then (n - rtcEnd, true) else (n, false)

/-- One oscillator tick of the RTC, in the order of R401. Wakes follow the events. -/
def rtcTick (s : State) : State :=
  let t0 := s.rtc.time
  let c := s.tickCount
  let p := s.tickApply c.1
  let wrapped := c.2 || p.2.2.1
  let valid := bit (s.rd Reg.RTC.STATUS) 0
  let s := (s.setRtc { s.rtc with time := p.1, setPend := false, shifts := s.rtc.shifts.drop (b2n !s.rtc.setPend) }).windowStep.pendBit
  let s := if p.2.1 then s.wrBit Reg.RTC.STATUS 0 true else s
  let fired := (List.range 2).filter (fun a => s.almArmed a && (match s.alarmAt a with | some x => x ≤ p.1 | none => false))
  let s := fired.foldl (fun b a => b.alarmFire a (match b.alarmAt a with | some x => c.1 < x | none => false)) s
  let q := s.periodStep
  let s := q.1
  let s := if p.2.2.2 then s.wrBit Reg.RTC.STICKY 0 true else s
  let s := if wrapped then s.wrBit Reg.RTC.STICKY 1 true else s
  let secOf := (if p.2.1 then c.1 else p.1) / 32768
  let evts := fired ++ (if q.2 then [2] else []) ++ (if t0 / 32768 < secOf || wrapped then [3] else []) ++
    (if p.2.2.2 then [4] else []) ++ (if wrapped then [5] else []) ++ (if p.2.1 && !valid then [7] else [])
  let s := evts.foldl (fun a n => a.raise 11 n) s
  (fired ++ (if q.2 then [2] else [])).foldl (fun a n => a.wakeSource n) s

/-- The 32.768 kHz oscillator runs (R44, R400). -/
def xtalOn (s : State) : Bool := bit (s.rd Reg.PWR.CLK_STATE) 1

/-- ARM (R406, R413). -/
def alarmArm (a : Nat) (s : State) : State :=
  match s.alarmAt a with
  | none => s.wrFld (Reg.RTC.ALM_STATUS a) 1 3 5
  | some x => if x ≤ s.rtc.time then s.wrFld (Reg.RTC.ALM_STATUS a) 1 3 4 else s.wr (Reg.RTC.ALM_STATUS a) 3

/-- DISARM (R407). -/
def alarmDisarm (a : Nat) (s : State) : State := if s.almArmed a then s.wr (Reg.RTC.ALM_STATUS a) 12 else s

/-- Alarm 1 belongs to FP while DOZE_CFG.AUTO is 1: another requester's write is dropped and counted (R407). -/
def alarmOwned (r : Requester) (a : Nat) (f : State → State) (s : State) : State :=
  if a == 1 && bit (s.rd Reg.SYS.DOZE_CFG) 1 && r != .fp then s.err 11 else f s

/-- A write to WAKE_CFG or WAKE_PERIOD (R410). -/
def wakeCfgWrite (period : Bool) (v : Word) (s : State) : State :=
  let s := if period then s.wr Reg.RTC.WAKE_PERIOD (v &&& 0x3FFFFFF) else s.wr Reg.RTC.WAKE_CFG (v &&& 1)
  s.setRtc { s.rtc with perRestart := true }

/-- The crystal's error in 0.01 ppm at a temperature (R409, R458); without a point there is no correction. -/
def crystalErr (s : State) (t : Int) : Rat := (s.calAt 2 0 1 BitVec.toInt t).getD 0

/-- A sample of AON_TEMP, `seconds` after the last (R409): once PERIOD has passed it gives the N of the next window. -/
def trimSample (temp : BitVec 16) (seconds : Nat) (s : State) : State :=
  let s := s.wrFld Reg.PWR.AON_TEMP 0 16 temp.toNat
  if bit (s.rd Reg.RTC.TRIM_CFG) 0 && Nat.max 1 (fld (s.rd Reg.RTC.TRIM_CFG) 8 8) ≤ seconds then
    let e := s.crystalErr temp.toInt
    let n := roundEven (-e.num * 1048576) (e.den * 100000000)
    let s' := s.setRtc { s.rtc with trimNext := clampI (-511) 511 n, trimTemp := temp }
    if n < -511 || 511 < n then (s'.wrBit Reg.RTC.STICKY 4 true).raise 11 6 else s'
  else s

/-- TB2 less the RTC, in whole units (R405): TB2 counts from 1970, the RTC from 2000. -/
def rtcBehind (s : State) : Int := roundUpHalf ((((s.tb 2).ext : Int) - 946684800000000000) * 32768 - (s.rtc.time : Int) * 1000000000) 1000000000

/-- SC's comparison of the RTC with TB2, `seconds` after the last (R405). -/
def rtcDiscipline (seconds : Nat) (s : State) : State :=
  let d := s.rtcBehind
  if seconds < 60 || fld (s.rd (Reg.TB.LOCK 2)) 0 2 != 2 || s.proc 0 != 2 || s.dom 1 != 2 then s
  else if d.natAbs < 2 then s
  else if d.natAbs ≤ 32767 then s.rtcShift [d]
  else s.setRtc { s.rtc with lateSet := some d }

/-- FP arms alarm 1 for the next scheduled event, so many seconds ahead (R52, R407). -/
def dozeAlarm (n : Nat) (s : State) : State :=
  let t := s.rtcSec + n
  let s := s.alarmDisarm 1
  let s := s.setRtc { s.rtc with stray := s.rtc.stray.filter (fun x => x != Reg.RTC.ALM_TIME 1 && x != Reg.RTC.ALM_DATE 1) }
  ((s.wr (Reg.RTC.ALM_TIME 1) (timeWord t &&& 0x1F3F3F)).wr (Reg.RTC.ALM_DATE 1) (dateWord t)).alarmArm 1

/-- FP requests DOZE in FLEET or GROW while DOZE_CFG.AUTO is 1 and its next scheduled event, NEXT_CHANGE, is at least MIN_SLEEP away (R52, R71). -/
def dozeAuto (s : State) : State :=
  let c := s.rd Reg.SYS.DOZE_CFG
  let next := s.rd Reg.SCH.NEXT_CHANGE
  if !((s.mode == .fleet || s.mode == .grow) && bit c 1 && s.proc 2 == 2) || next.toNat < clampN 1 65535 (fld c 16 16) then s
  else (if next == 0xFFFFFFFF then s else s.dozeAlarm next.toNat).requestMode 5

/-- The late correction of R405 at a whole second of TB2: an ordinary set. -/
def lateSetGo (s : State) : State :=
  match s.rtc.lateSet with
  | none => s
  | some d =>
    let n := (((s.rtc.time : Int) + d + 16384) / 32768).toNat % 12622780800
    let s := s.setRtc { s.rtc with lateSet := none, stray := [] }
    (((s.wr Reg.RTC.SET_SUBSEC 0).wr Reg.RTC.SET_TIME (timeWord n &&& 0x1F3F3F)).wr Reg.RTC.SET_DATE (dateWord n)).rtcGo

end State

/-- DOZE_AUTO_REQUEST (R52). -/
def execDozeAutoRequest (s : State) : Out := .next s.dozeAuto

/-- RTC_SECOND (R401): the tick at which the subsecond count wraps. -/
def execRtcSecond (s : State) : Out :=
  .next (if s.xtalOn && s.rtc.time / 32768 < s.tickCount.1 / 32768 then s.rtcTick else s)

/-- A read of SUBSEC latches the calendar for its requester (R399). -/
def State.rtcLatch (r : Requester) (s : State) : State :=
  let k := 4 * reqIdx r
  let put := fun (m : Sparse Word) (i : Nat) (v : Word) => Sparse.set (fun _ => 0) m (k + i) v
  s.setRtc { s.rtc with
    latch := put (put (put (put s.rtc.latch 0 (timeWord s.rtcSec)) 1 (dateWord s.rtcSec)) 2 (W s.rtcSec)) 3 (W (s.rtcSec / 2 ^ 32)) }

/-- SUBSEC_READ (R399). -/
def execSubsecRead (r : Requester) (s : State) : Out :=
  .next (s.readAccess r Reg.RTC.SUBSEC (W (s.rtc.time % 32768)) (State.rtcLatch r))

/-- RTC_SET_GO (R402). -/
def execRtcSetGo (r : Requester) (s : State) : Out := .next (s.access r Reg.RTC.SET_GO 1 State.rtcGo)

/-- RTC_SET_APPLY (R402): the tick after SET_GO. -/
def execRtcSetApply (s : State) : Out := .next (if s.xtalOn && s.rtc.setPend then s.rtcTick else s)

/-- RTC_SHIFT (R403). -/
def execRtcShift (r : Requester) (v : Word) (s : State) : Out :=
  .next (s.access r Reg.RTC.SHIFT v (State.rtcShift [sfld v 0 16]))

/-- RTC_SHIFT_APPLY (R403): the tick after SHIFT. -/
def execRtcShiftApply (s : State) : Out :=
  .next (if s.xtalOn && !s.rtc.setPend && !s.rtc.shifts.isEmpty then s.rtcTick else s)

/-- ALARM_ARM (R406). -/
def execAlarmArm (r : Requester) (a : Fin 2) (s : State) : Out :=
  .next (s.access r (Reg.RTC.ALM_CTL a) 1 (State.alarmOwned r a (State.alarmArm a)))

/-- ALARM_DISARM (R407). -/
def execAlarmDisarm (r : Requester) (a : Fin 2) (s : State) : Out :=
  .next (s.access r (Reg.RTC.ALM_CTL a) 2 (State.alarmOwned r a (State.alarmDisarm a)))

/-- ALARM_FIRE (R406): the tick at which the time reaches or passes the armed alarm. -/
def execAlarmFire (a : Fin 2) (s : State) : Out :=
  .next (if s.xtalOn && s.almArmed a && (match s.alarmAt a with | some x => x ≤ (s.tickApply s.tickCount.1).1 | none => false)
    then s.rtcTick else s)

/-- YEAR_WRAP (R398): the tick at which the calendar wraps. -/
def execYearWrap (s : State) : Out :=
  .next (if s.xtalOn && (s.tickCount.2 || (s.tickApply s.tickCount.1).2.2.1) then s.rtcTick else s)

/-- TRIM_SAMPLE (R409). -/
def execTrimSample (temp : BitVec 16) (seconds : Nat) (s : State) : Out := .next (s.trimSample temp seconds)

/-- TRIM_WINDOW (R408): the tick that begins a window. -/
def execTrimWindow (s : State) : Out := .next (if s.xtalOn && s.rtc.winTick == 1048575 then s.rtcTick else s)

/-- PERIODIC_WAKE (R410): the tick at which the counter expires. -/
def execPeriodicWake (s : State) : Out := .next (if s.xtalOn && s.periodStep.2 then s.rtcTick else s)

/-- WAKE_PERIOD_WRITE (R410). -/
def execWakePeriodWrite (r : Requester) (period : Bool) (v : Word) (s : State) : Out :=
  .next (s.access r (if period then Reg.RTC.WAKE_PERIOD else Reg.RTC.WAKE_CFG) v (State.wakeCfgWrite period v))

/-- RTC_DISCIPLINE (R405). -/
def execRtcDiscipline (seconds : Nat) (s : State) : Out := .next (s.rtcDiscipline seconds)

/-- XTAL32K_FAULT (R44, R400). -/
def execXtal32kFault (s : State) : Out :=
  .next (
    let was := bit (s.rd Reg.RTC.STATUS) 0
    let s := (s.wrBit Reg.PWR.CLK_STATE 1 false).raise 1 5
    if was then (s.wrBit Reg.RTC.STATUS 0 false).raise 11 7 else s)

end Sys2Proof.Machine
end

