-- ==== Sys2Proof/Machine/Time.lean ====
section
/-!
DEFINITION. The time bases: INCR, ADJ, the 500 MHz tick, sources and the servo, PTP, captures and snaps (R108-R130), and the tick of the
module, which a step on an empty queue takes (DESIGN CHOICE, log entry 1).
-/
namespace Sys2Proof.Machine

/-- The allowed values of SRC.SOURCE by time base (R118). -/
def sourceOk (n v : Nat) : Bool :=
  v == 0 || v == 1 ||
  (n == 0 && (v == 2 || v == 6 || v == 7)) ||
  (n == 1 && (v == 3 || v == 4 || v == 5 || v == 8 || v == 9)) ||
  (n == 2 && (v == 2 || v == 6 || v == 7 || v == 9)) ||
  (n == 3 && (v == 9 || v == 10 || v == 11))

/-- The rank of an Announce data set under the default BMCA: the lower the better (R121, IEEE 1588 data set comparison). -/
def announceRank (a : Announce) : List Nat :=
  [a.priority1, a.clockClass, a.accuracy, a.variance, a.priority2, a.gmIdentity.toNat, a.stepsRemoved, a.sender.toNat]

/-- Lexicographic order of ranks. -/
def rankLt : List Nat → List Nat → Bool
  | a :: x, b :: y => a < b || (a == b && rankLt x y)
  | [], _ :: _ => true
  | _, [] => false

namespace State

/-- The time bases tick: CTL is on and the SYS PLL is locked (R44, R109). -/
def tbClock (s : State) : Bool := s.dom 1 == 2 && bit (s.rd Reg.PWR.CLK_STATE) 2

/-- A time base counts: it ticks and its page is READY or held. -/
def tbRuns (s : State) (n : Nat) : Bool := s.tbClock && (s.code (12 + n) == 2 || s.code (12 + n) == 6)

/-- A step is queued for a time base and its followers (R112, R119). Every pending PT is compared with COUNT, so a step moves it (R117). -/
def pushStep (n : Nat) (v : Word) (s : State) : State :=
  (s.tbGroup n).foldl (fun a m => a.setTb m { a.tb m with steps := (a.tb m).steps ++ [v] }) s

/-- INCR takes a value at the next tick, for a time base and its followers (R109, R111, R119). -/
def setIncr (n v : Nat) (s : State) : State :=
  (s.tbGroup n).foldl (fun a m =>
    ((a.setTb m { a.tb m with newIncr := some v }).wr (Reg.TB.INCR_FRAC m) (W v)).wr (Reg.TB.INCR_INT m) (W (v / 2 ^ 32))) s

/-- INCR as it will be at the next tick. -/
def incrNow (s : State) (n : Nat) : Nat := (s.tb n).newIncr.getD (s.tb n).incr

/-- The requester may write INCR: SC, or anybody while SOURCE is FREE or HOST (R111). -/
def mayIncr (s : State) (r : Requester) (n : Nat) : Bool := r == .sc || s.tbSource n < 2

/-- The requester may write ADJ: SC, or anybody but in the PTP and follow modes (R112). -/
def mayAdj (s : State) (r : Requester) (n : Nat) : Bool :=
  let v := s.tbSource n
  r == .sc || v < 2 || (4 ≤ v && v ≤ 8)

/-- A write to INCR_FRAC (R111). -/
def incrFrac (r : Requester) (n : Nat) (v : Word) (s : State) : State :=
  if s.mayIncr r n then s.wr (Reg.TB.INCR_FRAC n) v else s.err (12 + n)

/-- A write to INCR_INT (R111): outside 2.0 ns ± 500 ppm it is refused whole and the staged fraction is discarded. -/
def incrInt (r : Requester) (n : Nat) (v : Word) (s : State) : State :=
  if !s.mayIncr r n then s.err (12 + n)
  else
    let x := v.toNat * 2 ^ 32 + (s.rd (Reg.TB.INCR_FRAC n)).toNat
    if 0x1FFBE76C9 ≤ x && x ≤ 0x200418937 then s.setIncr n x
    else (s.wr (Reg.TB.INCR_FRAC n) (W (s.incrNow n))).err (12 + n)

/-- The frame period that VREF_IN or LTC_IN shows (R118), in ns: that of the RATE code 0x0 to 0x8 nearest to the mean spacing of the last 16 frame edges; none before 16
edges, or with the mean more than 0.05 % from every one. -/
def framePeriod (s : State) (k : Nat) : Option Rat :=
  let l := Sparse.get (fun _ => []) s.refEdges k
  if l.length < 16 then none
  else
    let mean := mkRat ((l.getLastD 0 : Int) - (l.headD 0 : Int)) 15
    (List.range 9).findSome? (fun c =>
      let p := mkRat (1000000000 * (rateOf c).2 : Nat) (rateOf c).1
      if -(p / 2000) ≤ mean - p && mean - p ≤ p / 2000 then some p else none)

/-- The input, as k of R122, whose edges a phase-only source counts (R118). -/
def sourceInput (v : Nat) : Option Nat :=
  if v == 4 then some 2 else if v == 5 then some 3 else if v == 6 || v == 7 then some 0 else if v == 8 then some 4 else none

/-- The reference period of a time base in a phase-only mode, in ns (R118). -/
def refPeriod (s : State) (n : Nat) : Option Rat :=
  match sourceInput (s.tbSource n) with
  | some 0 => some 1000000000
  | some 3 => some (mkRat 1000000000 48000)
  | some k => s.framePeriod k
  | none => none

/-- A step of the requester's in a phase-only mode will be pulled back: it is no whole number of reference periods (R118). -/
def pulls (s : State) (r : Requester) (n : Nat) (v : Word) : Bool :=
  r != .sc && (match s.refPeriod n with | some p => ((v.toInt : Rat) / p).den != 1 | none => false)

/-- A write to ADJ (R112). A step in a phase-only mode that is no whole number of reference periods takes LOCK back to ACQUIRING, and the servo slews it away (R118). -/
def adj (r : Requester) (n : Nat) (v : Word) (s : State) : State :=
  if s.mayAdj r n && v != 0x80000000 then
    let a := s.pushStep n v
    if s.pulls r n v then
      let a := a.setTb n { a.tb n with pull := true }
      if fld (s.rd (Reg.TB.LOCK n)) 0 2 == 2 then a.moveLock n 1 else a
    else a
  else s.err (12 + n)

/-- The offset that a time base holds from TB2 while locked is kept (R120). -/
def holdOffset (n : Nat) (s : State) : State :=
  let b := s.tb 2
  (s.tbGroup n).foldl (fun a m =>
    let t := a.tb m
    if m == 2 then a
    else a.setTb m { t with held := (t.ext : Int) - b.ext, heldPhase := (t.phase + 1000000000 - b.phase) % 1000000000 }) s

/-- One measurement against the LOCK table of R119, for |OFFSET| in ns; over radio LOCK stays ACQUIRING (R368). -/
def lockCount (n : Nat) (m : Nat) (s : State) : State :=
  let t := s.tb n
  let st := fld (s.rd (Reg.TB.LOCK n)) 0 2
  if n == 3 && s.tbSource 3 == 11 then s.moveLock 3 1
  else if st == 1 then
    let g := if m ≤ 50 then t.good + 1 else 0
    if 16 ≤ g then (s.setTb n { t with good := 0, bad := 0 }).moveLock n 2 else s.setTb n { t with good := g }
  else if st == 2 then
    let b := if m > 1000 then t.bad + 1 else 0
    if 4 ≤ b then (s.setTb n { t with good := 0, bad := 0 }).moveLock n 1 else s.setTb n { t with bad := b }
  else if st == 3 then (s.setTb n { t with good := 0, bad := 0 }).moveLock n 1
  else s

/-- A limit of the servo's departures (R119). -/
def clampQ (l v : Rat) : Rat := if v < -l then -l else if l < v then l else v

/-- A measurement of the source (R119): OFFSET, then a step, or the frequency term and a slew, then LOCK. `t` is the time since the previous measurement, and `nominal` the
source's nominal interval, which stands for it at the first. A step that is being pulled back is slewed away whatever its size (R118). -/
def servo (n : Nat) (o : Int) (t nominal : Nat) (s : State) : State :=
  let t := if (s.tb n).measured then t else nominal
  let s := s.setTb n { s.tb n with measured := true }
  let off := satWord o
  let s := s.wr (Reg.TB.OFFSET n) off
  let thresh := clampN 1 65535 (fld (s.rd (Reg.TB.SERVO n)) 0 16) * 1000
  let slew : Rat := mkRat (clampN 1 500 (fld (s.rd (Reg.TB.SERVO n)) 16 9)) 1000000
  let s :=
    if thresh ≤ off.toInt.natAbs && !(s.tb n).pull then s.pushStep n (-off)
    else
      let f := clampQ slew ((s.tb n).freq - mkRat o (16 * t))
      let r := clampQ slew (f - mkRat o (4 * t))
      let x := 2 * (1 + r) * 4294967296
      (s.setTb n { s.tb n with freq := f }).setIncr n (roundEven x.num x.den).toNat
  let s := s.lockCount n off.toInt.natAbs
  if fld (s.rd (Reg.TB.LOCK n)) 0 2 == 2 then (s.setTb n { s.tb n with pull := false }).holdOffset n else s

/-- A time base that SC measures: neither FREE, HOST nor a follower. -/
def tbMeasured (s : State) (n : Nat) : Bool := 2 ≤ s.tbSource n && s.tbSource n != 9 && s.tbSource n != 10

/-- Three expected measurements are missing (R119). -/
def measurementLost (n : Nat) (s : State) : State :=
  let st := fld (s.rd (Reg.TB.LOCK n)) 0 2
  if s.tbMeasured n && (st == 1 || st == 2) then
    let s := s.setTb n { s.tb n with good := 0, bad := 0 }
    (s.tbGroup n).foldl (fun a m => a.raise (12 + m) 4) (s.moveLock n 3)
  else s

/-- A follower is stepped to its leader, takes its INCR and copies its LOCK (R119); its own followers get the same. -/
def startFollow (n : Nat) (s : State) : State :=
  match s.tbLeader n with
  | none => s
  | some l =>
    let x := s.incrNow l
    let s := (s.tbGroup n).foldl (fun a m =>
      ((a.setTb m { a.tb m with snapTo := true }).wr (Reg.TB.INCR_FRAC m) (W x)).wr (Reg.TB.INCR_INT m) (W (x / 2 ^ 32))) s
    (s.wr (Reg.TB.OFFSET n) 0).moveLock n (fld (s.rd (Reg.TB.LOCK l)) 0 2)

/-- The departure of INCR from nominal, as the servo's frequency term starts (R119). -/
def departure (s : State) (n : Nat) : Rat := mkRat ((s.incrNow n : Int) - 0x200000000) 0x200000000

/-- A write to SRC (R118, R119, R121). The table of R119 governs a follower only through its leader: LOCK of a former follower is ACQUIRING once its source is a measured one,
whatever it copied last; where one measured source replaces another LOCK stays as it is, because the table has no row for it (DEDUCED, log entry 105). -/
def srcWrite (n : Nat) (v : Word) (s : State) : State :=
  let old := s.tbSource n
  let new := fld v 0 4
  let ok := sourceOk n new
  let w := setFld (v &&& 0x1FF3F) 8 8 (if fld v 8 8 < 128 then fld v 8 8 else 127)
  let s := if ok then s else s.err (12 + n)
  let s := s.wr (Reg.TB.SRC n) (if ok then w else setFld w 0 4 old)
  if !ok || old == new then s
  else if new < 2 then s.moveLock n 0
  else if new == 9 || new == 10 then s.startFollow n
  else
    let s := s.setTb n { s.tb n with freq := s.departure n, measured := false, pull := false, good := 0, bad := 0 }
    if fld (s.rd (Reg.TB.LOCK n)) 0 2 == 0 || old == 9 || old == 10 then s.moveLock n 1 else s

/-- A write to FOLLOW_OFFSET (R119). -/
def followOffset (n : Nat) (v : Word) (s : State) : State := (s.wr (Reg.TB.FOLLOW_OFFSET n) v).startFollow n

/-! The tick. -/

/-- One time base at a tick (R109 to R113): INCR, then one step; a new follower is stepped to its leader's new COUNT. The second part says
whether SEC_PHASE wrapped, from 999,999,999 to 0 (R110): a backward step that takes it below 0 is no wrap, though the phase is the remainder modulo 1,000,000,000 (DEDUCED,
log entry 106). -/
def tbTick (n : Nat) (s : State) : State × Bool :=
  if !s.tbRuns n then (s, false)
  else
    let t := s.tb n
    let lead := if t.snapTo then s.tbLeader n else none
    let incr := match lead with | some l => (s.tb l).incr | none => t.newIncr.getD t.incr
    let sum := t.frac + incr
    let adv := sum / 2 ^ 32
    let run := t.count + W adv
    let step : Option Word := match lead with
      | some l => some ((s.tb l).count + s.rd (Reg.TB.FOLLOW_OFFSET n) - run)
      | none => t.steps.head?
    let v := step.getD 0
    let ph := ((t.phase + adv : Nat) : Int) + v.toInt
    let c := run + v
    let t' := { t with
      count := c
      ext := ((t.ext + adv : Nat) + v.toInt).toNat
      frac := match lead with | some l => (s.tb l).frac | none => sum % 2 ^ 32
      phase := (ph % 1000000000).toNat
      incr := incr
      newIncr := none
      steps := match lead with | some l => (s.tb l).steps | none => t.steps.drop 1
      stepSum := t.stepSum + v
      snapTo := false }
    let was := t.count.getLsbD 31
    let now := c.getLsbD 31
    let evts := (if was && !now then [0] else []) ++ (if !was && now then [1] else []) ++ (if step.isSome then [2] else [])
    (evts.foldl (fun a e => a.raise (12 + n) e) (s.setTb n t'), ph ≥ 1000000000)

/-- The lowest-numbered time base that drives PPS_OUT, or LTC_OUT (R123). -/
def outBase (s : State) (bitNo : Nat) : Option Nat := (List.range 4).find? (fun n => bit (s.rd (Reg.TB.OUT_CFG n)) bitNo)

/-- The width of a PPS_OUT pulse in ms (R130). -/
def ppsWidth (s : State) (n : Nat) : Nat := clampN 1 100 (fld (s.rd (Reg.TB.OUT_CFG n)) 1 7)

/-- SEC_PHASE of a time base wraps: PPS_OUT rises from the selected one (R123), the next edge of REF10M_IN, at a wrap of TB0, or WCLK_IN, at one of TB1, is captured (R122;
DESIGN CHOICE, log entry 107), and a late correction of the RTC is set at TB2's (R405). -/
def secWrap (n : Nat) (s : State) : State :=
  let s := if s.outBase 0 == some n then { s with ppsOut := true }.emit (.pps (s.ppsWidth n)) else s
  let arm := fun (k : Nat) (s : State) => if s.capArm.contains k then s else { s with capArm := s.capArm ++ [k] }
  if n == 0 then arm 1 s else if n == 1 then arm 3 s else if n == 2 then s.lateSetGo else s

/-- Frames a second of LTC_OUT (R130); none for the reserved value. -/
def ltcRate (s : State) (n : Nat) : Option Nat := [24, 25, 30][fld (s.rd (Reg.TB.OUT_CFG n)) 9 2]?

/-- The frame of the second that SEC_PHASE lies in. -/
def ltcFrame (rate phase : Nat) : Nat := phase * rate / 1000000000

/-- An LTC_OUT frame starts as a time base goes from SEC_PHASE `old` to its present one: it is the selected base, and SEC_PHASE has come to a whole multiple of the frame
period (R110, R123). -/
def ltcStarts (s : State) (n old : Nat) (wrapped : Bool) (phase : Nat) : Option Nat :=
  if s.outBase 8 != some n then none
  else
    match s.ltcRate n with
    | some r => if wrapped || ltcFrame r old < ltcFrame r phase then some (ltcFrame r phase) else none
    | none => none

/-- Two BCD digits. -/
def bcd (x : Nat) : Nat := x / 10 * 16 + x % 10

/-- The time address of an LTC frame (R123, R129): from the second of the extended time, and the frame. -/
def ltcAddress (t : TB) (frame : Nat) : Word :=
  let sec := (t.ext + 500000000 - t.phase) / 1000000000
  W (bcd frame + 0x100 * bcd (sec % 60) + 0x10000 * bcd (sec / 60 % 60) + 0x1000000 * bcd (sec / 3600 % 24))

/-- A time base ticks, with what its SEC_PHASE times (R110). -/
def tbStep (n : Nat) (s : State) : State :=
  let p := s.tbTick n
  let s' := if p.2 then p.1.secWrap n else p.1
  match s'.ltcStarts n (s.tb n).phase p.2 (s'.tb n).phase with
  | some k => s'.emit (.ltc (ltcAddress (s'.tb n) k))
  | none => s'

/-- The capture of a snap (R128). -/
def snapCapture (s : State) : State :=
  (List.range 4).foldl (fun a n =>
    let t := a.tb n
    ((a.wr (Reg.TB.SNAP_TIME n) t.count).wr (Reg.TB.SNAP_STEPS n) t.stepSum).wrFld (Reg.TB.SNAP_SEQ n) 0 16
      (fld (a.rd (Reg.TB.SNAP_SEQ n)) 0 16 + 1)) { s with snapPend := false }

/-- One 500 MHz tick of the four time bases, leaders before followers, and the capture of a pending snap (R109, R128). -/
def tbTicks (s : State) : State :=
  if !s.tbClock then s
  else
    let s := [0, 2, 1, 3].foldl (fun a n => a.tbStep n) s
    if s.snapPend then s.snapCapture else s

/-- Once a second UPTIME counts, saturating, while the module is out of COLD, and TRIAL_LEFT counts down (R66, R444). -/
def secondTick (s : State) : State :=
  if s.secAcc + 2 < 1000000000 then { s with secAcc := s.secAcc + 2 }
  else
    let s := { s with secAcc := s.secAcc + 2 - 1000000000 }
    let left := fld (s.rd Reg.UPD.TRIAL_LEFT) 0 16
    let s := if s.upd.trial.isSome && left != 0 then s.wr Reg.UPD.TRIAL_LEFT (W (left - 1)) else s
    if s.mode == .cold then s else s.bump Reg.SYS.UPTIME

/-- The 32.768 kHz oscillator over 2 ns of true time: an RTC tick each 1/32,768 s (R44). -/
def xtalTick (s : State) : State :=
  if !s.xtalOn then s
  else
    let a := s.rtc.acc + 2 * 32768
    if a < 1000000000 then s.setRtc { s.rtc with acc := a }
    else (s.setRtc { s.rtc with acc := a - 1000000000 }).rtcTick

/-- 2 ns of true time (DESIGN CHOICE, log entries 1 and 8): what happens whatever is commanded. -/
def tick (s : State) : State := ({ s with clock := s.clock + 2 }).tbTicks.xtalTick.secondTick

/-- Time base `n` after its next tick, and whether its SEC_PHASE wraps there; none if it does not tick. Its leaders tick before it. -/
def nextTb (s : State) (n : Nat) : Option (TB × Bool) :=
  if !s.tbRuns n then none
  else
    let before := [0, 2, 1].filter (fun m => m != n && (s.tbLeader n == some m || s.tbLeader n == some 2))
    let p := (before.foldl (fun a m => (a.tbTick m).1) s).tbTick n
    some (p.1.tb n, p.2)

/-! PTP (R121). -/

/-- A PTP instance. -/
def ptp (s : State) (b : Bool) : PtpInst := if b then s.ptpB else s.ptpA

/-- A PTP instance takes a value. -/
def setPtp (b : Bool) (p : PtpInst) (s : State) : State := if b then { s with ptpB := p } else { s with ptpA := p }

/-- SRC of the time base that names the instance's port and domain: TB0 for A, TB1 for B (R118, R121). -/
def ptpSrc (s : State) (b : Bool) : Word := s.rd (Reg.TB.SRC (b2n b))

/-- The rank of the module's own data set: priorities 128, class 248 (R121); accuracy, variance and identity are the model's (log
entry 21). -/
def ownRank (b : Bool) : List Nat := [128, 248, 0xFE, 0xFFFF, 128, (Config.clockIdentity b).toNat, 0, 0]

/-- The state that the BMCA gives an instance from the best Announce it holds. -/
def ptpDecide (s : State) (b : Bool) (best : Option Announce) : PtpState :=
  if bit (s.ptpSrc b) 16 then (if best.isSome then .slave else .listening)
  else
    match best with
    | none => .master
    | some a => if rankLt (announceRank a) (ownRank b) then .slave else .master

/-- The ETH port and the domain of an instance (R121, R130). -/
def ptpPort (s : State) (b : Bool) : Nat := fld (s.ptpSrc b) 4 2
def ptpDomain (s : State) (b : Bool) : Nat := clampN 0 127 (fld (s.ptpSrc b) 8 8)

/-- A message can be one of an instance (R121): SC runs it, on its port, in its domain, over UDP. -/
def ptpTakes (s : State) (b : Bool) (port : Nat) (tr : PtpTransport) (domain : Nat) : Bool :=
  s.proc 0 == 2 && s.dom 1 == 2 && s.up (104 + port) && port == s.ptpPort b && tr != .ethernet && domain == s.ptpDomain b

/-- An Announce is taken by the BMCA (R121): one of another port or domain, over Ethernet, or at another rate than a slave supports, is ignored. -/
def announce (b : Bool) (a : Announce) (s : State) : State :=
  if !s.ptpTakes b a.port a.transport a.domain.toNat || a.logInterval < -3 || 3 < a.logInterval then s
  else
    let old := (s.ptp b).best
    let best := match old with
      | none => a
      | some o => if o.sender == a.sender || rankLt (announceRank a) (announceRank o) then a else o
    s.setPtp b { s.ptp b with state := s.ptpDecide b (some best), best := some best }

/-- The current UTC offset from Announce, ns (R118). -/
def utcOffsetNs (s : State) : Int := match s.ptpA.best with | some a => a.utcOffset * 1000000000 | none => 0

/-- The offset of a time base that an exchange with the instance's master gives (R118, R119, R121): end-to-end delay; a two-step Sync needs its Follow_Up; TB2 is compared with
PTP time less the UTC offset; a synchronization metadata TLV aligns TB1. None of an exchange that the instance does not take. -/
def ptpOffset (s : State) (n : Nat) (x : PtpExchange) : Option Int :=
  let b := s.tbSource n == 3
  let p := s.ptp b
  let mine := match p.best with | some a => a.sender == x.sender | none => false
  if s.ptpTakes b x.port x.transport x.domain.toNat && s.ptpDecide b p.best == .slave && mine && -7 ≤ x.logSync && x.logSync ≤ 1 && (!x.twoStep || x.followUp) then
    let o := ((x.t2 - x.t1 - x.syncCorr) - (x.t4 - x.t3 - x.delayCorr)) / 2
    some (if n == 2 then o + s.utcOffsetNs
          else if n == 1 then (match x.sm.orElse (fun _ => p.sm) with | some t => o + Config.smAlign t | none => o)
          else o)
  else none

/-- A length reduced to within half a period about 0, in whole ns. -/
def reduceTo (p : Rat) (x : Rat) : Int := roundQ (x - p * (roundQ (x / p) : Int))

/-- The offset in phase of a time base from the edge of its input captured last (R118): SEC_PHASE for PPS_IN and WCLK_IN, the extended time for VREF_IN and LTC_IN, within
one reference period (DEDUCED, log entry 108); none while no period is known. -/
def edgeOffset (s : State) (n : Nat) : Option Int :=
  match sourceInput (s.tbSource n), s.refPeriod n with
  | some k, some p =>
    let e := Sparse.get (fun _ => (0, 0)) (s.tb n).edges k
    some (reduceTo p (((if k == 2 || k == 4 then e.2 else e.1) : Nat) : Rat))
  | _, _ => none

/-- The offset that a measurement gives and the nominal interval of its source in ns (R119). -/
def measureOf (s : State) (n : Nat) (m : Measurement) : Option (Int × Nat) :=
  match m with
  | .ptp x =>
    if s.tbSource n == 2 || s.tbSource n == 3 then
      (s.ptpOffset n x).map (fun o => (o, if 0 ≤ x.logSync then 1000000000 * 2 ^ x.logSync.toNat else 1000000000 / 2 ^ (-x.logSync).toNat))
    else none
  | .edge =>
    (s.edgeOffset n).map (fun o => (o, if s.tbSource n == 4 || s.tbSource n == 8 then (roundQ ((s.refPeriod n).getD 0)).toNat else 1000000000))

/-- A measurement of the source of a time base arrives (R119). While the frame period of VREF_IN or LTC_IN is not known the base stays ACQUIRING (R118). -/
def measured (n : Nat) (m : Measurement) (t : Nat) (s : State) : State :=
  let s := match m with
    | .ptp x => if s.tbSource n == 3 && x.sm.isSome && (s.ptpOffset n x).isSome then { s with ptpB := { s.ptpB with sm := x.sm } } else s
    | .edge => s
  match s.measureOf n m with
  | some p => s.servo n p.1 t p.2
  | none => if m == .edge && (s.tbSource n == 4 || s.tbSource n == 8) then s.moveLock n 1 else s

/-- A message of an instance, of a type and with a sequenceId. -/
def ptpOut (s : State) (b : Bool) (type seq : Nat) (log : Int) : PtpOut :=
  { type := type, port := s.ptpPort b, domain := s.ptpDomain b, seq := seq % 65536, logInterval := log, twoStep := false, time := none, req := 0 }

/-- The PTP time of an instance as its time base shows it. -/
def ptpTime (s : State) (b : Bool) : Nat := (s.tb (b2n b)).ext

/-- A PTP message enters egress queue 7 of its port (R121, R320). -/
def ptpQueue (b : Bool) (m : PtpOut) (s : State) : State :=
  let v6 := !bit (s.rd (Reg.ETH.IP4_CFG m.port)) 8 && bit (s.rd (Reg.ETH.IP6_CFG m.port)) 8
  s.ethOwn m.port 7 (udpBytes v6 (ptpBytes m.type)) (.ptp b m)

/-- A message interval expires or a message is due (R121): a master sends two-step Sync at -3, whose Follow_Up leaves with the stamp that its Sync got (ptpSent), and Announce at -2 and answers Delay_Req; a slave sends Delay_Req and negotiates
unicast transmission. Its sequenceIds count; the intervals of the other messages are those of IEEE 1588. -/
def ptpSend (b : Bool) (m : PtpMsg) (s : State) : State :=
  if s.proc 0 != 2 || s.dom 1 != 2 || !s.up (104 + s.ptpPort b) then s
  else
    let p := s.ptp b
    let st := s.ptpDecide b p.best
    let s := s.setPtp b { p with state := st }
    match st, m with
    | .master, .sync =>
      (s.setPtp b { p with state := st, syncSeq := p.syncSeq + 1 }).ptpQueue b { s.ptpOut b 0 p.syncSeq (-3) with twoStep := true }
    | .master, .announce => (s.setPtp b { p with state := st, announceSeq := p.announceSeq + 1 }).ptpQueue b (s.ptpOut b 11 p.announceSeq (-2))
    | .master, .delayResp q n => s.ptpQueue b { s.ptpOut b 9 n.toNat 0 with time := some (s.ptpTime b), req := q }
    | .slave, .delayReq => (s.setPtp b { p with state := st, delaySeq := p.delaySeq + 1 }).ptpQueue b (s.ptpOut b 1 p.delaySeq 127)
    | .slave, .unicastReq => (s.setPtp b { p with state := st, signalSeq := p.signalSeq + 1 }).ptpQueue b (s.ptpOut b 12 p.signalSeq 127)
    | _, _ => s

/-- A reference edge is captured in all four time bases (R122): of REF10M_IN and WCLK_IN only the first after each wrap of SEC_PHASE. The frame edges of VREF_IN and LTC_IN
are kept for their period (R118). -/
def refCapture (k : Nat) (code user : Word) (s : State) : State :=
  if !s.tbClock || ((k == 1 || k == 3) && !s.capArm.contains k) then s
  else
    let l := Sparse.get (fun _ => []) s.refEdges k ++ [s.clock]
    let s := { s with
      capArm := s.capArm.filter (fun x => x != k)
      refEdges := if k == 2 || k == 4 then Sparse.set (fun _ => []) s.refEdges k (l.drop (l.length - 16)) else s.refEdges }
    (List.range 4).foldl (fun a n =>
      if !a.tbRuns n then a
      else
        let t := a.tb n
        let a := (a.setTb n { t with edges := Sparse.set (fun _ => (0, 0)) t.edges k (t.phase, t.ext) }).wr (Reg.TB.CAP n k) t.count
        if k == 4 then (a.wr (Reg.TB.LTC_CODE_LO n) code).wr (Reg.TB.LTC_CODE_HI n) user else a) s

/-- A write to OUT_CFG (R123, R130): with no enable set PPS_OUT rests low. -/
def outCfg (n : Nat) (v : Word) (s : State) : State :=
  let s := s.wr (Reg.TB.OUT_CFG n) (v &&& 0x7FF)
  if (s.outBase 0).isNone then { s with ppsOut := false } else s

/-- A leap second (R120, R405): TB2 steps, and SC shifts the RTC. -/
def leap (positive : Bool) (s : State) : State :=
  if s.proc 0 != 2 || s.dom 1 != 2 then s
  else if positive then (s.pushStep 2 (BitVec.ofInt 32 (-1000000000))).rtcShift [-32768]
  else (s.pushStep 2 (BitVec.ofInt 32 1000000000)).rtcShift [32767, 1]

end State

/-- INCR_FRAC_WRITE (R111). -/
def execIncrFracWrite (r : Requester) (n : Fin 4) (v : Word) (s : State) : Out :=
  .next (s.access r (Reg.TB.INCR_FRAC n) v (State.incrFrac r n v))

/-- INCR_INT_WRITE (R111). -/
def execIncrIntWrite (r : Requester) (n : Fin 4) (v : Word) (s : State) : Out :=
  .next (s.access r (Reg.TB.INCR_INT n) v (State.incrInt r n v))

/-- ADJ_WRITE (R112). -/
def execAdjWrite (r : Requester) (n : Fin 4) (v : Word) (s : State) : Out :=
  .next (s.access r (Reg.TB.ADJ n) v (State.adj r n v))

/-- TB_STEP (R112): the tick at which a queued step of the time base applies. -/
def execTbStep (n : Fin 4) (s : State) : Out :=
  .next (if s.tbRuns n && (!(s.tb n).steps.isEmpty || (s.tb n).snapTo) then s.tick else s)

/-- TB_WRAP (R113): the tick at which bit 31 of COUNT changes from 1 to 0. -/
def execTbWrap (n : Fin 4) (s : State) : Out :=
  .next (match s.nextTb n with
    | some p => if (s.tb n).count.getLsbD 31 && !p.1.count.getLsbD 31 then s.tick else s
    | none => s)

/-- TB_HALF (R113): the tick at which bit 31 of COUNT changes from 0 to 1. -/
def execTbHalf (n : Fin 4) (s : State) : Out :=
  .next (match s.nextTb n with
    | some p => if !(s.tb n).count.getLsbD 31 && p.1.count.getLsbD 31 then s.tick else s
    | none => s)

/-- SEC_PHASE_WRAP (R110, R123): the tick at which SEC_PHASE wraps. -/
def execSecPhaseWrap (n : Fin 4) (s : State) : Out :=
  .next (match s.nextTb n with
    | some p => if p.2 then s.tick else s
    | none => s)

/-- PPS_OUT_END (R123). -/
def execPpsOutEnd (s : State) : Out := .next { s with ppsOut := false }

/-- A read of TIME latches STEP_SUM for its requester (R114). -/
def State.tbLatch (r : Requester) (n : Nat) (s : State) : State :=
  s.setTb n { s.tb n with latch := Sparse.set (fun _ => 0) (s.tb n).latch (reqIdx r) (s.tb n).stepSum }

/-- TIME_READ (R114). -/
def execTimeRead (r : Requester) (n : Fin 4) (s : State) : Out :=
  .next (s.readAccess r (Reg.TB.TIME n) (s.tb n).count (State.tbLatch r n))

/-- SRC_WRITE (R118). -/
def execSrcWrite (r : Requester) (n : Fin 4) (v : Word) (s : State) : Out :=
  .next (s.access r (Reg.TB.SRC n) v (fun a => (State.srcWrite n v a).fpSync))

/-- FOLLOW_OFFSET_WRITE (R119). -/
def execFollowOffsetWrite (r : Requester) (n : Fin 4) (v : Word) (s : State) : Out :=
  .next (s.access r (Reg.TB.FOLLOW_OFFSET n) v (State.followOffset n v))

/-- SERVO_MEASUREMENT (R119). -/
def execServoMeasurement (n : Fin 4) (m : Measurement) (t : Nat) (s : State) : Out :=
  .next (if s.tbMeasured n && s.tbRuns n && s.proc 0 == 2 then s.measured n m t else s)

/-- MEASUREMENT_TIMEOUT (R119). -/
def execMeasurementTimeout (n : Fin 4) (s : State) : Out := .next (s.measurementLost n)

/-- LEAP_SECOND (R120). -/
def execLeapSecond (positive : Bool) (s : State) : Out := .next (s.leap positive)

/-- REF_EDGE_CAPTURE (R122). -/
def execRefEdgeCapture (k : Fin 5) (code user : Word) (s : State) : Out := .next (s.refCapture k code user)

/-- SNAP_REQ (R128). -/
def execSnapReq (r : Requester) (n : Fin 4) (v : Word) (s : State) : Out :=
  .next (s.access r (Reg.TB.SNAP_REQ n) v (fun s => if bit v 0 then { s with snapPend := true } else s))

/-- SNAP_CAPTURE (R128): the tick after the request. -/
def execSnapCapture (s : State) : Out := .next (if s.snapPend && s.tbClock then s.tick else s)

/-- PTP_ANNOUNCE_RX (R121). -/
def execPtpAnnounceRx (instB : Bool) (a : Announce) (s : State) : Out := .next (s.announce instB a)

/-- PTP_MESSAGE_TX (R121). -/
def execPtpMessageTx (instB : Bool) (m : PtpMsg) (s : State) : Out := .next (s.ptpSend instB m)

/-- LTC_OUT_FRAME (R123): the tick at which SEC_PHASE comes to a whole multiple of the frame period. -/
def execLtcOutFrame (n : Fin 4) (s : State) : Out :=
  .next (match s.nextTb n with
    | some p => if (s.ltcStarts n (s.tb n).phase p.2 p.1.phase).isSome then s.tick else s
    | none => s)

end Sys2Proof.Machine
end

