-- ==== Sys2Proof/Machine/Plan.lean ====
section
/-!
DEFINITION. The plan: PP's checks (R134, R182, R228), link leads (R196, R279, R292, R296), the commit at FE, the swap and its completion (R15-R21, R36, R58,
R183, R185, R201-R203, R218, R276).
-/
namespace Sys2Proof.Machine

/-! The zone check (R134). Causes (R176): 1 reserved value or bit, 2 out of range, 3 mask order, 4 source out of range. -/

/-- The lowest of the causes that hold. -/
def lowest (l : List (Nat × Bool)) : Nat := ((l.filter (fun x => x.2)).map (fun x => x.1)).foldl (fun m c => if m == 0 || c < m then c else m) 0

/-- The cause of a zone header, 0 if it passes (R132). -/
def headerCause (p : Plan) (z : Nat) : Nat :=
  let h := p.zw z 0
  lowest
    [(1, h &&& ~~~(0x1F77F3 : Word) != 0 || 13 ≤ p.zRate z || fld (p.zw z 3) 16 16 != 0 ||
        p.zone.any (fun e => e.1 / 512 == z && e.2 != 0 && ((4 ≤ e.1 % 512 && e.1 % 512 < 16) || 272 ≤ e.1 % 512))),
      (2, 16 < p.zLayers z || p.zOffset z < -1000000 || 1000000 < p.zOffset z || fld (p.zw z 2) 0 16 == 0 || fld (p.zw z 2) 16 16 == 0)]

/-- The cause of a modulation route (R147). -/
def routeCause (a b : Word) : Nat :=
  let kind := fld a 0 2
  let tgt := fld a 4 4
  if kind == 0 then (if a &&& 0xFF0C != 0 then 1 else 0)
  else
    lowest
      [(1, a &&& 0xFF0C != 0 || (if kind == 1 then b &&& ~~~(0xF7 : Word) != 0 else b &&& ~~~(0x1FF07FF : Word) != 0)),
        (2, !(tgt == 0 || tgt == 3 || tgt == 5 || (7 ≤ tgt && tgt ≤ 14)) || (kind == 3 && 510 < fld b 16 9))]

/-- The cause of a layer descriptor (R136, R137, R141, R142). -/
def layerCause (p : Plan) (z l : Nat) : Nat :=
  let w := p.lw z l
  let type := fld (w 0) 0 4
  let src := fld (w 0) 16 11
  let aMask : Word := if type == 3 then 0xFFFF else if type == 5 then 1 else if type == 6 then 3 else if type == 7 then 0xFFFFFFFF
    else if type == 8 then 7 else 0
  let bMask : Word := if type == 3 then 0xFFFF else 0
  let r0 := routeCause (w 6) (w 7)
  let r1 := routeCause (w 8) (w 9)
  lowest
    [(1, 8 < type || 7 < fld (w 0) 4 4 || fld (w 0) 29 3 != 0 || (bit (w 0) 14 && !(1 ≤ type && type ≤ 3)) ||
        w 1 &&& ~~~aMask != 0 || w 2 &&& ~~~bMask != 0 || (type == 3 && 4 < fld (w 1) 12 4) ||
        [3, 4, 5].any (fun i => fld (w i) 20 12 != 0) || [10, 11, 12, 13, 14, 15].any (fun i => w i != 0)),
      (2, type == 3 && (fld (w 1) 0 12 == 0 || 2048 < fld (w 1) 0 12 || fld (w 2) 0 16 == 0)),
      (3, fld (w 0) 8 2 != 0 && l ≤ fld (w 0) 10 4),
      (4, if type == 3 then 2048 < src + fld (w 1) 0 12 else if type == 1 || type == 2 then 7 < src else src != 0),
      (r0, r0 != 0), (r1, r1 != 0)]

/-- ZONE_CHECK after a check of a plan's enabled zones (R134, R176): 0 if nothing fails. -/
def zoneCheck (p : Plan) : Word :=
  ((List.range 256).filter p.zEn).findSome? (fun z =>
    let h := headerCause p z
    if h != 0 then some (W (z + 0x1000 * h + 0x10000))
    else (List.range (p.zLayers z)).findSome? (fun l =>
      let c := layerCause p z l
      if c != 0 then some (W (z + 0x100 * l + 0x1000 * c)) else none)) |>.getD 0

namespace State

/-- A Gyzor port end. -/
def gz (s : State) (n : Nat) : GzPort := Sparse.get (fun _ => GzPort.init) s.gzPorts n

/-- A Gyzor port end takes a value. -/
def setGz (n : Nat) (g : GzPort) (s : State) : State := { s with gzPorts := Sparse.set (fun _ => GzPort.init) s.gzPorts n g }

/-- A node of a chain. -/
def gzNode (s : State) (n addr : Nat) : GzNode := Sparse.get (fun _ => GzNode.init) s.gzNodes (4096 * n + addr)

/-- A node takes a value. -/
def setNode (n addr : Nat) (x : GzNode) (s : State) : State :=
  { s with gzNodes := Sparse.set (fun _ => GzNode.init) s.gzNodes (4096 * n + addr) x }

/-- A ring is enabled (R280). -/
def ringOn (s : State) (k : Nat) : Bool := bit (s.rd (Reg.GZR.RING_CTL k)) 0

/-- The port end that enumerates a port's nodes: end A on a ring (R280). -/
def gzOwner (s : State) (n : Nat) : Nat := if s.ringOn (n / 2) then n / 2 * 2 else n

/-- Rate of a port end (R240). -/
def gzRate (s : State) (n : Nat) : Nat := fld (s.rd (Reg.GZP.LINE_CTL n)) 0 2

/-- Nodes of a chain that it serves (R270). -/
def gzCount (s : State) (n : Nat) : Nat := Nat.min 4096 (fld (s.rd (Reg.GZP.NODES (s.gzOwner n))) 0 13)

/-- The descriptor of a node, if it is compatible (R271, R272). -/
def gzCompat (s : State) (n addr : Nat) : Option (List Byte) :=
  match (s.gzNode (s.gzOwner n) addr).desc with
  | some d => if descOk d (s.gzRate n) then some d else none
  | none => none

/-- Length of a DMX packet in µs (R295). -/
def dmxPacket (s : State) (n : Nat) : Nat :=
  clampN 92 1000 (fld (s.rd (Reg.DMX.BREAK_MAB n)) 0 16) + clampN 12 1000 (fld (s.rd (Reg.DMX.BREAK_MAB n)) 16 16) +
    (clampN 24 512 (fld (s.rd (Reg.DMX.SLOTS n)) 0 10) + 1) * 44

/-- Time of a domino shift in ns (R288, R292). -/
def domShiftNs (s : State) (n : Nat) : Nat :=
  fld (s.rd (Reg.DOM.CHAIN_LEN n)) 0 13 * 64 * 40 * 2 ^ Nat.min 4 (fld (s.rd (Reg.DOM.CFG n)) 0 3)

/-- Link lead of a domino port, µs rounded up (R292). -/
def domLead (s : State) (n : Nat) : Nat := (s.domShiftNs n + 999) / 1000 + 1

/-- LAT_WIDTH of a domino port (R307). -/
def latWidth (s : State) (n : Nat) : Nat := clampN 500 10000 (fld (s.rd (Reg.DOM.CFG n)) 16 16)

/-- LINK_LEAD of a Gyzor port end under a plan (R279), in µs rounded up. -/
def gzLead (s : State) (p : Plan) (n : Nat) : Nat :=
  let cyc := clampN 100 10000 (fld (s.rd (Reg.GZP.GATE_CFG n)) 0 16)
  let ctrl := Nat.min (fld (s.rd (Reg.GZP.GATE_CFG n)) 16 16) (cyc / 20)
  let sym := (if s.ringOn (n / 2) then Nat.max (p.portSymbols (32 + n / 2 * 2)) (p.portSymbols (33 + n / 2 * 2)) else p.portSymbols (32 + n)) + 246
  let setup := (List.range (s.gzCount n)).foldl (fun m a => match s.gzCompat n a with | some d => Nat.max m (leAt d 16 2) | none => m) 0
  let far := (s.rd (Reg.GZP.D_FAR (s.gzOwner n))).toNat
  -- symbols x 10^6 / rate in kBd is ns
  let num := sym * 1000000 * cyc
  let den := symbolRate (s.gzRate n) * (cyc - ctrl)
  let rest := ctrl * 1000 + far + setup + 1000
  ((num + rest * den) + den * 1000 - 1) / (den * 1000)

/-- The link lead that a port reports, in µs (R196). -/
def portLead (s : State) (pg : Nat) : Nat :=
  if 32 ≤ pg && pg < 64 then fld (s.rd (Reg.GZP.LINK_LEAD (pg - 32))) 0 16
  else if 80 ≤ pg && pg < 96 then s.domLead (pg - 80)
  else s.dmxPacket (pg - 96) + 1

/-- A LINK_LEAD register takes a lead in µs; one that its 16 bits cannot hold leaves it free (DESIGN CHOICE, log entry 38). -/
def setLead (a v : Nat) (s : State) : State :=
  if v < 65536 then s.wrFld a 0 16 v else (s.wrFld a 0 16 s.freeW.toNat).useFree

/-- A zone's link lead in µs (R196). -/
def zoneLead (s : State) (p : Plan) (z : Nat) : Nat := (p.zonePorts z).foldl (fun m pg => Nat.max m (s.portLead pg)) 0

/-! The map check (R182). -/

/-- CAUSE 4 of an entry (R181, R291, R296): `first` gives the zone of the port's first checked entry. -/
def limitFail (s : State) (p : Plan) (first : Nat → Nat) (e : Nat) : Bool :=
  let w0 := p.mw e 0
  let kind := fld w0 9 2
  let n := fld w0 11 5
  let w := fld w0 16 2
  let pips := fld w0 18 3 + 1
  let dest := fld (p.mw e 4) 0 16
  let slot := fld (p.mw e 4) 16 16
  let z := p.eZone e
  let rate := p.zRate z
  -- the frame period in ns as a fraction num / den
  let num := 1000000000 * (rateOf rate).2
  let den := (rateOf rate).1
  if kind == 0 then
    match s.gzCompat n dest with
    | some d => !descTakes d w pips slot
    | none => true
  else if kind == 1 then
    w != 2 || 3 < pips || first (80 + n) != z || fld (s.rd (Reg.DOM.CHAIN_LEN n)) 0 13 ≤ dest ||
      num < (s.domShiftNs n + s.latWidth n + 100) * den
  else
    let per := if w == 0 then 1 else 2
    512 < dest + per * pips - 1 || clampN 24 512 (fld (s.rd (Reg.DMX.SLOTS n)) 0 10) < dest + per * pips - 1 || first (96 + n) != z ||
      num < (s.dmxPacket n + fld (s.rd (Reg.DMX.MTBP n)) 0 16) * 1000 * den

end State

/-- CAUSE 1 of an entry: a reserved value or bit (R180). -/
def entryReserved (p : Plan) (e : Nat) : Bool :=
  let w0 := p.mw e 0
  fld w0 9 2 == 3 || fld w0 16 2 == 3 || fld w0 22 10 != 0 || fld (p.mw e 3) 30 2 != 0 || fld (p.mw e 5) 24 8 != 0 ||
    p.mw e 6 != 0 || p.mw e 7 != 0

/-- CAUSE 2 of an entry: a field out of range (R180). -/
def entryRange (p : Plan) (e : Nat) : Bool :=
  let kind := fld (p.mw e 0) 9 2
  let dest := fld (p.mw e 4) 0 16
  let slot := fld (p.mw e 4) 16 16
  if kind == 0 then 4095 < dest
  else if kind == 1 then (p.ePage e).isNone || 6143 < dest || slot != 0
  else if kind == 2 then (p.ePage e).isNone || dest == 0 || 512 < dest || slot != 0
  else false

/-- Two entries clash under CAUSE 5: the same place, or DMX slots that overlap. -/
def entryClash (p : Plan) (a b : Nat) : Bool :=
  let key := fun e => (fld (p.mw e 0) 9 2, fld (p.mw e 0) 11 5)
  let d := fun e => fld (p.mw e 4) 0 16
  let len := fun e => (if fld (p.mw e 0) 16 2 == 0 then 1 else 2) * (fld (p.mw e 0) 18 3 + 1)
  key a == key b &&
    (if (key a).1 == 2 then d a < d b + len b && d b < d a + len a else p.mw a 4 == p.mw b 4)

/-- The valid entries of the tiles that the check covers (R182). -/
def checkedEntries (p : Plan) : List Nat :=
  let live := ((p.valid.filter (fun e => p.zEn (p.eZone e) && p.inPlan e)).map (fun e => e / 256)).eraseDups
  p.valid.filter (fun e => live.contains (e / 256))

/-- Entries that causes 1, 2, 4 and 5 cover: those of a port in the plan, and those that name no port at all. -/
def covered (p : Plan) (e : Nat) : Bool := p.inPlan e || (p.ePage e).isNone

namespace State

/-- MAP.CHECK after a check (R182, R209): 0 if nothing fails. Entries are examined in ascending order, each against those before it (DEDUCED, log entry
27). -/
def mapCheck (s : State) (p : Plan) : Word :=
  if 32768 < p.tiles then W (0x2000000 + 0x10000000)
  else
    let es := checkedEntries p
    let key := fun e => fld (p.mw e 0) 0 8 + 256 * fld (p.mw e 0) 9 7
    let first := fun pg => match es.find? (fun e => p.ePage e == some pg) with | some e => p.eZone e | none => 0
    es.findSome? (fun e =>
      let before := es.filter (fun x => x < e)
      let own := covered p e
      let c := lowest
        [(1, own && entryReserved p e), (2, own && entryRange p e),
          (3, before.any (fun x => x / 256 == e / 256 && key x != key e)),
          (4, own && s.limitFail p first e),
          (5, own && before.any (fun x => covered p x && entryClash p x e))]
      if c != 0 then some (W (e + 0x1000000 * c)) else none) |>.getD 0

/-! The check of profiles and fixtures (R228). -/

/-- Word `w` of the registry record of a fleet ID (R382). -/
def regw (s : State) (f w : Nat) : Word := Sparse.get (fun _ => 0) s.registry (64 * f + w)

/-- Trim e of a registry record (R382). -/
def regTrim (s : State) (f e : Nat) : Nat := fld (s.regw f (4 + e / 2)) (16 * (e % 2)) 16

/-- What PP copies of a fixture (R218). -/
def fixCopy (s : State) (f : Nat) : FixCopy :=
  { profile := fld (s.regw f 1) 0 12, trims := (List.range 8).map (s.regTrim f) }

end State

/-- A trim within R218. -/
def trimOk (t : Nat) : Bool := 0x2000 ≤ t && t ≤ 0x6000

/-- CAUSES 1 to 4 of a profile (R228), 0 if it passes. -/
def profileCause (p : Plan) (pr : Nat) : Nat :=
  let w := p.pw pr
  let n := p.emitters pr
  let ch := fun i => p.solveCh pr i
  let small := n ≤ 3
  let reserved :=
    fld (w 0) 17 15 != 0 || fld (w 1) 24 8 != 0 || fld (w 5) 16 16 != 0 || fld (w 6) 16 16 != 0 || fld (w 7) 16 16 != 0 ||
      6 ≤ fld (w 0) 13 3 || (small && (List.range 3).any (fun i => 6 ≤ ch i)) ||
      p.prof.any (fun x => x.1 / 512 == pr && x.2 != 0 &&
        (let i := x.1 % 512
         (8 ≤ i && i < 16) || 336 ≤ i ||
          (16 ≤ i && i < 336 &&
            (let j := (i - 16) % 8
             (n ≤ (i - 16) % 64 / 8) || j == 7 || (j == 6 && fld x.2 17 15 != 0) || (j < 6 && fld x.2 20 12 != 0)))))
  let range :=
    fld (w 2) 0 16 == 0 || (List.range 5).any (fun s => (List.range n).any (fun e => 0x10000 < fld (w (16 + 64 * s + 8 * e + 6)) 0 17)) ||
      (small && ((List.range n).any (fun i => (List.range i).any (fun j => ch i == ch j) || p.weight pr (ch i) == 0)))
  let singular := fun b =>
    if small then
      let m := p.solveMat pr b
      let norm2 := fun e => (List.range n).foldl (fun (a : Rat) i => a + m.at i e * m.at i e) 0
      let prod := (List.range n).foldl (fun (a : Rat) e => a * norm2 e) 1
      let d := m.det n
      prod == 0 || d * d * ((2 ^ 40 : Nat) : Rat) < prod
    else
      let m := p.solveMat pr b
      (List.range n).all (fun i => m.at i i == 0)
  let big := fun b => match p.solveP pr b with
    | some m => m.any (fun r => r.any (fun x => let y := r24 x; y < -128 || 128 ≤ y))
    | none => false
  lowest [(1, reserved), (2, range), (3, (List.range 64).any singular), (4, (List.range 64).any big)]

namespace State

/-- CLR.CHECK after a check (R228, R237): 0 if nothing fails. -/
def clrCheck (s : State) (p : Plan) : Word :=
  let es := (checkedEntries p).filter p.inPlan
  let zonesOf := fun f => ((p.valid.filter (fun e => p.eFleet e == f)).map p.eZone).eraseDups
  let fail := fun (c item : Nat) (fleet : Bool) => some (W (item + 0x100000 * c + 0x1000000 * b2n fleet))
  es.findSome? (fun e =>
    let f := p.eFleet e
    let fx := s.fixCopy f
    let pr := fx.profile
    let n := p.emitters pr
    if !bit (s.regw f 0) 0 || !bit (p.pw pr 0) 0 then fail 6 f true
    else if 1 < (zonesOf f).length then fail 7 f true
    else
      let first := !(es.any (fun x => x < e && (s.fixCopy (p.eFleet x)).profile == pr))
      let c := if first then profileCause p pr else 0
      if c != 0 then fail c pr false
      else if (List.range n).any (fun i => !trimOk (fx.trims.getD i 0)) then fail 2 f true
      else if (List.range (fld (p.mw e 0) 18 3 + 1)).any (fun k => n ≤ fld (p.mw e 5) (3 * k) 3) then fail 5 f true
      else none) |>.getD 0

/-- The plan that PP would commit now: the shadow banks, the READY ports, the fixtures of the map (R58, R218). -/
def candidate (s : State) : Plan :=
  let p : Plan := { epoch := s.plan.epoch + 1
                    tiles := fld (Sparse.get (fun a => s.rd a) s.shadow Reg.MAP.TILES) 0 16
                    map := s.mapSh
                    zone := s.zoneSh
                    prof := s.profSh
                    fix := []
                    ports := portPages.filter (fun pg => s.code pg == 2) }
  { p with fix := ((p.valid.map p.eFleet).eraseDups).foldl (fun m f => Sparse.set (fun _ => ⟨0, []⟩) m f (s.fixCopy f)) [] }

/-- The three checks: each rewrites its register, and a failure raises its event (R134, R182, R228). Whether all pass. -/
def planChecks (p : Plan) (s : State) : State × Bool :=
  let z := zoneCheck p
  let m := s.mapCheck p
  let c := s.clrCheck p
  let s := s.wr Reg.DMK.ZONE_CHECK z
  let s := if z == 0 then s else s.raise 23 0
  let s := s.wr Reg.MAP.CHECK m
  let s := if m == 0 then s else s.raise 18 0
  let s := s.wr Reg.CLR.CHECK c
  let s := if c == 0 then s else s.raise 19 0
  (s, z == 0 && m == 0 && c == 0)

/-- Lanes that carry work (R186). -/
def lanesActive (s : State) : Nat := fld (s.rd Reg.LANE.ACTIVE) 0 7

/-- The load of a plan in cycles per second (R185). -/
def planCycles (p : Plan) : Rat :=
  ((List.range 256).filter p.zEn).foldl (fun (a : Rat) z =>
    a + ((p.zoneTiles z).length * tileCycles (p.zLayers z) : Nat) * mkRat (rateOf (p.zRate z)).1 (rateOf (p.zRate z)).2) 0

/-- PLAN_LOAD, truncated to 0.1 % (R185), and FE event bit 4 above 100 % where `report` asks for it. -/
def setLoad (report : Bool) (s : State) : State :=
  let cap := s.lanesActive * 800000000
  let c := planCycles s.plan
  let tooMuch := (cap : Rat) < c
  let v := if cap == 0 then (if c == 0 then 0 else 65535) else sat16 (c * 1000 / (cap : Nat)).floor
  let s := s.wr Reg.FE.PLAN_LOAD (W v)
  if report && tooMuch then s.raise 16 4 else s

/-- TB1 less TB0 at this tick (R194). -/
def tb10 (s : State) : Word := (s.tb 1).count - (s.tb 0).count

/-- A zone in FE. -/
def zrun (s : State) (z : Nat) : ZoneRun := Sparse.get (fun _ => ZoneRun.init) s.zruns z

/-- A zone in FE takes a value. -/
def setZrun (z : Nat) (r : ZoneRun) (s : State) : State := { s with zruns := Sparse.set (fun _ => ZoneRun.init) s.zruns z r }

/-- How far ahead of now the PT of the last frame begun in each zone lies, in ns on the zone's extended time base (R18, R194). -/
def begunAhead (s : State) : List Int := s.zruns.filterMap (fun e => e.2.begun.map (fun pt => pt - ((s.tb e.2.grid.2).ext : Int)))

/-- The earliest PT_c that R18 allows, not before now (R202; DEDUCED, log entry 28). -/
def earliestPt (s : State) : Word := (s.tb 0).count + BitVec.ofInt 32 (s.begunAhead.foldl (fun m a => if m < a + 1 then a + 1 else m) 0)

/-- A commit at `pt` is late (R18): a frame of that time or later has begun in some zone. -/
def commitLate (s : State) (pt : Word) : Bool := s.begunAhead.any (fun a => (pt - (s.tb 0).count).toInt ≤ a)

/-- A count of a time base, nearest to now, on its extended time (R115). -/
def extOf (s : State) (n : Nat) (w : Word) : Int := ((s.tb n).ext : Int) + (w - (s.tb n).count).toInt

/-- PT_c for a zone of a plan, on the extended time base of the zone (R17). -/
def ptcOf (s : State) (p : Plan) (z : Nat) : Int := if p.zTb z == 1 then s.ptc1 else s.ptc

/-- A frame of a zone's old plan is still to begin before PT_c (R19, R203). -/
def oldDue (s : State) (old : Plan) (z : Nat) : Bool :=
  old.zEn z && (s.zrun z).grid == (old.zRate z, old.zTb z) &&
    match gridBefore (old.zRate z) (s.ptcOf old z) with
    | some k =>
      (match (s.zrun z).lastK with | some l => decide (l < k) | none => true) &&
        ((s.tb (old.zTb z)).ext : Int) ≤ (gridNs (old.zRate z) k : Nat) - ((periodsNs (old.zRate z) (old.zLead z) : Nat) : Int)
    | none => false

/-- The armed cue of a zone that a commit disables is cancelled (R146). -/
def cueCancel (z : Nat) (s : State) : State :=
  if s.cueArm.any (fun c => c.1 == z) then
    let s := { s with cueArm := s.cueArm.filter (fun c => c.1 != z) }.wrBit (Reg.DMK.CUE_PEND (z / 32)) (z % 32) false
    if fld (s.rd Reg.DMK.CUE_STATUS) 0 8 == z then s.wrFld Reg.DMK.CUE_STATUS 8 3 6 else s
  else s

/-- T_J of a fixture whose record no strike has updated keeps the SINK_DEFAULT that it started from when a commit changes it (R232). -/
def keepTj (old p : Plan) (s : State) : State :=
  { s with thm := (old.fix.map (fun e => e.1)).foldl (fun m f =>
      let sink := fun (q : Plan) => 8 * sfld (q.pw (Sparse.get (fun _ => ⟨0, []⟩) q.fix f : FixCopy).profile 5) 8 8
      if sink old == sink p then m
      else Sparse.upd (fun _ => ThmRec.init) m f (fun t => { t with tj := some (t.tj.getD (sink old)) })) s.thm }

/-- The result that FE gives a commit (R201): 5 HOLD mode, 4 swap pending, 3 late, 1 accepted. -/
def commitResult (s : State) (pt : Word) : Nat :=
  if s.mode == .hold then 5 else if s.planOld.isSome then 4 else if s.commitLate pt then 3 else 1

/-- LINE_STATUS.STATE of a port end is UP (R243, R256). -/
def lineUp (s : State) (n : Nat) : Bool := fld (s.rd (Reg.GZP.LINE_STATUS n)) 0 3 == 4

/-- A change of a port end. -/
def updGz (n : Nat) (f : GzPort → GzPort) (s : State) : State := s.setGz n (f (s.gz n))

/-- RING_STATUS.STATE of a ring (R282). -/
def ringSt (s : State) (k : Nat) : Nat := fld (s.rd (Reg.GZR.RING_STATUS k)) 0 3

/-- An activation or a revert of LNK pauses a port end (R447). -/
def lnkPaused (s : State) (n : Nat) : Bool := s.upd.pause.isSome && s.upd.port == some n

/-- The port ends that carry a port's frames (R270, R280, R282, R447): the port end itself, or the ends of a ring that are UP and not paused; while a ring enumerates, the one that it enumerates
from, whose frames the other end loops. -/
def gzEnds (s : State) (n : Nat) : List Nat :=
  if s.ringOn (n / 2) then
    let l := [n / 2 * 2, n / 2 * 2 + 1].filter (fun e => s.lineUp e && !s.lnkPaused e)
    if s.ringSt (n / 2) == 1 then l.take 1 else l
  else if s.lineUp n then [n] else []

/-- A frame leaves a port end, in line code (R258, R259). -/
def gzOut (e : Nat) (frame : List Byte) (s : State) : State :=
  let c := lineCode (s.gz e).rd frame
  (s.updGz e (fun g => { g with rd := c.2 })).emit (.gz e frame c.1)

/-- TX_PIX and TX_STRIKE count the frames of their TYPE (R285). -/
def txCount (e type : Nat) (s : State) : State :=
  if type == 1 then s.bumpWrap (Reg.GZP.TX_PIX e) else if type == 2 then s.bumpWrap (Reg.GZP.TX_STRIKE e) else s

/-- A frame with the next SEQ leaves a port (R258, R261, R280): on a ring at each end that carries its frames, with ORIGIN in SYNC and STRIKE (R260); `payload` gives it for each
end. Where no end is UP there is no frame, and no SEQ. -/
def gzPut (n type : Nat) (bcast : Bool) (addr : Nat) (payload : Nat → List Byte) (s : State) : State :=
  let o := s.gzOwner n
  let seq := (s.gz o).seq
  let ends := s.gzEnds n
  if ends.isEmpty then s
  else
    ends.foldl (fun a e =>
        (a.gzOut e (gzFrame type bcast (s.ringOn (n / 2) && e % 2 == 1 && (type == 2 || type == 3)) addr seq (payload e))).txCount e type)
      (s.updGz o (fun g => { g with seq := (seq + 1) % 65536 }))

/-- A PIX or STRIKE frame leaves a port. -/
def gzSend (n type : Nat) (bcast : Bool) (addr : Nat) (payload : List Byte) (s : State) : State := s.gzPut n type bcast addr (fun _ => payload)

/-! Windows (R27, R28, R278). -/

/-- Time of `symbols` line symbols of a port, ns rounded up (R240). -/
def symbolNs (s : State) (n symbols : Nat) : Nat := (symbols * 1000000 + symbolRate (s.gzRate n) - 1) / symbolRate (s.gzRate n)

/-- The gate cycle of a port and its CTRL window, ns. -/
def gateCycle (s : State) (n : Nat) : Nat := 1000 * clampN 100 10000 (fld (s.rd (Reg.GZP.GATE_CFG n)) 0 16)
def gateCtrl (s : State) (n : Nat) : Nat := Nat.min (1000 * fld (s.rd (Reg.GZP.GATE_CFG n)) 16 16) (s.gateCycle n / 20)

/-- Time into the gate cycle: TB0 COUNT modulo the cycle. -/
def gateInto (s : State) (n : Nat) : Nat := (s.tb 0).count.toNat % s.gateCycle n

/-- What is left of the CTRL window, and of the DATA window; 0 outside them. -/
def ctrlLeft (s : State) (n : Nat) : Nat := s.gateCtrl n - s.gateInto n
def dataLeft (s : State) (n : Nat) : Nat := if s.gateInto n < s.gateCtrl n then 0 else s.gateCycle n - s.gateInto n

/-- PIX or a STRIKE waits at the pages of a port. -/
def gzBusy (s : State) (n : Nat) : Bool :=
  [n / 2 * 2, n / 2 * 2 + 1].any (fun e => s.gzOwner e == s.gzOwner n && (!(Sparse.get (fun _ => []) s.portQ (32 + e)).isEmpty || !(s.portTiles (32 + e)).isEmpty))

end State

/-- A frame goes in the DATA window: PIX and STRIKE. -/
def GzReq.data (r : GzReq) : Bool := r.type == 1 || r.type == 2

namespace State

/-- The window in which a frame may start now: the DATA window for PIX and STRIKE, else the CTRL window, and for MGMT on a chain with no PIX or STRIKE waiting also the DATA window. -/
def gateLeft (s : State) (n : Nat) (r : GzReq) : Nat :=
  if r.data then s.dataLeft n
  else if r.type == 4 && !s.ringOn (n / 2) && !s.gzBusy n then Nat.max (s.ctrlLeft n) (s.dataLeft n)
  else s.ctrlLeft n

/-- The SYNC payload at one end (R267), `late` ns from now: on a closed ring the traversals of one earlier SYNC, else the round trip of the end's own. -/
def syncFor (s : State) (n late e : Nat) : List Byte :=
  let dep := (s.tb 0).count + W late
  let m := if s.ringOn (n / 2) && s.ringSt (n / 2) == 2 then ((s.gz (s.gzOwner n)).pair).getD (0, 0, 0)
    else match (s.gz e).echo with | some x => (x.1, x.2, 0) | none => (0, 0, 0)
  syncPayload dep m.1 m.2.1 m.2.2

/-- A waiting frame departs, `late` ns from now; RT shows the RT_A that a SYNC carries (R285). -/
def gzDepart (n late : Nat) (r : GzReq) (s : State) : State :=
  let pay := fun e => if r.type == 3 then s.syncFor n late e else r.payload
  let s' := s.gzPut n r.type r.bcast r.addr pay
  if r.type == 3 then (s.gzEnds n).foldl (fun a e => a.wr (Reg.GZP.RT e) (W (leAt (pay e) 8 4))) s' else s'

/-- What of the frames that wait departs now, one after another, while each, and on a ring its reply train, ends before its window closes (R28, R274, R278); `late` ns from now the next may
start, and `full` says of each kind of window that a frame before did not fit. Frames of one window keep their order. The safe look's frames wait in HOLD mode only (R265). -/
def gzPump (n : Nat) : List GzReq → Nat → Bool × Bool → List GzReq → State → State
  | [], _, _, kept, s => s.updGz n (fun g => { g with wait := kept })
  | r :: t, late, full, kept, s =>
    let dur := s.symbolNs n (lineSymbols (12 + (if r.type == 3 then 20 else r.payload.length)))
    let busy := if s.ringOn (n / 2) then Nat.max dur r.train else dur
    if r.data && s.mode != .hold then gzPump n t late full kept s
    else if if r.data then full.1 else full.2 then gzPump n t late full (kept ++ [r]) s
    else if late + Nat.max dur r.train < s.gateLeft n r then gzPump n t (late + busy) full kept (s.gzDepart n late r)
    else gzPump n t late (full.1 || r.data, full.2 || !r.data) (kept ++ [r]) s

/-- What waits for a window departs as far as it can; with no end UP it is gone. -/
def gzGate (n : Nat) (s : State) : State :=
  let o := s.gzOwner n
  if (s.gzEnds n).isEmpty then s.updGz o (fun g => { g with wait := [] }) else s.gzPump o (s.gz o).wait 0 (false, false) []

/-- A frame joins what waits for a window of its port (R278). -/
def gzCtl (n : Nat) (r : GzReq) (s : State) : State :=
  if (s.gzEnds n).isEmpty then s else (s.updGz (s.gzOwner n) (fun g => { g with wait := g.wait ++ [r] })).gzGate n

/-- An MGMT frame (R273): SUBTYPE, three reserved bytes, the rest. -/
def gzMgmt (n : Nat) (bcast : Bool) (addr sub : Nat) (rest : List Byte) (s : State) : State :=
  s.gzCtl n { type := 4, bcast := bcast, addr := addr, payload := [BitVec.ofNat 8 sub, 0, 0, 0] ++ rest, train := 0 }

/-- The pages whose map entries a port's nodes serve: both ends of a ring. -/
def gzPages (s : State) (n : Nat) : List Nat :=
  if s.ringOn (n / 2) then [32 + n / 2 * 2, 32 + n / 2 * 2 + 1] else [32 + n]

/-- The slot runs of a node in a plan (R273). -/
def gzRuns (s : State) (p : Plan) (n addr : Nat) : List (Nat × Nat × Nat × Nat) := ((s.gzPages n).map (fun pg => p.nodeRuns pg addr)).flatten

/-- Settings for the next epoch, that of plan `p`, go to the nodes of a port (R276): SETTINGS where the slot runs change, then one CARRY. -/
def sendSettings (old p : Plan) (n : Nat) (s : State) : State :=
  if s.gzOwner n != n then s
  else
    let s := (List.range (s.gzCount n)).foldl (fun a addr =>
      let a := a.setNode n addr { a.gzNode n addr with confirmed := false }
      let runs := a.gzRuns p n addr
      if runs == a.gzRuns old n addr || runs.isEmpty then a
      else a.gzMgmt n false addr 3 ((settingsPayload p.epoch runs).drop 4)) s
    let s := s.updGz n (fun g => { g with epochSent := p.epoch })
    let s := s.gzMgmt n true 0 4 (leBytes 4 old.epoch.toNat ++ leBytes 4 p.epoch.toNat)
    s.wrFld (Reg.GZP.SETTINGS_PEND n) 0 13 (s.gzCount n)

/-- The Gyzor ports of a plan. -/
def planGz (p : Plan) : List Nat := (p.ports.filter (fun pg => 32 ≤ pg && pg < 64)).map (fun pg => pg - 32)

/-- PP has filled the shadow banks (R21, R276): the ports tell their nodes the settings of the next epoch, unless a swap or HOLD mode keeps the commit off. -/
def prepare (p : Plan) (s : State) : State :=
  if s.planOld.isSome || s.mode == .hold then s else (planGz p).foldl (fun a n => a.sendSettings s.plan p n) s

/-- An accepted commit (R16, R19, R35, R183, R185, R201, R202): durable first, then every plan-coupled block swaps; a zone that it disables and whose last frame has
passed its sample instant loses its armed cue (R146). -/
def acceptCommit (p : Plan) (pt : Word) (s : State) : State :=
  let old := s.plan
  let s := { s with plan := p, planOld := some old, ptc := s.extOf 0 pt, ptc1 := s.extOf 1 (pt + s.tb10), entered := [], flipped := [], planAsked := false }.journal s
  let s := ((s.keepTj old p).wr Reg.FE.COMMIT_PT1 (pt + s.tb10)).wrFld Reg.FE.COMMIT_STATUS 0 3 1
  let s := s.wrFld Reg.FE.COMMIT_AT_CTL 0 1 0
  let s := (allPages.filter (fun pg => planCoupled pg && s.code pg != 0)).foldl
    (fun a pg => a.updBlk pg (fun b => { b with swapPend := true })) s
  let s := s.setLoad true
  let s := (List.range 256).foldl (fun a z => a.wrFld (Reg.FE.ZONE_STATE z) 2 1 (b2n (p.zEn z))) s
  let s := ((List.range 256).filter (fun z => old.zEn z && !p.zEn z && !s.oldDue old z)).foldl (fun a z => a.cueCancel z) s
  -- the ports of the plan: link lead, and PIX again for nodes whose SERIAL had changed (R272, R279)
  (planGz p).foldl (fun a n => (a.updGz n (fun g => { g with changed := [] })).setLead (Reg.GZP.LINK_LEAD n) (a.gzLead p n)) s

/-- FE decides a commit of plan `p` at `pt` whole (R18, R201). -/
def feCommit (p : Plan) (pt : Word) (s : State) : State :=
  let s := s.wr Reg.FE.COMMIT_PT pt
  let c := s.commitResult pt
  if c == 1 then s.acceptCommit p pt else (s.wrFld Reg.FE.COMMIT_STATUS 0 3 c).raise 16 1

/-- FE can take a commit: its page is reachable and it has started. -/
def feUp (s : State) : Bool := s.reach 16 && (s.code 16 == 2 || s.code 16 == 6)

/-- FE holds back a priority for want of DSP's credits, and with it PP's work-list queue (R190). -/
def feBlocked (s : State) : Bool := s.frames.any (fun f => !f.queued.isEmpty)

/-- PP carries out a plan commit (R20, R21, R36, R47, R190, R202): checks, then COMMIT_AT if it is valid and FE does not find it late, else the earliest instant. -/
def planCommit (s : State) : State :=
  if s.proc 1 != 2 || s.mode == .hold || s.mode == .cold || s.failSeq || !s.feUp || s.feBlocked then s
  else
    let p := s.candidate
    let c := s.planChecks p
    let s := c.1
    let s := if c.2 then s.prepare p else s
    if !c.2 then s
    else if bit (s.rd Reg.FE.COMMIT_AT_CTL) 0 then
      let at_ := s.rd Reg.FE.COMMIT_AT
      let s := s.feCommit p at_
      if fld (s.rd Reg.FE.COMMIT_STATUS) 0 3 == 3 then
        s.feCommit p (if serialLt s.earliestPt at_ then at_ else s.earliestPt)
      else s
    else s.feCommit p s.earliestPt

/-- What the active bank of a page shows once it has flipped (R183, R207, R209, R237). -/
def showBank (pg : Nat) (s : State) : State :=
  let p := s.plan
  if pg == 16 then s.wr Reg.FE.EPOCH p.epoch
  else if pg == 18 then
    let v := p.valid
    let s := ((s.wr Reg.MAP.EPOCH p.epoch).wr Reg.MAP.VALID_COUNT (W v.length)).wr Reg.MAP.TILES (W p.tiles)
    (List.range 256).foldl (fun a z => a.wr (Reg.MAP.ZONE_SLOTS z) (W (v.filter (fun e => p.eZone e == z)).length)) s
  else if pg == 19 then
    s.wr Reg.CLR.PROFILES (W ((p.prof.filter (fun e => e.1 % 512 == 0 && bit e.2 0)).length))
  else s

/-- Work of an epoch enters plan-coupled pages: where it is the new epoch of a swap, their banks may flip (R19). -/
def enter (pgs : List Nat) (e : Word) (s : State) : State :=
  if s.planOld.isSome && e == s.plan.epoch then { s with entered := (s.entered ++ pgs).eraseDups } else s

/-- BANK.active of a plan-coupled page flips, and its swap count increments (R19). -/
def bankFlip (pg : Nat) (s : State) : State :=
  if s.planOld.isSome && planCoupled pg && (s.blk pg).swapPend && !s.flipped.contains pg then
    ({ s with flipped := s.flipped ++ [pg] }.updBlk pg (fun b => { b with bank := !b.bank, swapCount := b.swapCount + 1 })).applyShadow pg
      |>.showBank pg
  else s

/-- An epoch is the old one of a swap. -/
def isOld (s : State) (e : Word) : Bool := match s.planOld with | some p => p.epoch == e | none => false

/-- Old-epoch work is still on its way (R19): a frame that has begun or is still to begin, a tile or a strike at a port, or a domino chain's shifted frame. A port that is OFF
is taken to have sent its own (R83). -/
def oldWork (s : State) : Bool :=
  s.frames.any (fun f => s.isOld f.epoch) ||
    s.portQ.any (fun q => s.code q.1 != 0 && q.2.any (fun i => s.isOld i.epoch)) ||
    s.tileQ.any (fun q => s.code (pairPage q.1) != 0 && q.2.any (fun t => s.isOld t.epoch)) ||
    s.doms.any (fun d => match d.2.shift with | some f => s.isOld f.epoch | none => false) ||
    (match s.planOld with | some old => (List.range 256).any (s.oldDue old) | none => false)

/-- A zone that the swap disables: its HOLD and BLACKOUT clear, its armed cue and command are cancelled (R146, R203, R207). -/
def zoneGone (z : Nat) (s : State) : State := ((s.wrFld (Reg.FE.ZONE_STATE z) 0 2 0).setZrun z ZoneRun.init).cueCancel z

/-- The swap completes (R19, R86, R183, R201): the remaining banks flip, the old ones retire, SWAP_PEND clears, FE event bit 2. -/
def commitComplete (s : State) : State :=
  match s.planOld with
  | none => s
  | some old =>
    if s.oldWork then s
    else
      let s := (allPages.filter planCoupled).foldl (fun a pg => a.bankFlip pg) s
      let s := ((List.range 256).filter (fun z => old.zEn z && !s.plan.zEn z)).foldl (fun a z => a.zoneGone z) s
      let s := (allPages.filter planCoupled).foldl (fun a pg => a.updBlk pg (fun b => { b with swapPend := false })) s
      ({ s with planOld := none, entered := [], flipped := [] }.wrFld Reg.FE.COMMIT_STATUS 0 3 2).raise 16 2

end State

/-- PLAN_COMMIT (R21). -/
def execPlanCommit (s : State) : Out := .next s.planCommit

/-- COMMIT_GO (R201). -/
def execCommitGo (r : Requester) (v : Word) (s : State) : Out :=
  .next (s.access r Reg.FE.COMMIT_GO v (fun s => if bit v 0 then (s.prepare s.candidate).feCommit s.candidate (s.rd Reg.FE.COMMIT_PT) else s))

/-- BANK_FLIP (R19): the first new-epoch item has entered the page. -/
def execBankFlip (pg : Fin 256) (s : State) : Out := .next (if s.entered.contains pg.val then s.bankFlip pg else s)

/-- COMMIT_COMPLETE (R19). -/
def execCommitComplete (s : State) : Out := .next s.commitComplete

end Sys2Proof.Machine
end

