-- ==== Sys2Proof/Machine/Sources.lean ====
section
/-!
DEFINITION. The sources of the layers: live video (R148-R152), clips (R155-R162), control universes (R163-R168), audio analysis (R169-R171), and what a layer
takes of them at its sample instant (R135).
-/
namespace Sys2Proof.Machine

/-! Live video. -/

/-- Units of a stream by its S_CTL (R149). -/
def vinCost (c : Word) : Nat := if fld c 4 2 == 1 then 4 else 1

/-- The picture size of a FORMAT (R173). -/
def vinSize (f : Nat) : Nat × Nat := if f == 0 then (1920, 1080) else if f == 1 then (3840, 2160) else (1280, 720)

/-- A colorimetry that a transfer does not go with (R148): BT.709 takes SDR only. -/
def colourClash (transfer colorimetry : Nat) : Bool := transfer != 0 && colorimetry == 0

/-- S_CTL holds a reserved value, or a combination that R148 does not support (R173; DEDUCED, log entry 29). -/
def vinReserved (c : Word) : Bool :=
  fld c 1 2 == 3 || fld c 4 2 == 3 || 8 < fld c 6 4 || fld c 10 2 == 3 || 2 ≤ fld c 12 2 || colourClash (fld c 10 2) (fld c 12 2)

/-- Every packet of a picture has arrived (R151). -/
def Picture.complete (p : Picture) : Bool :=
  match p.first, p.last with
  | some a, some b => (b - a).toNat + 1 == p.seqs.length
  | _, _ => false

namespace State

/-- A stream. -/
def vin (s : State) (n : Nat) : VinStream := Sparse.get (fun _ => VinStream.init) s.vins n

/-- A stream takes a value. -/
def setVin (n : Nat) (v : VinStream) (s : State) : State := { s with vins := Sparse.set (fun _ => VinStream.init) s.vins n v }

/-- S_STATUS.STATE of a stream: 0 OFF, 1 WAITING, 2 RECEIVING, 3 LOST. -/
def vinState (s : State) (n : Nat) : Nat := fld (s.rd (Reg.VIN.S_STATUS n)) 0 2

/-- S_STATUS.STATE takes a value; VIN event bit 1 reports a change (R172). -/
def setVinState (n st : Nat) (s : State) : State :=
  if s.vinState n == st then s else (s.wrFld (Reg.VIN.S_STATUS n) 0 2 st).raise 21 1

/-- Units in use by the enabled streams (R149). -/
def vinUnits (s : State) : Nat :=
  (List.range 8).foldl (fun a n => if bit (s.rd (Reg.VIN.S_CTL n)) 0 then a + vinCost (s.rd (Reg.VIN.S_CTL n)) else a) 0

/-- A write to S_CTL (R149, R173). -/
def sCtl (n : Nat) (v : Word) (s : State) : State :=
  let c := s.rd (Reg.VIN.S_CTL n)
  let v := v &&& 0x3FFF
  if bit c 0 && (v &&& 0x3FFE) != (c &&& 0x3FFE) then s.err 21
  else
    let s :=
      if bit v 0 && !bit c 0 then
        if vinReserved v || 8 < s.vinUnits + vinCost v then
          ((s.wr (Reg.VIN.S_CTL n) (v &&& 0x3FFE)).wrBit (Reg.VIN.S_STATUS n) 3 true).raise 21 1
        else
          (((s.wr (Reg.VIN.S_CTL n) v).setVin n VinStream.init).wr (Reg.VIN.S_STATUS n) (W (fld (s.rd (Reg.VIN.S_STATUS n)) 0 2))).setVinState n 1
      else if bit c 0 && !bit v 0 then ((s.wr (Reg.VIN.S_CTL n) v).setVin n VinStream.init).setVinState n 0
      else s.wr (Reg.VIN.S_CTL n) v
    s.wrFld Reg.VIN.UNITS 0 4 s.vinUnits

/-- A complete picture joins those complete, the latest media time first (R150); 16 are kept. -/
def vinDone (p : Picture) (l : List Picture) : List Picture :=
  ((l.takeWhile (fun x => serialLt p.ts x.ts)) ++ p :: l.dropWhile (fun x => serialLt p.ts x.ts)).take 16

/-- A packet of a stream arrives (R149, R151, R152, R154; DEDUCED, log entry 29): it counts for its picture as long as that is one of the 16 begun last. -/
def vinPacket (n : Nat) (p : VinPacket) (s : State) : State :=
  let c := s.rd (Reg.VIN.S_CTL n)
  if !s.up 21 || s.vinState n == 0 then s
  else if (p.width, p.height) != vinSize (fld c 4 2) || !p.sampling422 || !p.progressive then s.wrBit (Reg.VIN.S_STATUS n) 4 true
  else
    let v := s.vin n
    let s := match v.lastSeq with
      | some l => if serialLt (l + 1) p.seq then s.wr (Reg.VIN.S_PKT_LOST n) (satAdd (s.rd (Reg.VIN.S_PKT_LOST n)) (p.seq - l - 1).toNat) else s
      | none => s
    let newer := match v.lastSeq with | some l => serialLt l p.seq | none => true
    let start : Picture :=
      { ts := p.rtpTs, width := p.width, height := p.height, transfer := fld c 10 2, colorimetry := fld c 12 2, parts := [], seqs := [], first := none, last := none }
    if v.done.any (fun x => x.ts == p.rtpTs) then s.setVin n { v with lastSeq := if newer then some p.seq else v.lastSeq }
    else
      let pic := (v.cur.find? (fun x => x.ts == p.rtpTs)).getD start
      let rest := v.cur.filter (fun x => x.ts != p.rtpTs)
      let pic :=
        if pic.seqs.contains p.seq then pic
        else
          { pic with
            parts := pic.parts ++ [(p.line, p.offset, p.octets)]
            seqs := pic.seqs ++ [p.seq]
            first := if p.first then some p.seq else pic.first
            last := if p.last then some p.seq else pic.last }
      let last := if newer then some p.seq else v.lastSeq
      if pic.complete then
        ((((s.setVin n { cur := rest, done := vinDone pic v.done, lastSeq := last }).bumpWrap (Reg.VIN.S_PIC_OK n)).wr
          (Reg.VIN.S_LAST_TS n) pic.ts)).setVinState n 2
      else s.setVin n { v with cur := (pic :: rest).take 16, lastSeq := last }

/-- No packet of a stream for 100 ms (R152). -/
def vinLost (n : Nat) (s : State) : State := if s.vinState n == 1 || s.vinState n == 2 then s.setVinState n 3 else s

end State

/-- A media time of the 90 kHz RTP clock lies in the window [a, b) of the extended TB1 (R150). -/
def tsIn (ts : Word) (a b : Int) : Bool :=
  let lo := -((-a * 9) / 100000)
  let hi := -((-b * 9) / 100000)
  (ts - BitVec.ofInt 32 lo).toNat < (hi - lo).toNat

namespace State

/-- A time base is LOCKED. -/
def locked (s : State) (n : Nat) : Bool := fld (s.rd (Reg.TB.LOCK n)) 0 2 == 2

/-- The picture that a VIDEO layer takes at S, given on the extended TB1 (R150), and whether the expected one is late (R151). -/
def vinTake (s : State) (n : Nat) (rate : Nat) (s1 : Int) : Option Picture × Bool :=
  let v := s.vin n
  if s.vinState n == 0 then (none, false)
  else if !s.locked 1 then (v.done.head?, false)
  else
    let b := s1 - (Nat.min 50000 (fld (s.rd (Reg.VIN.S_LATENCY n)) 0 16) * 1000 : Nat)
    let a := b - (periodsNs rate 1 : Nat)
    match v.done.find? (fun p => tsIn p.ts a b) with
    | some p => (some p, false)
    | none =>
      let begun := v.cur.any (fun p => tsIn p.ts a b)
      (v.done.head?, begun || fld (s.rd (Reg.VIN.S_CTL n)) 6 4 == rate)

/-- A late picture is counted (R151). -/
def picLate (n : Nat) (s : State) : State := ((s.bump Reg.VIN.PIC_LATE).bump (Reg.VIN.S_PIC_LATE n)).raise 21 0

end State

/-! Clips. -/

/-- Frame size of a clip file is allowed (R148, R156). -/
def clipSizeOk (f : List Byte) : Bool :=
  let x := (leAt f 8 2, leAt f 10 2)
  x == (1280, 720) || x == (1920, 1080) || x == (3840, 2160)

/-- Frames of a clip file (R156). -/
def clipFrames (f : List Byte) : Nat := leAt f 16 4

/-- AU_OFFSET, AU_SIZE, DEP and AU_FLAGS of an index entry (R157). -/
def clipIndex (f : List Byte) (n : Nat) : Nat × Nat × Nat × Nat :=
  let o := 128 + 16 * n
  (leAt f o 8, leAt f (o + 8) 4, leAt f (o + 12) 2, byteAt f (o + 14))

/-- An index entry keeps R157: an IRAP needs no other frame, any other frame an IRAP before it; nothing reserved is set. -/
def clipEntryOk (f : List Byte) (n : Nat) : Bool :=
  let e := clipIndex f n
  let irap := fun (x : Nat × Nat × Nat × Nat) => x.2.2.2 % 2 == 1
  e.2.1 != 0 && e.2.2.2 < 2 && byteAt f (128 + 16 * n + 15) == 0 &&
    (if irap e then e.2.2.1 == 0 else e.2.2.1 != 0 && e.2.2.1 ≤ n && irap (clipIndex f (n - e.2.2.1)))

/-- The access units of a file keep R155. -/
def clipUnitsOk (f : List Byte) : Bool :=
  (List.range (clipFrames f)).all (fun n =>
    let e := clipIndex f n
    accessUnitOk (leAt f 8 2) (leAt f 10 2) (e.2.2.2 % 2 == 1) ((f.drop e.1).take e.2.1))

/-- RESULT of the checks of R158 on a file, given the bytes that are free and whether the number is free. -/
def clipResult (f : List Byte) (free : Nat) (numFree : Bool) : Nat :=
  let n := clipFrames f
  let idx := (List.range n).map (clipIndex f)
  let flags := byteAt f 13
  if f.length < 128 || f.take 4 != [0x50, 0x4C, 0x43, 0x31] || leAt f 4 2 != 1 || leAt f 124 4 != (Crypto.crc32 (f.take 124)).toNat then 2
  else if f.length < 128 + 16 * n || leAt f 28 4 != (Crypto.crc32 ((f.drop 128).take (16 * n))).toNat ||
      idx.any (fun e => leAt f 20 8 < e.1 + e.2.1) then 3
  else if leAt f 6 2 != 128 || !clipSizeOk f || 8 < byteAt f 12 || 32 ≤ flags || flags / 2 % 4 == 3 || 2 ≤ flags / 8 % 4 || leAt f 14 2 != 0 ||
      n == 0 || 16777216 < n || leAt f 20 8 != f.length || ((f.drop 64).take 60).any (fun b => b != 0) ||
      colourClash (flags / 2 % 4) (flags / 8 % 4) || !(List.range n).all (clipEntryOk f) || (idx.head?.map (fun e => e.2.2.2 % 2)) != some 1 ||
      (flags % 2 == 1 && idx.any (fun e => e.2.2.2 % 2 == 0)) || !clipUnitsOk f then 4
  else if free < f.length then 5
  else if !numFree then 6
  else if (f.drop 32).take 32 != Crypto.sha256 (f.drop (128 + 16 * n)) then 7
  else 1

namespace State

/-- A clip player. -/
def player (s : State) (p : Nat) : Player := Sparse.get (fun _ => Player.init) s.players p

/-- A clip player takes a value. -/
def setPlayer (p : Nat) (x : Player) (s : State) : State := { s with players := Sparse.set (fun _ => Player.init) s.players p x }

/-- P_STATUS.STATE (R175). -/
def playState (s : State) (p : Nat) : Nat := fld (s.rd (Reg.CLIP.P_STATUS p)) 0 3

/-- P_STATUS.STATE takes a value; CLIP event bit 1 reports a change (R174). -/
def setPlay (p st : Nat) (s : State) : State :=
  if s.playState p == st then s else (s.wrFld (Reg.CLIP.P_STATUS p) 0 3 st).raise 22 1

/-- The file of a stored clip; empty if there is none. -/
def clipFile (s : State) (c : Nat) : List Byte := Sparse.get (fun _ => []) s.clips c

/-- A clip number is stored. -/
def clipStored (s : State) (c : Nat) : Bool := !(s.clipFile c).isEmpty

/-- Bytes of a set of clips. -/
def clipBytes (s : State) (l : List Nat) : Nat := l.foldl (fun a c => a + (s.clipFile c).length) 0

/-- A player uses the clip (R159, R161). -/
def clipHeld (s : State) (c : Nat) : Bool :=
  (List.range 8).any (fun p => (s.player p).held == some c || (s.player p).loading == some c)

/-- Bytes free in the clip region of flash, 48 GiB (R158). -/
def clipFree (s : State) : Nat := 48 * 2 ^ 30 - s.clips.foldl (fun a e => a + e.2.length) 0

/-- A load ends (R158). -/
def clipLoad (c : Nat) (f : List Byte) (s : State) : State :=
  if !s.up 22 then s
  else
    let r := clipResult f s.clipFree (!s.clipStored c)
    let s := if r == 1 then { s with clips := Sparse.set (fun _ => []) s.clips c f } else s
    (s.wr Reg.CLIP.LOAD_STATUS (W (c + 0x10000 * r))).raise 22 0

/-- A clip is deleted from flash and cache, unless a player holds it (R161). -/
def clipDelete (c : Nat) (s : State) : State :=
  if s.clipHeld c then s.err 22
  else { s with clips := Sparse.drop s.clips c, clipCache := s.clipCache.filter (fun x => x != c) }

/-- PRELOAD (R159; DEDUCED, log entry 30): a player that plays goes on. -/
def clipPreload (p : Nat) (s : State) : State :=
  let c := fld (s.rd (Reg.CLIP.P_CLIP p)) 0 16
  if !s.clipStored c then s.wrFld (Reg.CLIP.P_STATUS p) 8 4 4
  else
    let s := (s.setPlayer p { s.player p with loading := some c }).wrFld (Reg.CLIP.P_STATUS p) 8 4 0
    if s.playState p == 3 || s.playState p == 4 then s else s.setPlay p 1

/-- The size of the clip cache in force, bytes (R174). -/
def cacheSize (s : State) : Nat := Nat.min 8 (fld (Sparse.get regDefault s.inForce Reg.CLIP.CACHE_CFG) 0 4) * 2 ^ 30

/-- The clips that stay in the cache when `c` is to fit: those that no player uses go, the least recently used first (R159; DESIGN CHOICE, log entry 111: a clip is used at
each GO and each PRELOAD of it). -/
def cacheFit (s : State) (c : Nat) : Option (List Nat) :=
  let rest := s.clipCache.filter (fun x => x != c)
  let need := (s.clipFile c).length
  let kept := rest.foldl (fun (l : List Nat) x =>
    if s.clipBytes l + need ≤ s.cacheSize || s.clipHeld x then l else l.filter (fun y => y != x)) rest
  if s.clipBytes kept + need ≤ s.cacheSize then some kept else none

/-- A PRELOAD copy completes (R159; DESIGN CHOICE, log entry 111: one that cannot fit never does). -/
def clipPreloaded (p : Nat) (s : State) : State :=
  match (s.player p).loading with
  | none => s
  | some c =>
    match s.cacheFit c with
    | none => s
    | some kept =>
      let playing := s.playState p == 3 || s.playState p == 4
      let x := s.player p
      let s := { s with clipCache := kept ++ [c] }.setPlayer p { x with loading := none, held := if playing then x.held else some c }
      if s.playState p == 1 then s.setPlay p 2 else s

/-- P_SPEED in 1/256, within ±8.0 (R174). -/
def playSpeed (s : State) (p : Nat) : Int := clampI (-2048) 2048 (sfld (s.rd (Reg.CLIP.P_SPEED p)) 0 16)

/-- Decode units of a clip at a speed (R161). -/
def clipCost (s : State) (c : Nat) (speed : Int) : Nat :=
  (if leAt (s.clipFile c) 8 2 == 3840 then 4 else 1) * Nat.max 1 ((speed.natAbs + 255) / 256)

/-- Decode units of the armed and playing players but `p` (R161). -/
def clipUnits (s : State) (p : Nat) : Nat :=
  (List.range 8).foldl (fun a q =>
    if q != p && (s.playState q == 3 || s.playState q == 4) then
      a + (match (s.player q).held with | some c => s.clipCost c (s.player q).speed | none => 0)
    else a) 0

/-- REFUSE of a GO (R161, R175; DEDUCED, log entry 30). -/
def goRefuse (s : State) (p : Nat) : Nat :=
  let c := fld (s.rd (Reg.CLIP.P_CLIP p)) 0 16
  let v := s.playSpeed p
  if !s.clipStored c then 4
  else if !s.clipCache.contains c then 1
  else if 8 < s.clipUnits p + s.clipCost c v then 2
  else if (v < 0 || 256 < v) && byteAt (s.clipFile c) 13 % 2 == 0 then 3
  else 0

/-- Time base of a player (R174). -/
def playTb (s : State) (p : Nat) : Nat := fld (s.rd (Reg.CLIP.P_CTL p)) 2 1

/-- GO (R160, R161). -/
def clipGo (p : Nat) (s : State) : State :=
  let r := s.goRefuse p
  let s := s.wrFld (Reg.CLIP.P_STATUS p) 8 4 r
  if r != 0 then s
  else
    let c := fld (s.rd (Reg.CLIP.P_CLIP p)) 0 16
    let t := s.tb (s.playTb p)
    let st := (s.rd (Reg.CLIP.P_START p)).toNat
    { s with clipCache := s.clipCache.filter (fun x => x != c) ++ [c] }.setPlayer p
      { start := st, speed := s.playSpeed p, goExt := t.ext + (s.rd (Reg.CLIP.P_GO_PT p) - t.count).toInt, held := some c,
        loading := (s.player p).loading, shown := st } |>.setPlay p 3

/-- STOP (R161): the frame last shown is frozen. -/
def clipStop (p : Nat) (s : State) : State :=
  if s.playState p == 3 || s.playState p == 4 || s.playState p == 5 then s.setPlay p 6 else s

/-- An armed player reaches go_pt (R160). -/
def clipStart (p : Nat) (s : State) : State :=
  if s.playState p == 3 && (s.player p).goExt ≤ ((s.tb (s.playTb p)).ext : Int) then s.setPlay p 4 else s

/-- pos(T) of R160, in whole frames. -/
def clipPos (s : State) (p : Nat) (t : Int) : Int :=
  let x := s.player p
  if t < x.goExt then x.start
  else
    let r := rateOf (byteAt (s.clipFile (x.held.getD 0)) 12)
    (x.start : Int) + (mkRat (x.speed * (r.1 : Nat) * (t - x.goExt)) (256 * r.2 * 1000000000)).floor

/-- The frame that a player shows at T, and whether it has ended (R160; DESIGN CHOICE, log entry 112: played in reverse, the frame held is frame 0). -/
def clipFrame (s : State) (p : Nat) (t : Int) : Nat × Bool :=
  let n := clipFrames (s.clipFile ((s.player p).held.getD 0))
  let q := s.clipPos p t
  if 0 ≤ q && q < (n : Int) then (q.toNat, false)
  else if bit (s.rd (Reg.CLIP.P_CTL p)) 0 then ((q % (n : Int)).toNat, false)
  else if q < 0 then (0, true) else (n - 1, true)

/-- A player gives its frame for presentation time T (R160, R162): its registers follow. `late` says that CLIP has not decoded that frame by S. -/
def clipTake (p : Nat) (late : Bool) (t : Int) (s : State) : State × LayerIn :=
  let st := s.playState p
  let x := s.player p
  match x.held with
  | none => (s, .gone)
  | some c =>
    if st < 3 then (s, .gone)
    else if st == 6 then (s, .clip (s.clipFile c) x.shown)
    else
      let f := s.clipFrame p t
      let s := if s.clipCache.contains c && !late then
          (s.setPlayer p { x with shown := f.1 }).wr (Reg.CLIP.P_FRAME p) (W f.1)
        else (s.bump (Reg.CLIP.P_LATE p)).raise 22 1
      let s := if f.2 then s.setPlay p 5 else s
      (s, if f.2 && bit (s.rd (Reg.CLIP.P_CTL p)) 1 then .gone else .clip (s.clipFile c) (s.player p).shown)

/-! Control universes. -/

/-- An input entry (R177). -/
def uniEntry (s : State) (i : Nat) : Word := Sparse.get (fun _ => 0) s.uniIn i

/-- An input entry at work. -/
def uni (s : State) (i : Nat) : UniInput := Sparse.get (fun _ => UniInput.init) s.uniSt i

/-- An input entry at work takes a value. -/
def setUni (i : Nat) (u : UniInput) (s : State) : State := { s with uniSt := Sparse.set (fun _ => UniInput.init) s.uniSt i u }

/-- The enabled entries that take a uniNo (sACN), or a DMX port 1 to 4 (R167). -/
def uniOf (s : State) (port uniNo : Nat) : List Nat :=
  (s.uniIn.filter (fun e => bit e.2 31 && fld e.2 16 3 == port && (port != 0 || fld e.2 0 16 == uniNo))).map (fun e => e.1)

/-- The values of a universe (R165): while LOST, all zeros with LOSS_ZERO at 1. -/
def uniValues (s : State) (i : Nat) : List Byte :=
  if bit (s.uniEntry i) 31 && (s.uni i).sources.isEmpty && (s.uni i).lost && bit (s.rd Reg.UNI.CFG) 4 then List.replicate 512 0 else (s.uni i).out

/-- STATE of an entry (R177): 0 unused, 1 waiting, 2 live, 3 lost. -/
def uniState (s : State) (i : Nat) : Nat :=
  if !bit (s.uniEntry i) 31 then 0
  else if !(s.uni i).sources.isEmpty then 2
  else if (s.uni i).lost then 3 else 1

end State

/-- The number that a source of a universe goes by (R165, R167). -/
def senderId : UniSender → Nat
  | .cid c => c.toNat
  | .dmx n => 2 ^ 128 + n.val + 1

/-- The highest priority of the sources with data. -/
def topPrio (l : List UniSource) : Nat := (l.filter (fun x => !x.slots.isEmpty)).foldl (fun m x => Nat.max m x.prio) 0

/-- The merge of the sources tied at the highest priority (R165): none where no source has data. -/
def uniMerge (latest : Bool) (l : List UniSource) : Option (List Byte) :=
  let top := (l.filter (fun x => !x.slots.isEmpty)).filter (fun x => x.prio == topPrio l)
  match top with
  | [] => none
  | a :: t =>
    if latest then some (t.foldl (fun b x => if b.order < x.order then x else b) a).slots
    else some ((List.range 512).map (fun i => BitVec.ofNat 8 (top.foldl (fun m x => Nat.max m (byteAt x.slots i)) 0)))

namespace State

/-- An entry takes new sources: its output follows, and UNI event bit 0 reports a change of its STATE (R165, R177). -/
def uniSources (i : Nat) (u : UniInput) (s : State) : State :=
  let old := s.uniState i
  let out := (uniMerge (bit (s.uniEntry i) 20) u.sources).getD u.out
  let s := s.setUni i { u with out := out }
  if s.uniState i == old then s else s.raise 24 0

/-- A source of an entry is removed (R165). -/
def uniRemove (i cid : Nat) (s : State) : State :=
  let u := s.uni i
  if u.sources.any (fun x => x.cid == cid) then
    let rest := u.sources.filter (fun x => x.cid != cid)
    s.uniSources i { u with sources := rest, lost := rest.isEmpty }
  else s

/-- An entry takes data from a source (R165, R166): `sync` is the synchronization address, 0 for none. -/
def uniTake (i cid prio seq sync : Nat) (slots : List Byte) (s : State) : State :=
  let u := s.uni i
  let known := u.sources.find? (fun x => x.cid == cid)
  if known.isNone && 4 ≤ u.sources.length then (s.bump Reg.UNI.SRC_OVF).raise 24 1
  else
    let data := fitBytes 512 slots
    let hold := sync != 0 && !u.noSync
    let new : UniSource := { cid := cid, prio := prio, seq := seq, slots := data, order := s.uniCount, held := none }
    let x : UniSource :=
      if hold then { known.getD { new with slots := [] } with seq := seq, held := some (sync, data, prio, s.uniCount) }
      else { new with held := if sync == 0 then none else some (sync, data, prio, s.uniCount) }
    let s := { s with uniCount := s.uniCount + 1 }
    s.uniSources i { u with sources := u.sources.filter (fun y => y.cid != cid) ++ [x], lost := false }

/-- A packet reaches UNI (R164): its port is one that PORT_EN enables. -/
def sacnHears (s : State) (p : SacnPacket) : Bool := bit (s.rd Reg.UNI.CFG) p.port

/-- An sACN data packet (R163-R166). -/
def sacnData (p : SacnPacket) (s : State) : State :=
  let es := s.uniOf 0 p.uni
  let cid := p.cid.toNat
  let behind := es.any (fun i => (s.uni i).sources.any (fun x => x.cid == cid && (x.seq + 256 - p.seq.toNat) % 256 ≤ 19))
  if !s.up 24 || !s.sacnHears p then s
  else if p.startCode != 0 || p.preview || behind then s.bump Reg.UNI.PKT_DROP
  else if es.isEmpty then s
  else
    let s := s.bumpWrap Reg.UNI.PKT_OK
    es.foldl (fun a i => if p.terminated then a.uniRemove i cid else a.uniTake i cid p.prio p.seq.toNat p.syncAddr p.slots) s

/-- The data that an entry holds under a synchronization address applies (R166). -/
def uniRelease (i : Nat) (s : State) (match_ : Nat → Bool) : State :=
  let u := s.uni i
  s.uniSources i { u with sources := u.sources.map (fun x =>
    match x.held with
    | some h => if match_ h.1 then { x with slots := h.2.1, prio := h.2.2.1, order := h.2.2.2, held := none } else x
    | none => x) }

/-- A sync packet (R166). -/
def sacnSync (addr : Nat) (s : State) : State :=
  if !s.up 24 || addr == 0 then s
  else
    let hit := s.uniSt.filter (fun e => e.2.sources.any (fun x => match x.held with | some h => h.1 == addr | none => false))
    hit.foldl (fun a e =>
      let a := a.uniRelease e.1 (fun x => x == addr)
      a.setUni e.1 { a.uni e.1 with noSync := false }) s

/-- No sync packet for 2,500 ms (R166). -/
def sacnSyncTimeout (i : Nat) (s : State) : State :=
  let u := s.uni i
  if u.sources.any (fun x => x.held.isSome) && !u.noSync then
    let s := s.uniRelease i (fun _ => true)
    ((s.setUni i { s.uni i with noSync := true }).bump Reg.UNI.SYNC_LOST).raise 24 1
  else s

/-- The multicast group of a universe (R164; ANSI E1.31, PRESUMED, log entry 113). -/
def sacnGroup (v6 : Bool) (u : Nat) : BitVec 128 := if v6 then 0xFF180000000000000000000000830000 + BitVec.ofNat 128 u else 0xEFFF0000 + BitVec.ofNat 128 u

/-- The universes of the enabled sACN inputs. -/
def sacnUnis (s : State) : List Nat :=
  ((s.uniIn.filter (fun e => bit e.2 31 && fld e.2 16 3 == 0)).map (fun e => fld e.2 0 16)).eraseDups

/-- UNI reports the groups that it has joined or left since `old` (R164). -/
def sacnReport (old s : State) : State :=
  let cfg := fun (a : State) => a.rd Reg.UNI.CFG
  let has := fun (a : State) (e u : Nat) => bit (cfg a) e && a.sacnUnis.contains u
  (List.range 4).foldl (fun a e =>
    let gone := old.sacnUnis.filter (fun u => has old e u && !(has s e u && bit (cfg s) 5 == bit (cfg old) 5))
    let new := s.sacnUnis.filter (fun u => has s e u && !(has old e u && bit (cfg s) 5 == bit (cfg old) 5))
    let a := gone.foldl (fun a u => a.memberReport e (bit (cfg old) 5) (sacnGroup (bit (cfg old) 5) u) false) a
    new.foldl (fun a u => a.memberReport e (bit (cfg s) 5) (sacnGroup (bit (cfg s) 5) u) true) a) s

/-- IN_INDEX advances (R177). -/
def inAdvance (s : State) : State := s.wrFld Reg.UNI.IN_INDEX 0 11 (fld (s.rd Reg.UNI.IN_INDEX) 0 11 + 1)

/-- A write to IN_DATA (R35, R177). -/
def inDataWrite (v : Word) (s : State) : State :=
  let i := fld (s.rd Reg.UNI.IN_INDEX) 0 11
  let v := v &&& 0x8017FFFF
  let bad := 4 < fld v 16 3 || (fld v 16 3 == 0 && (fld v 0 16 == 0 || 63999 < fld v 0 16))
  let w := if bad then setBit v 31 false else v
  let s := if bad then s.err 24 else s
  let t := if s.uniEntry i == w then s else ({ s with uniIn := Sparse.set (fun _ => 0) s.uniIn i w, uniSaved := Sparse.drop s.uniSaved i }.setUni i UniInput.init).journal s
  (if s.up 24 then s.sacnReport t else t).inAdvance

/-! Audio. -/

/-- CHANNELS of AUD (R178). -/
def audChannels (s : State) : Nat := clampN 1 8 (fld (s.rd Reg.AUD.CFG) 4 4)

/-- STATUS.STATE of AUD takes a value; AUD event bit 0 reports a change. -/
def setAudState (st : Nat) (s : State) : State :=
  if fld (s.rd Reg.AUD.STATUS) 0 2 == st then s else (s.wrFld Reg.AUD.STATUS 0 2 st).raise 25 0

/-- The analysis starts afresh: every band reads −100.0 dBFS (R169). -/
def audClear (s : State) : State :=
  (List.range 128).foldl (fun a i => a.wr (Reg.AUD.BAND i) 0xFC18FC18) { s with audFilt := [], audBuf := [], audNext := none, audBlocks := [], audSeq := none }

/-- A write to AUD.CFG (R178). -/
def audCfg (v : Word) (s : State) : State :=
  let old := bit (s.rd Reg.AUD.CFG) 0
  let s := s.wr Reg.AUD.CFG (v &&& 0x3FF)
  if bit v 0 && !old then (s.audClear.wrBit Reg.AUD.STATUS 4 false).setAudState 1
  else if old && !bit v 0 then s.audClear.setAudState 0
  else s

/-- The media time of an RTP timestamp of the 48 kHz clock, in 1/48,000 s of the extended TB1, nearest to now (R150, R170). -/
def audTime (s : State) (ts : Word) : Nat :=
  let now := (s.tb 1).ext * 48 / 1000000
  ((now : Int) + (ts - W now).toInt).toNat

/-- An audio packet (R169, R170). -/
def audPacket (p : AudPacket) (s : State) : State :=
  if !s.up 25 || fld (s.rd Reg.AUD.STATUS) 0 2 == 0 then s
  else if p.channels != s.audChannels then s.wrBit Reg.AUD.STATUS 4 true
  else
    let gap := match s.audSeq with | some l => (p.seq - l - 1).toNat | none => 0
    if 0x8000 ≤ gap then s
    else
      let s := if gap == 0 then s else s.wr Reg.AUD.PKT_LOST (satAdd (s.rd Reg.AUD.PKT_LOST) gap)
      let at_ := s.audTime p.ts
      { s with
        audSeq := some p.seq
        audBuf := p.frames.zipIdx.foldl (fun (m : Sparse (List Int)) (f : List Int × Nat) => Sparse.put m (at_ + f.2) f.1) s.audBuf
        audNext := some (s.audNext.getD (at_ / 48)) }.setAudState 2

/-- A signed level as 16 bits. -/
abbrev lvl (v : Int) : Nat := encS 16 v

/-- The samples of the 1 ms block of media time that begins at ms `t`, by frame; one that has not come is silence (DESIGN CHOICE, log entry 110). -/
def audSamples (s : State) (t : Nat) : List (List Int) := (List.range 48).map (fun i => Sparse.get (fun _ => []) s.audBuf (48 * t + i))

/-- The 1 ms block of media time that begins at ms `t` ends (R170, R178): the bands of each channel, and the BAND registers over the latest 20 blocks. -/
def audBlockAt (t : Nat) (s : State) : State :=
    let full : Nat := if bit (s.rd Reg.AUD.CFG) 8 then 8388608 else 32768
    let block := s.audSamples t
    let s := { s with audBuf := s.audBuf.filter (fun e => 48 * (t + 1) ≤ e.1), audNext := some (t + 1) }
    let run := (List.range 128).foldl (fun (a : Sparse (List Rat × List Rat × List Rat) × List Int) i =>
      if i / 16 < s.audChannels then
        let r := audBand (i % 16) (Sparse.get (fun _ => ([], [], [])) a.1 i) (block.map (fun f => mkRat (f.getD (i / 16) 0) full))
        (Sparse.set (fun _ => ([], [], [])) a.1 i r.1, a.2 ++ [clampI (-1000) 32767 r.2])
      else (a.1, a.2 ++ [-1000])) (s.audFilt, [])
    let s := { s with audFilt := run.1, audBlocks := ((t, run.2) :: s.audBlocks).take 64 }
    let last := (s.audBlocks.take 20).map (fun b => b.2)
    (List.range 128).foldl (fun a i =>
      let l := last.map (fun b => b.getD i (-1000))
      let sum := l.foldl (fun x y => x + y) 0
      a.wr (Reg.AUD.BAND i) (W (lvl (sum / (l.length : Int)) + 0x10000 * lvl (l.foldl (fun x y => if x < y then y else x) (-1000))))) s

/-- A 1 ms block of media time ends (R170). -/
def audBlock (s : State) : State :=
  match s.audNext with
  | some t => if !s.up 25 || fld (s.rd Reg.AUD.STATUS) 0 2 != 2 then s else s.audBlockAt t
  | none => s

/-- No audio packet for 10 ms (R169). -/
def audLost (s : State) : State :=
  let st := fld (s.rd Reg.AUD.STATUS) 0 2
  if st == 1 || st == 2 then s.audClear.setAudState 3 else s

/-- m(c, b) for a frame of a zone's RATE with sample instant `s1` on the extended TB1: the mean over the blocks that lie wholly in [S - W, S) (R171). -/
def audM (s : State) (rate : Nat) (s1 : Int) (c b : Nat) : Rat :=
  let w := Nat.max 5 ((periodsNs rate 1 + 999999) / 1000000)
  let l := (s.audBlocks.filter (fun x => s1 - (1000000 * w : Nat) ≤ (1000000 * x.1 : Nat) && ((1000000 * (x.1 + 1) : Nat) : Int) ≤ s1)).map (fun x => x.2.getD (16 * c + b) (-1000))
  let mean : Rat := if l.isEmpty then -1000 else mkRat (l.foldl (fun x y => x + y) 0) l.length
  clampRat 0 1 ((mean / 10 + 60) / 60)

/-! A layer at its sample instant. -/

/-- Slot value of an input entry. -/
def uniSlot (s : State) (i k : Nat) : Nat := byteAt (s.uniValues i) k

/-- The live input of a modulation route (R147). -/
def routeM (s : State) (rate : Nat) (s1 : Int) (a b : Word) : Rat :=
  let kind := fld a 0 2
  let i := fld b 0 11
  let k := fld b 16 9
  if kind == 1 then s.audM rate s1 (fld b 0 3) (fld b 4 4)
  else if kind == 2 then mkRat (s.uniSlot i k) 255
  else if kind == 3 then mkRat (256 * s.uniSlot i k + s.uniSlot i (k + 1) : Nat) 65535
  else 1

/-- What layer `l` of a zone takes at S (R135, R136): `s1` is S on the extended TB1, `clips` what each player gives. -/
def layerShot (s : State) (p : Plan) (z l : Nat) (s1 : Int) (clips : List (Nat × LayerIn)) : LayerShot :=
  let w0 := p.lw z l 0
  let type := fld w0 0 4
  let src := fld w0 16 11
  let loss := bit w0 15
  let rate := p.zRate z
  { inp :=
      if type == 1 then
        match (s.vinTake src rate s1).1 with
        | some pic => if loss && s.vinState src != 2 then .gone else .pic pic
        | none => .gone
      else if type == 2 then
        if loss && s.playState src == 5 then .gone else (clips.find? (fun c => c.1 == src)).elim .gone (fun c => c.2)
      else if type == 3 then
        let es := (List.range (fld (p.lw z l 1) 0 12)).map (fun i => src + i)
        if loss && es.all (fun i => s.uniState i == 3) then .gone else .unis (es.map s.uniValues)
      else .none
    m0 := s.routeM rate s1 (p.lw z l 6) (p.lw z l 7)
    m1 := s.routeM rate s1 (p.lw z l 8) (p.lw z l 9)
    bands := if type == 8 then (List.range 16).map (fun b => s.audM rate s1 (fld (p.lw z l 1) 0 3) b) else []
    cue := (List.range 16).map (fun i => Sparse.get cueDefault s.cueA (256 * z + 16 * l + i)) }

/-- All layers of a frame (R135): its late pictures and late clip frames are counted once for each stream and player (R151, R162). `pt0` and `pt1` are the frame's
presentation time on the extended TB0 and TB1, `late` the players whose frame is not decoded. -/
def layerShots (p : Plan) (z : Nat) (s1 pt0 pt1 : Int) (late : List Nat) (s : State) : State × List LayerShot :=
  let s := (p.zoneSources z 1).foldl (fun a n => if (a.vinTake n (p.zRate z) s1).2 then a.picLate n else a) s
  let r := (p.zoneSources z 2).foldl (fun (a : State × List (Nat × LayerIn)) n =>
    let x := a.1.clipTake n (late.contains n) (if a.1.playTb n == 1 then pt1 else pt0)
    (x.1, (n, x.2) :: a.2)) (s, [])
  (r.1, (List.range (p.zLayers z)).map (fun l => r.1.layerShot p z l s1 r.2))

end State

/-- S_CTL_WRITE (R149). -/
def execSCtlWrite (r : Requester) (n : Fin 8) (v : Word) (s : State) : Out := .next (s.access r (Reg.VIN.S_CTL n) v (fun a => (State.sCtl n v a).fpSync))

/-- VIN_PACKET_RX (R151). -/
def execVinPacketRx (n : Fin 8) (p : VinPacket) (s : State) : Out := .next (s.vinPacket n p)

/-- VIN_STREAM_LOST (R152). -/
def execVinStreamLost (n : Fin 8) (s : State) : Out := .next (s.vinLost n)

/-- CLIP_LOAD (R158). -/
def execClipLoad (clip : BitVec 16) (file : List Byte) (s : State) : Out := .next (s.clipLoad clip.toNat file)

/-- CLIP_DELETE (R161). -/
def execClipDelete (r : Requester) (clip : BitVec 16) (s : State) : Out :=
  .next (s.access r Reg.CLIP.DELETE (W clip.toNat) (State.clipDelete clip.toNat))

/-- CLIP_PRELOAD (R159). -/
def execClipPreload (r : Requester) (p : Fin 8) (s : State) : Out := .next (s.access r (Reg.CLIP.P_CMD p) 1 (State.clipPreload p))

/-- CLIP_PRELOAD_DONE (R159). -/
def execClipPreloadDone (p : Fin 8) (s : State) : Out := .next (s.clipPreloaded p)

/-- CLIP_GO (R161). -/
def execClipGo (r : Requester) (p : Fin 8) (s : State) : Out := .next (s.access r (Reg.CLIP.P_CMD p) 2 (State.clipGo p))

/-- CLIP_STOP (R161). -/
def execClipStop (r : Requester) (p : Fin 8) (s : State) : Out := .next (s.access r (Reg.CLIP.P_CMD p) 4 (State.clipStop p))

/-- CLIP_PLAY_START (R160). -/
def execClipPlayStart (p : Fin 8) (s : State) : Out := .next (s.clipStart p)

/-- SACN_PACKET_RX (R165). -/
def execSacnPacketRx (p : SacnPacket) (s : State) : Out := .next (s.sacnData p)

/-- SACN_SYNC_RX (R166). -/
def execSacnSyncRx (addr : Nat) (s : State) : Out := .next (s.sacnSync addr)

/-- SACN_SYNC_TIMEOUT (R166). -/
def execSacnSyncTimeout (i : Fin 2048) (s : State) : Out := .next (s.sacnSyncTimeout i)

/-- Whether a DMX input receives a source; a change is DMX event bit 4 (R299, R308; DEDUCED, log entry 119). -/
def State.dmxLive (n : Nat) (v : Bool) (s : State) : State :=
  if (Sparse.get (fun _ => DmxPort.init) s.dmxs n).live == v then s
  else { s with dmxs := Sparse.upd (fun _ => DmxPort.init) s.dmxs n (fun d => { d with live := v }) }.raise (96 + n) 4

/-- SACN_SOURCE_TIMEOUT (R165, R299). -/
def execSacnSourceTimeout (i : Fin 2048) (source : UniSender) (s : State) : Out :=
  .next (match source with
    | .cid _ => s.uniRemove i (senderId source)
    | .dmx n => (s.dmxLive n false).uniRemove i (senderId source))

/-- IN_DATA_ACCESS (R177). -/
def execInDataAccess (r : Requester) (w : Option Word) (s : State) : Out :=
  .next (match w with
    | some v => s.access r Reg.UNI.IN_DATA v (State.inDataWrite v)
    | none => s.readAccess r Reg.UNI.IN_DATA (s.uniEntry (fld (s.rd Reg.UNI.IN_INDEX) 0 11)) State.inAdvance)

/-- AUD_PACKET_RX (R169). -/
def execAudPacketRx (p : AudPacket) (s : State) : Out := .next (s.audPacket p)

/-- AUD_BLOCK (R170). -/
def execAudBlock (s : State) : Out := .next s.audBlock

/-- AUD_STREAM_LOST (R169). -/
def execAudStreamLost (s : State) : Out := .next s.audLost

end Sys2Proof.Machine
end

