-- ==== Sys2Proof/Machine/FleetBase.lean ====
section
/-!
DEFINITION. What several families share of the fleet: UTC, fault records (R391), and the fleet records that
FP sends (R376, R377, R380).
-/
namespace Sys2Proof.Machine

namespace State

/-- UTC in s since 2000-01-01 00:00:00, as TB2 shows it. -/
def utcNow (s : State) : Nat := (s.tb 2).ext / 1000000000 - 946684800

/-! Fault records. -/

/-- FAULTS of a registry record (R382): the bit of a code follows its state. -/
def markFault (f code : Nat) (on : Bool) (s : State) : State :=
  if code == 0 || 16 < code then s
  else { s with registry := Sparse.upd (fun _ => 0) s.registry (64 * f + 16) (fun w => setBit w (15 + code) on) }

/-- FP writes a fault record to the log (R391): durable, and over the oldest when the log is full. -/
def logFault (id code : Nat) (on : Bool) (detail : Word) (s : State) : State :=
  let old := s
  let seq := s.rd Reg.FLT.LOG_HEAD + 1
  let rec_ : FaultRec := { seq := seq, time := W s.utcNow, id := id, code := code, raised := on, detail := detail }
  let full := 65536 ≤ s.faults.length
  let s := if full then s.bump Reg.FLT.LOG_OVERWRITTEN else s
  let s := { s with faults := (if full then s.faults.drop 1 else s.faults) ++ [rec_] }.wr Reg.FLT.LOG_HEAD seq
  ((if id < 0x800000 then s.markFault id code on else s).journal old).raise 28 0

/-- FLT is at work and FP does not run: its work waits (R13). -/
def fpAway (s : State) : Bool := s.up 28 && s.dom 1 == 2 && s.proc 2 != 2

/-- Work that is due goes to FP, or waits for it (R13). -/
def fpDue (w : FpWork) (eff : State → State) (s : State) : State := if s.fpAway then { s with fpWait := s.fpWait ++ [w] } else eff s

/-- A fault is raised or cleared (R13, R381, R391): in HOLD its record waits in a list of 4,096, and while FP restarts it waits too. -/
def fault (id code : Nat) (on : Bool) (detail : Word) (s : State) : State :=
  if s.mode == .hold && 4096 ≤ s.faultWait.length then s.bump Reg.FLT.HOLD_LOST
  else if s.mode == .hold || s.fpAway then { s with faultWait := s.faultWait ++ [(id, code, on, detail)] }
  else s.logFault id code on detail

/-- The fault records that waited for the end of HOLD, or for FP, are written (R13, R381). -/
def flushFaults (s : State) : State :=
  if s.mode == .hold || s.fpAway then s
  else
  s.faultWait.foldl (fun a e => a.logFault e.1 e.2.1 e.2.2.1 e.2.2.2) { s with faultWait := [] }

/-- A fault code is raised for a fleet ID (R382). -/
def faultOn (s : State) (f code : Nat) : Bool := bit (s.regw f 16) (15 + code)

/-- A fault that a flag reports follows the flag (R391): a record for each change. -/
def faultIs (f code : Nat) (on : Bool) (detail : Word) (s : State) : State :=
  if s.faultOn f code == on || s.faultWait.any (fun e => e.1 == f && e.2.1 == code && e.2.2.1 == on) then s else s.fault f code on detail

/-! The feeder (R392). -/

/-- MTR.TOTAL, mWh (R484). -/
def mtrTotal (s : State) : Nat := (s.rd Reg.MTR.TOTAL_LO).toNat + 2 ^ 32 * (s.rd Reg.MTR.TOTAL_HI).toNat

/-- LOSS_CFG.PERIOD, s (R395). -/
def lossPeriod (s : State) : Nat := clampN 60 3600 (fld (s.rd Reg.FLT.LOSS_CFG) 0 16)

/-- The latest end of a loss period, a UTC second that PERIOD divides (R392; DEDUCED, log entry 48). -/
def periodEnd (s : State) : Nat := s.utcNow / s.lossPeriod * s.lossPeriod

/-- The feeder as it stands, for a UTC second. -/
def feedNow (s : State) (t : Nat) : FeedMark := { at_ := t, total := s.mtrTotal, gaps := s.rd Reg.MTR.GAPS, gap := bit (s.rd Reg.MTR.STATUS) 4 }

/-- Before the meter's energy moves on, what it was at the latest end of a period is kept (R392). -/
def feedMark (s : State) : State :=
  let s := if s.lossFrom.isNone then { s with lossFrom := some s.utcNow } else s
  if s.feedMarks.any (fun m => m.at_ == s.periodEnd) then s else { s with feedMarks := s.feedMarks ++ [s.feedNow s.periodEnd] }

/-- The feeder at a UTC second that has passed (R392). -/
def feedAt (s : State) (t : Nat) : FeedMark := (s.feedMarks.find? (fun m => t ≤ m.at_)).getD (s.feedNow t)

/-! Records that FP sends. -/

/-- The key of a KEY_CFG choice (R377): an HMAC key that FP may use. -/
def fleetKey (s : State) (b : Bool) : Option (List Byte) :=
  let i := fld (s.rd Reg.FLT.KEY_CFG) (if b then 8 else 0) 6
  let k := s.slot i
  if k.state == 1 && bit k.attr 1 && bit k.attr 20 && !isEcc k.attr && !s.keyLocked then s.keyOf i else none

/-- The first 52 bytes of a record, and its tag. -/
def fleetTag (key body : List Byte) : List Byte := (Crypto.hmac key body).take 12

/-- The bytes 0 to 51 of a record that FP sends (R376). -/
def fleetBody (s : State) (type flags id : Nat) (body : List Byte) : List Byte :=
  leBytes 1 type ++ leBytes 1 flags ++ leBytes 3 id ++ leBytes 1 (b2n (bit (s.rd Reg.FLT.KEY_CFG) 16)) ++ [0, 0] ++ leBytes 4 s.fleetSeq.toNat ++ fitBytes 40 body

/-- A frame joins a child's queue, and its pending bit is set (R357, R360). -/
def queueChild (k : Nat) (frame : List Byte) (s : State) : State :=
  match Sparse.get (fun _ => Child.none) s.children k with
  | some c =>
    { s with children := Sparse.set (fun _ => Child.none) s.children k (some { c with q := c.q ++ [frame] }) }.wrBit (Reg.RAD.PEND_MAP (k / 32)) (k % 32) true
  | none => s

/-- The Gyzor port and node address that a record is bound to, if it is (R382, R384). -/
def boundNode (s : State) (f : Nat) : List (Nat × Nat) :=
  let w := s.regw f 21
  if bit (s.regw f 0) 0 && fld (s.regw f 0) 1 3 == 0 && fld w 0 4 == 0 && bit (s.regw f 16) 0 then [(fld w 4 5, fld w 16 16)] else []

/-- The port by which a datagram of fleet records goes to an address (R380, R395): of those in PORT_EN one whose subnet holds it, else one with a gateway (DESIGN CHOICE, log entry
122). With it the next hop. -/
def fleetPort (s : State) (v6 : Bool) (addr : BitVec 128) : Option (Nat × BitVec 128) :=
  let l := ((List.range 4).filter (fun n => bit (s.rd Reg.FLT.NET_CFG) n && s.up (104 + n))).filterMap (fun n => (s.ethHop n v6 addr).map (fun h => (n, h)))
  (l.find? (fun e => e.2 == addr)).orElse (fun _ => l.head?)

/-- A datagram with one record enters egress queue 4 (R320, R380). -/
def fleetUdp (v6 : Bool) (addr : BitVec 128) (port : Nat) (rec_ : List Byte) (s : State) : State :=
  match s.fleetPort v6 addr with
  | some (n, hop) => s.ethOwn n 4 (udpBytes v6 (8 + rec_.length)) (.fleet n addr hop port ([0x50, 0x46, 0x52, 1, 1, 0, 0, 0] ++ rec_))
  | none => s

/-- An address in four words, IPv4 in the first (R382, R395). -/
def fleetAddr (_ : State) (v6 : Bool) (a b c d : Word) : BitVec 128 := if v6 then a ++ b ++ c ++ d else a.setWidth 128

/-- GW_ADDR of a gateway (R382). -/
def gwAddr (s : State) (g : Nat) : BitVec 128 := s.fleetAddr (bit (s.regw g 0) 8) (s.regw g 12) (s.regw g 13) (s.regw g 14) (s.regw g 15)

/-- A record goes to a gateway, by its address and port in the registry (R380, R382). -/
def gateway (g : Nat) (rec_ : List Byte) (s : State) : State :=
  if bit (s.regw g 0) 0 && fld (s.regw g 0) 1 3 == 5 then s.fleetUdp (bit (s.regw g 0) 8) (s.gwAddr g) (fld (s.regw g 11) 0 16) rec_ else s

/-- The way to a node of the registry (R380, R382): ATTACH, PORT and ADDR. -/
def carry (f : Nat) (rec_ : List Byte) (s : State) : State :=
  let w := s.regw f 21
  let kind := fld (s.regw f 0) 1 3
  if kind == 0 then (s.boundNode f).foldl (fun a n => a.gzMgmt n.1 false n.2 1 rec_) s
  else if kind == 3 then
    (match Sparse.get (fun _ => Child.none) s.children (fld w 16 16) with
     | some c => if c.fleet == f then s.queueChild (fld w 16 16) (2 :: rec_) else s
     | none => s)
  else if kind == 4 then s.gateway (fld (s.regw f 10) 0 17) rec_
  else if kind == 5 then s.gateway f rec_
  else s

/-- FP signs a record under its next SEQ (R377; DEDUCED, log entry 31: without a key nothing is sent). -/
def fleetSign (f type flags : Nat) (body : List Byte) (eff : List Byte → State → State) (s : State) : State :=
  match s.fleetKey (bit (s.rd Reg.FLT.KEY_CFG) 16) with
  | none => s
  | some key =>
    let b := s.fleetBody type flags f body
    eff (b ++ fleetTag key b) { s with fleetSeq := s.fleetSeq + 1 }

/-- FP sends a record to a node (R377, R380). -/
def fleetSend (f type flags : Nat) (body : List Byte) (s : State) : State := s.fleetSign f type flags body (State.carry f)

/-- The address of the host client (R395). -/
def hostAddr (s : State) : BitVec 128 :=
  s.fleetAddr (bit (s.rd Reg.FLT.HOST_CFG) 1) (s.rd (Reg.FLT.HOST_ADDR 0)) (s.rd (Reg.FLT.HOST_ADDR 1)) (s.rd (Reg.FLT.HOST_ADDR 2)) (s.rd (Reg.FLT.HOST_ADDR 3))

/-- FP answers the host client (R379, R380), at the fleet UDP port of its address. -/
def fleetHostSend (id type : Nat) (body : List Byte) (s : State) : State :=
  let c := s.rd Reg.FLT.HOST_CFG
  let v6 := bit c 1
  let addr := s.hostAddr
  s.fleetSign id type 0 body (fun r a => if bit c 0 then a.fleetUdp v6 addr (fld (a.rd Reg.FLT.NET_CFG) 16 16) r else a)

end State

end Sys2Proof.Machine
end

