-- ==== Sys2Proof/Machine/Colour.lean ====
section
/-!
DEFINITION. The group table (R214-R216), latched residuals (R226), and the thermal records, heat off and re-arm (R229-R236).
-/
namespace Sys2Proof.Machine

/-- The staged entry may move (R215): no reserved MODE, no reserved bit. -/
def gmOk (l : List Word) : Bool :=
  l.getD 0 0 &&& 0xFFFE0000 == 0 && (List.range 6).all (fun i => l.getD (1 + i) 0 &&& 0xFFF00000 == 0)

namespace State

/-- What a requester has staged in the group table. -/
def gm (s : State) (r : Requester) : GmStage := Sparse.get (fun _ => GmStage.init) s.gmStage (reqIdx r)

/-- A requester's staging takes a value. -/
def setGm (r : Requester) (g : GmStage) (s : State) : State :=
  { s with gmStage := Sparse.set (fun _ => GmStage.init) s.gmStage (reqIdx r) g }

/-- A group is fleet-driven (R215): a valid schedule entry or rule names it. -/
def fleetDriven (s : State) (g : Nat) : Bool :=
  s.sched.any (fun e => e.1 % 8 == 0 && bit e.2 0 && fld e.2 16 12 == g) || s.rules.any (fun e => e.1 % 8 == 0 && bit e.2 0 && fld e.2 16 12 == g)

/-- The words of a group in the inactive bank. -/
def gmEntry (s : State) (g : Nat) : List Word := (List.range 8).map (fun w => Sparse.get gmDefault s.gmI (8 * g + w))

/-- The staging copy is loaded when it belongs to another group than the one selected, or to none (R215). -/
def gmLoad (r : Requester) (s : State) : State :=
  let x := s.gm r
  let g := fld x.index 4 12
  if x.group == some g then s else s.setGm r { x with group := some g, words := s.gmEntry g }

/-- GM_INDEX of a requester advances by one word (R237). -/
def gmAdvance (r : Requester) (s : State) : State :=
  let x := s.gm r
  let n := (8 * fld x.index 4 12 + fld x.index 0 3 + 1) % 32768
  s.setGm r { x with index := W (n % 8 + 16 * (n / 8) + 0x10000 * b2n (bit x.index 16)) }

/-- An entry of the inactive bank takes its words. -/
def gmStore (g : Nat) (l : List Word) (s : State) : State :=
  (List.range 7).foldl (fun a w => { a with gmI := Sparse.set gmDefault a.gmI (8 * g + w) (l.getD w 0) }) s

/-- A write to GM_DATA (R215, R237). -/
def gmWrite (r : Requester) (v : Word) (s : State) : State :=
  let x := s.gm r
  let w := fld x.index 0 3
  if bit x.index 16 then (s.err 19).gmAdvance r
  else
    let s := s.gmLoad r
    let x := s.gm r
    let g := fld x.index 4 12
    let s :=
      if w < 7 then s.setGm r { x with words := setAt x.words w v }
      else if !gmOk x.words || (s.fleetDriven g && r != .fp) then (s.err 19).wrFld Reg.CLR.GM_STATUS 0 3 5
      else (s.gmStore g x.words).setGm r { x with group := none, words := [] }
    s.gmAdvance r

/-- What a read of GM_DATA returns (R215, R237). -/
def gmRead (s : State) (r : Requester) : Word :=
  let x := s.gm r
  let w := fld x.index 0 3
  let g := fld x.index 4 12
  if w == 7 then 0
  else if bit x.index 16 then Sparse.get gmDefault s.gmA (8 * g + w)
  else ((s.gmLoad r).gm r).words.getD w 0

/-- What a read of GM_DATA does. -/
def gmReadEff (r : Requester) (s : State) : State := (if bit (s.gm r).index 16 then s else s.gmLoad r).gmAdvance r

/-- GM_GO with GO at 1 (R216). -/
def gmGo (now : Bool) (s : State) : State :=
  if s.gmArm.isSome || s.gmOld.isSome then (s.err 19).wrFld Reg.CLR.GM_STATUS 0 3 4
  else
    let pt := s.rd Reg.CLR.GM_PT
    let late := !now && serialLt pt (s.tb 0).count
    { s with gmArm := some (pt, now || late, late) }.wrFld Reg.CLR.GM_STATUS 0 3 (if late then 3 else 1)

/-- The group banks swap (R216, R35). -/
def gmSwap (s : State) : State :=
  match s.gmArm with
  | none => s
  | some (pt, due, late) =>
    if due || serialGe (s.tb 0).count pt then
      ({ s with gmOld := some s.gmA, gmA := s.gmI, gmSwaps := s.gmSwaps + 1, gmArm := none }.wrFld Reg.CLR.GM_STATUS 0 3 (if late then 3 else 2)).journal s
    else s

/-- The old group bank retires once every frame admitted before the swap is gone (R216). -/
def gmRetire (s : State) : State :=
  if s.frames.any (fun f => f.gm < s.gmSwaps) then s else { s with gmOld := none }

/-! Residuals. -/

/-- The statistics latched for a zone. -/
def residOf (s : State) (z : Nat) : Resid := Sparse.get (fun _ => Resid.init) s.resid z

/-- The registers of a zone's latched statistics (R226, R237; DESIGN CHOICE, log entry 32: a mean is rounded down). -/
def residSel (z : Nat) (s : State) : State :=
  let r := s.residOf z
  let mean := fun (a n : Nat) => if n == 0 then 0 else a / n
  let s := s.wr Reg.CLR.RESID_SEL (W z)
  let s := s.wr Reg.CLR.RESID_DUV (W (r.duvMax + 0x10000 * mean r.duvSum r.uvSlots))
  let s := s.wr Reg.CLR.RESID_ERR (W (r.errMax + 0x10000 * mean r.errSum r.errSlots))
  let s := (s.wr Reg.CLR.RESID_OOG (W (r.oog % 0x1000000))).wr Reg.CLR.RESID_SLOTS (W (r.uvSlots % 0x1000000))
  s.wr Reg.CLR.RESID_PS r.ps

/-- A frame's statistics are latched when its strike is released (R226). -/
def residLatch (z : Nat) (r : Resid) (s : State) : State :=
  let c := s.rd Reg.CLR.CFG
  let above := fld c 0 16 < r.duvMax || fld c 16 16 < r.errMax
  let was := bit (s.rd (Reg.CLR.RESID_FLAG (z / 32))) (z % 32)
  let s := { s with resid := Sparse.set (fun _ => Resid.init) s.resid z r }.wrBit (Reg.CLR.RESID_FLAG (z / 32)) (z % 32) above
  let s := s.wr Reg.CLR.OOG_TOTAL (s.rd Reg.CLR.OOG_TOTAL + W r.oog)
  if above && !was then s.raise 19 1 else s

/-! The thermal model. -/

/-- A thermal record. -/
def thmRec (s : State) (f : Nat) : ThmRec := Sparse.get (fun _ => ThmRec.init) s.thm f

/-- A thermal record takes a value. -/
def setThm (f : Nat) (t : ThmRec) (s : State) : State := { s with thm := Sparse.set (fun _ => ThmRec.init) s.thm f t }

/-- The profile of a fixture in a plan: the plan's copy where it is mapped, else the registry's (R218). -/
def fixProfile (s : State) (p : Plan) (f : Nat) : Nat :=
  if p.fix.any (fun e => e.1 == f) then (Sparse.get (fun _ => ⟨0, []⟩) p.fix f : FixCopy).profile else fld (s.regw f 1) 0 12

/-- SINK_DEFAULT of a fixture, 0.125 degC (R217). -/
def sinkDefault (s : State) (p : Plan) (f : Nat) : Int := 8 * sfld (p.pw (s.fixProfile p f) 5) 8 8

/-- T_SINK in force, 0.125 degC (R229, R232). -/
def tSink (s : State) (p : Plan) (f : Nat) : Int := (s.thmRec f).sink.getD (s.sinkDefault p f)

/-- T_J, 0.125 degC: SINK_DEFAULT until a strike updates it (R232). -/
def tJ (s : State) (p : Plan) (f : Nat) : Int := (s.thmRec f).tj.getD (s.sinkDefault p f)

/-- T_inf, degC (R231). -/
def tInf (s : State) (p : Plan) (f : Nat) : Rat :=
  mkRat (s.tSink p f) 8 + mkRat (fld (p.pw (s.fixProfile p f) 2) 16 16) 256 * mkRat (s.thmRec f).u 4096

/-- The junction temperature at a TB0 instant, degC, by the profiles of plan `p` (R230, R231). -/
def tAt (s : State) (p : Plan) (f : Nat) (ps0 : Word) : Rat :=
  let d := (ps0 - (s.thmRec f).upd).toInt
  let tau := fld (p.pw (s.fixProfile p f) 2) 0 16
  let d := if d < 0 then 0 else d
  s.tInf p f + (mkRat (s.tJ p f) 8 - s.tInf p f) * expNeg (mkRat d (tau * 1000000))

/-- T_J as THM computes it at a TB0 instant, 0.125 degC: within 0.25 degC of the expression (R230, R232; PRESUMED, log entry 23). -/
def tjAt (s : State) (p : Plan) (f : Nat) (ps0 : Word) : Int :=
  let t := s.tAt p f ps0 * 8
  clampI (-(2 - t).floor) (t + 2).floor (roundQ t + Config.tjError f ps0)

/-- A fixture is updated at a strike of a frame of plan `p` (R230, R231): `u` is the new weighted drive, none to keep it. -/
def thmUpdate (p : Plan) (f : Nat) (ps0 : Word) (u : Option Nat) (s : State) : State :=
  let t := s.thmRec f
  let u := u.getD t.u
  if serialLt ps0 t.upd then s.setThm f { t with u := u }
  else s.setThm f { t with tj := some (s.tjAt p f ps0), upd := ps0, u := u }

/-- The fixtures of a zone's entries, with their slot counts. -/
def zoneFix (p : Plan) (z : Nat) : List (Nat × Nat) :=
  let l := (p.zoneEntries z).map p.eFleet
  l.eraseDups.map (fun f => (f, (l.filter (fun x => x == f)).length))

/-- THM follows the strike of a frame (R230): `pow` is none for a held frame, and empty for a blackout frame. -/
def thmStrike (p : Plan) (z : Nat) (ps0 : Word) (pow : Option (Sparse Rat)) (s : State) : State :=
  (zoneFix p z).foldl (fun a e =>
    let u : Option Nat :=
      if a.heatOff.contains e.1 then some 0
      else pow.map (fun m => Nat.min 65535 (Sparse.get (fun _ => (0 : Rat)) m e.1 / ((e.2 : Nat) : Rat) * 4096).floor.toNat)
    a.thmUpdate p e.1 ps0 u) (s.enter [20] p.epoch)

/-- HEAT_OFF_COUNT and STALE_COUNT show how many records there are (R238). -/
def thmCounts (s : State) : State :=
  (s.wr Reg.THM.HEAT_OFF_COUNT (W s.heatOff.length)).wr Reg.THM.STALE_COUNT (W (s.thm.filter (fun e => e.2.stale)).length)

/-- A heatsink report (R232, R235), 0.125 degC. -/
def heatReport (f : Nat) (t : Int) (s : State) : State :=
  let x := s.thmRec f
  let ok := t < 8 * sfld (s.plan.pw (s.fixProfile s.plan f) 5) 0 8
  let s := (s.bumpWrap Reg.THM.REPORTS).setThm f { x with sink := some t, lastSink := t, stale := false, rearmOk := ok }
  let s := s.thmCounts
  if s.heatOff.contains f && ok && !x.rearmOk then s.raise 20 1 else s

/-- An over-temperature report (R234). -/
def otReport (f : Nat) (s : State) : State :=
  if s.heatOff.contains f then s.bump Reg.THM.OT_REPEAT
  else
    let x := s.thmRec f
    let s := s.setThm f { x with rearmOk := false, trips := Nat.min 255 (x.trips + 1) }
    let s := ({ s with heatOff := s.heatOff ++ [f] }.journal s).thmCounts
    ((s.bump Reg.THM.TRIPS).wr Reg.THM.LAST_TRIP (W f)).raise 20 0 |>.fault f 2 true 0

/-- The nodes of a fixture are told of a re-arm (R235, R277, R378): those that its map entries name, and the one that its record is bound to. -/
def rearmSend (f : Nat) (s : State) : State :=
  let p := s.plan
  let kind := fld (s.regw f 0) 1 3
  let mapped := (p.valid.filter (fun e => p.eFleet e == f && fld (p.mw e 0) 9 2 == 0)).map (fun e => (fld (p.mw e 0) 11 5, fld (p.mw e 4) 0 16))
  let nodes := ((mapped.map (fun n => (s.gzOwner n.1, n.2))) ++ s.boundNode f).eraseDups
  let s := nodes.foldl (fun a n => a.gzMgmt n.1 false n.2 7 []) s
  if bit (s.regw f 0) 0 && (kind == 3 || kind == 4) then s.fleetSend f 4 0 [] else s

/-- A re-arm, by a write to THM.REARM or by THM itself (R235, R236). -/
def rearm (f : Nat) (auto : Bool) (s : State) : State :=
  let r := if !s.heatOff.contains f then 3 else if !(s.thmRec f).rearmOk then 2 else 1
  let s := s.wr Reg.THM.REARM_STATUS (W (f + 0x20000 * r + 0x100000 * b2n auto))
  if r == 1 then (({ s with heatOff := s.heatOff.filter (fun x => x != f) }.journal s).thmCounts.rearmSend f).fault f 2 false 0 else s

/-- THM.CFG (R238): REPORT_AGE and AUTO_DELAY, s. -/
def reportAge (s : State) : Nat := Nat.max 1 (fld (s.rd Reg.THM.CFG) 16 16)
def autoDelay (s : State) : Nat := Nat.max 1 (fld (s.rd Reg.THM.CFG) 0 16)

/-- A time passes without a report (R232). -/
def reportStale (f seconds : Nat) (s : State) : State :=
  let x := s.thmRec f
  if s.reportAge ≤ seconds && x.sink.isSome && !x.stale then ((s.setThm f { x with stale := true }).thmCounts).raise 20 2 else s

/-- REARM_OK has stayed 1 for a time (R236). -/
def autoRearm (f seconds : Nat) (s : State) : State :=
  if s.autoDelay ≤ seconds && bit (s.plan.pw (s.fixProfile s.plan f) 0) 16 && s.heatOff.contains f && (s.thmRec f).rearmOk then s.rearm f true else s

end State

/-- GM_DATA_ACCESS (R215). -/
def execGmDataAccess (r : Requester) (w : Option Word) (s : State) : Out :=
  .next (match w with
    | some v => s.access r Reg.CLR.GM_DATA v (State.gmWrite r v)
    | none => s.readAccess r Reg.CLR.GM_DATA (s.gmRead r) (State.gmReadEff r))

/-- GM_GO (R216). -/
def execGmGo (r : Requester) (v : Word) (s : State) : Out :=
  .next (s.access r Reg.CLR.GM_GO v (fun s => if bit v 0 then s.gmGo (bit v 1) else s))

/-- GM_SWAP (R216). -/
def execGmSwap (s : State) : Out := .next s.gmSwap

/-- GM_OLD_BANK_RETIRE (R216). -/
def execGmOldBankRetire (s : State) : Out := .next s.gmRetire

/-- RESID_SEL (R226). -/
def execResidSel (r : Requester) (v : Word) (s : State) : Out := .next (s.access r Reg.CLR.RESID_SEL v (State.residSel (fld v 0 8)))

/-- REPORT_STALE (R232). -/
def execReportStale (f : Fin 131072) (seconds : Nat) (s : State) : Out := .next (s.reportStale f seconds)

/-- THM_REARM (R235). -/
def execThmRearm (r : Requester) (f : Fin 131072) (s : State) : Out := .next (s.access r Reg.THM.REARM (W f.val) (State.rearm f false))

/-- AUTO_REARM (R236). -/
def execAutoRearm (f : Fin 131072) (seconds : Nat) (s : State) : Out := .next (s.autoRearm f seconds)

end Sys2Proof.Machine
end

