-- ==== Sys2Proof/Machine/Frames.lean ====
section
/-!
DEFINITION. The life of a frame: zone commands and cues (R143-R146, R204, R205), admission (R192-R197), the lanes (R184-R188), release and strike (R189,
R198, R199).
-/
namespace Sys2Proof.Machine

/-- Presentation time of grid frame `k` of a zone (R192). -/
def framePt (p : Plan) (z k : Nat) : Word := W (gridNs (p.zRate z) k)

/-- Its strike instant (R193). -/
def framePs (p : Plan) (z k : Nat) : Word := framePt p z k + BitVec.ofInt 32 (p.zOffset z)

/-- The masks of the cue words (R144). -/
def cueMask (w : Nat) : Word :=
  if w == 0 then 0x1FFFF else if w == 4 || w == 6 then 0xFFFF else if 7 ≤ w && w ≤ 12 then 0xFFFFF else if w == 15 then 0 else 0xFFFFFFFF

namespace State

/-- The plan under which grid frame `k` of a zone is rendered (R17, R203): none where the zone has no such frame. -/
def planFor (s : State) (z k : Nat) : Option Plan :=
  if s.plan.zEn z && s.ptcOf s.plan z ≤ (gridNs (s.plan.zRate z) k : Nat) then some s.plan
  else
    match s.planOld with
    | some old => if old.zEn z && ((gridNs (old.zRate z) k : Nat) : Int) < s.ptcOf old z then some old else none
    | none => none

/-- The plan of an epoch. -/
def planOf (s : State) (e : Word) : Plan :=
  match s.planOld with
  | some old => if old.epoch == e then old else s.plan
  | none => s.plan

/-- A zone's run on the grid of a plan: a new grid starts afresh (R203), and one on another time base has no frame before it. -/
def zrunFor (s : State) (p : Plan) (z : Nat) : ZoneRun :=
  let r := s.zrun z
  if r.grid == (p.zRate z, p.zTb z) then r
  else { r with grid := (p.zRate z, p.zTb z), lastK := none, lastPt := if r.grid.2 == p.zTb z then r.lastPt else none }

/-- Presentation time, on extended time, of the zone's frame before grid frame `k`: the grid frame before it where the zone has run on this grid, else its last frame
on another; none where it has had no frame. -/
def ptBefore (s : State) (p : Plan) (z k : Nat) : Option Int :=
  let r := s.zrunFor p z
  match r.lastK with
  | some _ => if k == 0 then none else some (gridNs (p.zRate z) (k - 1) : Nat)
  | none => r.lastPt

/-- A request for time `at_` comes late for frame `k` (R145, R204): the zone's frame before it was already at or after that time. `off` is what the time adds to a PT. -/
def comesLate (s : State) (p : Plan) (z k : Nat) (off : Int) (at_ : Word) : Bool :=
  match s.ptBefore p z k with
  | some pt => decide (s.extOf (p.zTb z) at_ ≤ pt + off)
  | none => false

/-! Zone commands. -/

/-- A ZCMD (R204; DEDUCED, log entry 33: busy before disabled before a reserved OP). -/
def zcmd (z op : Nat) (now : Bool) (s : State) : State :=
  let r := s.zrun z
  let res := if r.cmd.isSome then 4 else if !s.plan.zEn z then 5 else if op == 0 || 4 < op then 6 else 1
  let s := s.wr Reg.FE.ZCMD_STATUS (W (z + 0x100 * res))
  if res == 1 then s.setZrun z { r with cmd := some (op, s.rd Reg.FE.ZCMD_PT, now) } else s

/-- A zone command that applies to frame `k` is applied (R204). -/
def zcmdApply (p : Plan) (z k : Nat) (s : State) : State :=
  let r := s.zrun z
  match r.cmd with
  | none => s
  | some (op, at_, now) =>
    if now || serialGe (framePs p z k) at_ then
      let late := !now && s.comesLate p z k (p.zOffset z) at_
      let s := s.setZrun z { r with cmd := none }
      let s := s.wrBit (Reg.FE.ZONE_STATE z) (if op ≤ 2 then 0 else 1) (op % 2 == 1)
      let s := if fld (s.rd Reg.FE.ZCMD_STATUS) 0 8 == z then s.wrFld Reg.FE.ZCMD_STATUS 8 3 (if late then 3 else 2) else s
      s.raise 16 3
    else s

/-! Cues. -/

/-- Place of the word that CUE_SEL and CUE_INDEX select, in the cue banks. -/
def cueAt (s : State) : Nat := 256 * fld (s.rd Reg.DMK.CUE_SEL) 0 8 + fld (s.rd Reg.DMK.CUE_INDEX) 0 8

/-- CUE_INDEX advances by one word (R176). -/
def cueAdvance (s : State) : State := s.wrFld Reg.DMK.CUE_INDEX 0 8 (fld (s.rd Reg.DMK.CUE_INDEX) 0 8 + 1)

/-- A zone has an armed cue. -/
def cueArmed (s : State) (z : Nat) : Bool := s.cueArm.any (fun c => c.1 == z)

/-- A write to CUE_DATA (R144, R146, R176). -/
def cueWrite (v : Word) (s : State) : State :=
  if bit (s.rd Reg.DMK.CUE_INDEX) 8 || s.cueArmed (fld (s.rd Reg.DMK.CUE_SEL) 0 8) then (s.err 23).cueAdvance
  else { s with cueI := Sparse.set cueDefault s.cueI s.cueAt (v &&& cueMask (s.cueAt % 16)) }.cueAdvance

/-- What CUE_DATA reads. -/
def cueRead (s : State) : Word := Sparse.get cueDefault (if bit (s.rd Reg.DMK.CUE_INDEX) 8 then s.cueA else s.cueI) s.cueAt

/-- CUE_GO (R145, R146; DESIGN CHOICE, log entry 33: of a zone that is armed and not enabled, busy is found before disabled). -/
def cueGo (v : Word) (s : State) : State :=
  let z := fld v 0 8
  if s.cueArmed z then ((s.wr Reg.DMK.CUE_STATUS (W (z + 0x400))).err 23).raise 23 0
  else if !s.plan.zEn z then (s.wr Reg.DMK.CUE_STATUS (W (z + 0x500))).raise 23 0
  else
    { s with cueArm := s.cueArm ++ [(z, s.rd Reg.DMK.CUE_PT, bit v 8)] }.wrBit (Reg.DMK.CUE_PEND (z / 32)) (z % 32) true |>.wr
      Reg.DMK.CUE_STATUS (W (z + 0x100))

/-- An armed cue that applies to frame `k` swaps the zone's banks (R143, R145): the new active bank is then in both, and is durable. -/
def cueSwap (p : Plan) (z k : Nat) (s : State) : State :=
  match s.cueArm.find? (fun c => c.1 == z) with
  | none => s
  | some (_, at_, now) =>
    if now || serialGe (framePt p z k) at_ then
      let late := !now && s.comesLate p z k 0 at_
      let mine := s.cueI.filter (fun e => e.1 / 256 == z)
      let cleared := s.cueA.filter (fun e => e.1 / 256 != z)
      let s := { s with cueArm := s.cueArm.filter (fun c => c.1 != z), cueA := mine.foldl (fun (m : Sparse Word) (e : Nat × Word) => Sparse.set cueDefault m e.1 e.2) cleared }.journal s
      let s := s.wrBit (Reg.DMK.CUE_PEND (z / 32)) (z % 32) false
      let s := if fld (s.rd Reg.DMK.CUE_STATUS) 0 8 == z then s.wrFld Reg.DMK.CUE_STATUS 8 3 (if late then 3 else 2) else s
      if late then (s.bump Reg.DMK.CUE_LATE).raise 23 0 else s
    else s

/-! Skips, drops and strikes. -/

/-- `n` frames of a zone are skipped or dropped (R199): cause 1 DEADLINE, 2 ADMIT, 3 FAULT. -/
def countSkip (z cause n : Nat) (ps : Word) (s : State) : State :=
  let a := if cause == 1 then Reg.FE.SKIP_DEADLINE else if cause == 2 then Reg.FE.SKIP_ADMIT else Reg.FE.SKIP_FAULT
  let s := (s.wr (Reg.FE.ZONE_SKIP z) (satAdd (s.rd (Reg.FE.ZONE_SKIP z)) n)).wr a (satAdd (s.rd a) n)
  ((s.wr Reg.FE.LAST_SKIP (W (z + 0x100 * cause))).wr Reg.FE.LAST_SKIP_PT ps).raise 16 0

/-- A strike joins an output port (R199). A port that is OFF is taken to have sent it (R83). -/
def portPush (pg : Nat) (i : StrikeOut) (s : State) : State :=
  if s.code pg == 0 then s else { s with portQ := Sparse.upd (fun _ => []) s.portQ pg (fun l => l ++ [i]) }.enter [pg] i.epoch

/-- A strike is released to every port of a zone (R199). -/
def strikeOut (p : Plan) (z k : Nat) (flags : Nat) (s : State) : State :=
  (p.zonePorts z).foldl (fun a pg => a.portPush pg { zone := z, k := k, ps := framePs p z k, epoch := p.epoch, flags := flags, tb := p.zTb z })
    (s.bumpWrap (Reg.FE.ZONE_STRUCK z))

/-- The ready-list capacity of a priority, and the reorder window, in force (R210). -/
def levelCap (s : State) (prio : Nat) : Nat := clampN 16 4096 (fld (Sparse.get regDefault s.inForce (Reg.DSP.LEVEL_CAP prio)) 0 13)
def reorderWin (s : State) : Nat := clampN 8 256 (fld (Sparse.get regDefault s.inForce Reg.DSP.REORDER_WIN) 0 9)

/-- Tiles in a priority's ready list (R188). -/
def readyTiles (s : State) (prio : Nat) : Nat :=
  (s.frames.filter (fun f => f.admitted && f.prio == prio)).foldl (fun a f => a + f.todo.length) 0

/-- Credits that FE holds for a priority's ready list (R23, R190): the tiles that it can still take. -/
def levelRoom (s : State) (prio : Nat) : Nat := if s.grants 27 then s.levelCap prio - s.readyTiles prio else 0

/-- The frames of FE after it has placed the tiles for which it holds credits, oldest first; `room` gives the credits of each priority. -/
def placeTiles : List Frame → (Nat → Nat) → List Frame
  | [], _ => []
  | f :: t, room =>
    let n := Nat.min (room f.prio) f.queued.length
    { f with admitted := f.admitted || n != 0, todo := f.todo ++ f.queued.take n, queued := f.queued.drop n } ::
      placeTiles t (fun q => if q == f.prio then room q - n else room q)

/-- FE hands tiles of its frames to DSP as the ready lists have room (R188, R190). A frame is admitted once its first tile is in the list. -/
def admitWaiting (s : State) : State := { s with frames := placeTiles s.frames s.levelRoom }

/-- A frame is gone from FE, the ready lists, the lanes and, where it was dropped, from the ports that have not sent it (R198). -/
def forgetFrame (z k : Nat) (s : State) : State :=
  { s with frames := s.frames.filter (fun f => !(f.zone == z && f.k == k)), lanes := s.lanes.filter (fun e => !(e.2.zone == z && e.2.k == k)) }

/-- What the ports still hold of a frame is flushed: its packets, each closed by its last tile or by the abort item that FE puts in its place, and its strikes (R25,
R198). -/
def flushFrame (z k : Nat) (s : State) : State :=
  let s := portPages.foldl (fun a pg => a.dropTiles pg (fun t => t.zone == z && t.k == k)) s
  { s with portQ := s.portQ.filterMap (fun (q : Nat × List StrikeOut) =>
      let l := q.2.filter (fun i => !(i.zone == z && i.k == k))
      if l.isEmpty then none else some (q.1, l)) }

/-- A frame's strike is released (R199, R226, R230). -/
def releaseStrike (f : Frame) (s : State) : State :=
  let p := s.planOf f.epoch
  let s := (s.forgetFrame f.zone f.k).strikeOut p f.zone f.k 0
  ((s.residLatch f.zone { f.stats with ps := f.ps }).thmStrike p f.zone f.ps0 (some f.pow)).admitWaiting

/-- A frame changes. -/
def updFrame (z k : Nat) (g : Frame → Frame) (s : State) : State :=
  { s with frames := s.frames.map (fun f => if f.zone == z && f.k == k then g f else f) }

/-- The tile that DSP may release next of a frame (R189): finished, first of what is left of its packet, and with a credit for its queue (R23). -/
def nextRelease (s : State) (f : Frame) : Option (Nat × List Nat × TilePips) :=
  f.left.findSome? (fun q => match q.2 with
    | t :: rest => if s.tileRoom q.1 f.zone then (f.buf.find? (fun x => x.tile == t)).map (fun x => (q.1, rest, x)) else none
    | [] => none)

/-- DSP releases the finished tiles whose turn it is (R189), with fuel the number of tiles that wait; the last of a packet carries EOP. -/
def releaseTiles (z k : Nat) : Nat → State → State
  | 0, s => s
  | n + 1, s =>
    match s.frames.find? (fun f => f.zone == z && f.k == k) with
    | none => s
    | some f =>
      match s.nextRelease f with
      | none => s
      | some (pg, rest, x) =>
        let t : TileOut := { zone := z, k := k, ps := f.ps, epoch := f.epoch, eop := rest.isEmpty, tile := x }
        releaseTiles z k n (((s.putTile pg t).enter [pg] f.epoch).updFrame z k (fun f => { f with
          buf := f.buf.filter (fun y => y.tile != x.tile)
          left := f.left.map (fun q => if q.1 == pg then (pg, rest) else q) }))

/-- PIX of a zone's frame may start at a Gyzor port end (R266): PS of its frame k - 2, plus D_FAR, has passed. -/
def pixMay (s : State) (n z k tb : Nat) : Bool :=
  (s.gz n).begun.all (fun b => !(b.1 == z && b.2.1 + 2 ≤ k) || serialGe (s.tb tb).count (b.2.2 + s.rd (Reg.GZP.D_FAR n)))

/-- Every Gyzor port of a frame may start its PIX (R266). -/
def portsMay (s : State) (f : Frame) : Bool :=
  f.left.all (fun q => !(32 ≤ q.1 && q.1 < 64) || s.pixMay (s.gzOwner (q.1 - 32)) f.zone f.k ((s.planOf f.epoch).zTb f.zone))

/-- Every tile of a frame is released. -/
def Frame.released (f : Frame) : Bool := f.left.all (fun q => q.2.isEmpty)

/-- A frame releases what it can, and its strike once no tile is left and no port waits under R266 (R189, R199). -/
def releaseFrame (z k : Nat) (s : State) : State :=
  let n := match s.frames.find? (fun f => f.zone == z && f.k == k) with | some f => f.buf.length | none => 0
  let s := s.releaseTiles z k n
  match s.frames.find? (fun f => f.zone == z && f.k == k) with
  | some f => if Frame.released f && s.portsMay f then s.releaseStrike f else s
  | none => s

/-- Credits for port queues are back, or a port's wait is over: what waited is released, oldest frame first (R23, R189, R266). -/
def creditBack (s : State) : State :=
  (s.frames.filter (fun f => !f.buf.isEmpty || Frame.released f)).foldl (fun a f => a.releaseFrame f.zone f.k) s

/-- A frame is dropped (R198, R199). -/
def dropFrame (z k cause : Nat) (ps : Word) (s : State) : State :=
  ((((s.forgetFrame z k).flushFrame z k).countSkip z cause 1 ps).admitWaiting).creditBack

/-! Admission. -/

/-- Cycles of admitted, unfinished tiles at a priority or above it (R197). -/
def cyclesAhead (s : State) (prio : Nat) : Nat :=
  (s.frames.filter (fun f => f.admitted && prio ≤ f.prio)).foldl
    (fun a f => a + (f.queued.length + f.todo.length + f.busy.length) * tileCycles ((s.planOf f.epoch).zLayers f.zone)) 0

/-- CFG.MARGIN (R207), µs. -/
def feMargin (s : State) : Nat := clampN 10 10000 (fld (s.rd Reg.FE.CFG) 0 16)

/-- Time from S to the render deadline, ns (R135, R196). -/
def renderWindow (s : State) (p : Plan) (z : Nat) : Int :=
  (periodsNs (p.zRate z) (p.zLead z) : Nat) + p.zOffset z - (s.zoneLead p z * 1000 + s.feMargin * 1000 : Nat)

/-- The frame is skipped at admission (R196, R197). -/
def admitSkips (s : State) (p : Plan) (z k : Nat) : Bool :=
  let win := s.renderWindow p z
  let d := framePs p z k - W (s.zoneLead p z * 1000 + s.feMargin * 1000)
  let cost := s.cyclesAhead (p.zPrio z) + (p.zoneTiles z).length * tileCycles (p.zLayers z)
  win ≤ 0 || (bit (s.rd Reg.FE.CFG) 16 &&
    (d - (s.tb (p.zTb z)).count).toInt * ((s.lanesActive * 800 : Nat) : Int) < ((cost * 1000 : Nat) : Int))

/-- TB1 less TB0, on their extended times, at this tick (R194). -/
def ext10 (s : State) : Int := ((s.tb 1).ext : Int) - ((s.tb 0).ext : Int)

/-- The strike instant of a frame on TB0 (R193, R194, R230). -/
def ps0Of (s : State) (p : Plan) (z k : Nat) : Word := if p.zTb z == 1 then framePs p z k - s.tb10 else framePs p z k

/-- FE takes a frame: the layers take their inputs, and its tiles go to DSP as credits allow (R135, R188, R190). -/
def beginFrame (p : Plan) (z k : Nat) (late : List (Fin 8)) (s : State) : State :=
  let e : Int := (gridNs (p.zRate z) k : Nat)
  let e0 := if p.zTb z == 1 then e - s.ext10 else e
  let r := s.layerShots p z (e0 + s.ext10 - (periodsNs (p.zRate z) (p.zLead z) : Nat)) e0 (e0 + s.ext10) (late.map (fun i => i.val))
  let f : Frame :=
    { zone := z
      k := k
      pt := framePt p z k
      ps := framePs p z k
      ps0 := s.ps0Of p z k
      epoch := p.epoch
      prio := p.zPrio z
      admitted := false
      queued := p.zoneTiles z
      todo := []
      busy := []
      buf := []
      left := (p.zonePorts z).map (fun pg => (pg, (p.zoneTiles z).filter (fun t => p.tilePage t == pg)))
      shots := r.2
      gm := s.gmSwaps
      hot := s.heatOff
      stats := Resid.init
      pow := [] }
  let s := { r.1 with frames := r.1.frames ++ [f] }.enter [16, 23] p.epoch
  if f.queued.isEmpty then s.releaseStrike f else s.admitWaiting

/-- The zone shows the held look (R205). -/
def zoneHeld (s : State) (z : Nat) : Bool := bit (s.rd (Reg.FE.ZONE_STATE z)) 0 || s.code 16 == 6 || (s.blk 16).hold

/-- The zone shows blackout (R205). -/
def zoneBlack (s : State) (z : Nat) : Bool := bit (s.rd (Reg.FE.ZONE_STATE z)) 1

/-- The page holds a reloadable table that every frame reads: FE, LANE, MAP, CLR, THM or DMK (R31). -/
def frameTable (pg : Nat) : Bool := (16 ≤ pg && pg ≤ 20) || pg == 23

/-- The zone reads a part of the map, a profile's solver tables, or a table of the engine, that is being reloaded (R31, R209, R228). -/
def zoneDamaged (s : State) (p : Plan) (z : Nat) : Bool :=
  s.reloads.any (fun x => match x with
    | .mapEntry e => (p.zoneTiles z).contains (e.val / 256)
    | .solver q => (p.zoneEntries z).any (fun e => p.eProfile e == q.val)
    | .table pg => frameTable pg.val
    | _ => false)

/-- At its sample instant a frame is admitted, skipped, dropped, or struck without rendering (R195-R197, R203-R206, R209, R228). -/
def frameAdmit (z k : Nat) (late : List (Fin 8)) (s : State) : State :=
  match s.planFor z k with
  | none => s
  | some p =>
    let r := s.zrunFor p z
    let seen := match r.lastK with | some l => decide (k ≤ l) | none => false
    if !s.feUp || seen then s
    else
      let gap := match r.lastK with | some l => k - l - 1 | none => 0
      let s := if s.mode == .hold then s else (s.zcmdApply p z k).cueSwap p z k
      let s := s.setZrun z { r with lastK := some k, lastPt := some (gridNs (p.zRate z) k : Nat), cmd := (s.zrun z).cmd }
      if s.mode == .hold then s
      else
        let s := if gap == 0 then s else s.countSkip z 2 gap (framePs p z (k - 1))
        let ps := framePs p z k
        let begin := fun (a : State) => a.setZrun z { a.zrun z with begun := some (gridNs (p.zRate z) k : Nat) }
        let s :=
          if s.zoneHeld z || s.zoneBlack z then
            let s := ((begin s).enter [16] p.epoch).strikeOut p z k (b2n (s.zoneHeld z) + 4 * b2n (s.zoneBlack z))
            s.thmStrike p z (s.ps0Of p z k) (if s.zoneBlack z then some [] else none)
          else if s.zoneDamaged p z then s.countSkip z 3 1 ps
          else if s.admitSkips p z k then s.countSkip z 2 1 ps
          else (begin s).beginFrame p z k late
        -- the last frame of a zone that the swap disables (R146)
        if !s.plan.zEn z && s.ptcOf p z ≤ (gridNs (p.zRate z) (k + 1) : Nat) then s.cueCancel z else s

/-- The tick of a frame's sample instant, counted on TB0 (R135, R194). -/
def sampleTick (s : State) (p : Plan) (z k : Nat) : Int :=
  ((gridNs (p.zRate z) k : Nat) - (periodsNs (p.zRate z) (p.zLead z) : Nat) - (if p.zTb z == 1 then s.ext10 else 0)) / 2

/-- The frame of another zone whose sample instant falls on the same tick as that of frame `k` of zone `z`, and goes before it (R197): a higher priority, or the same
and a lower zone number (DEDUCED, log entry 126: the same tick of TB0). -/
def tickMate (s : State) (p : Plan) (z k y : Nat) : Option Nat :=
  let t := s.sampleTick p z k
  (s.plan :: s.planOld.toList).findSome? (fun q =>
    let first := p.zPrio z < q.zPrio y || (p.zPrio z == q.zPrio y && y < z)
    if y == z || !q.zEn y || !first then none
    else
      match gridBefore (q.zRate y) (2 * t + 2 + (periodsNs (q.zRate y) (q.zLead y) : Nat) + (if q.zTb y == 1 then s.ext10 else 0)) with
      | some j => if s.sampleTick q y j == t && s.planFor y j == some q then some j else none
      | none => none)

/-- The frames that go before frame `k` of zone `z` on the tick of its sample instant (R197): in descending priority, then in ascending zone number. -/
def tickMates (s : State) (z k : Nat) : List (Nat × Nat) :=
  match s.planFor z k with
  | none => []
  | some p =>
    let l := (List.range 256).filterMap (fun y => (s.tickMate p z k y).map (fun j => (y, j)))
    let prio := fun (e : Nat × Nat) => match s.planFor e.1 e.2 with | some q => q.zPrio e.1 | none => 0
    ((List.range 8).reverse.map (fun n => l.filter (fun e => prio e == n))).flatten

/-! Lanes. -/

/-- A lane has failed (R186). -/
def laneFailed (s : State) (l : Nat) : Bool := bit (s.rd (Reg.LANE.FAILED (l / 32))) (l % 32)

/-- The primary lane whose work a spare carries; 0xFF none (R208). -/
def spareOf (s : State) (i : Nat) : Nat := fld (s.rd Reg.LANE.SPARE_MAP) (8 * i) 8

/-- Lane `l` is under online test (R455). -/
def laneTesting (s : State) (l : Nat) : Bool := bit (s.rd Reg.LANE.TESTING) 7 && fld (s.rd Reg.LANE.TESTING) 0 7 == l

/-- A lane carries work (R186, R455). -/
def laneWorks (s : State) (l : Nat) : Bool :=
  !s.laneFailed l && !s.laneTesting l && (if l < 64 then !(List.range 4).any (fun i => s.spareOf i == l) else s.spareOf (l - 64) != 0xFF)

/-- A free spare (R186). -/
def freeSpare (s : State) : Option Nat := (List.range 4).find? (fun i => !s.laneFailed (64 + i) && s.spareOf i == 0xFF)

/-- Spares go to failed primary lanes in ascending order; ACTIVE, CAPACITY and SPARED follow (R186, R208). -/
def assignSpares (s : State) : State :=
  let s := (List.range 4).foldl (fun a i => if a.laneFailed (64 + i) then a.wrFld Reg.LANE.SPARE_MAP (8 * i) 8 0xFF else a) s
  let s := ((List.range 64).filter s.laneFailed).foldl (fun a l =>
    if (List.range 4).any (fun i => a.spareOf i == l) then a
    else match a.freeSpare with
      | some i => (a.wrFld Reg.LANE.SPARE_MAP (8 * i) 8 l).raise 17 0
      | none => a) s
  let failed := ((List.range 68).filter s.laneFailed).length
  let act := Nat.min 64 (68 - failed)
  let old := s.lanesActive
  let s := ((s.wr Reg.LANE.ACTIVE (W act)).wr Reg.LANE.CAPACITY (W (act * 800))).updBlk 17 (fun b =>
    { b with spared := (List.range 4).any (fun i => s.spareOf i != 0xFF) })
  if act < 64 && act != old then (s.raise 17 1).setLoad true else s

/-- An online test is abandoned or ends: the lane resumes and the spare is free (R455). -/
def laneTestEnd (s : State) : State :=
  let t := s.rd Reg.LANE.TESTING
  if !bit t 7 then s
  else
    let s := s.wr Reg.LANE.TESTING (W (fld t 0 7))
    let s := (List.range 4).foldl (fun a i => if a.spareOf i == fld t 0 7 then a.wrFld Reg.LANE.SPARE_MAP (8 * i) 8 0xFF else a) s
    s.updBlk 17 (fun b => { b with spared := (List.range 4).any (fun i => s.spareOf i != 0xFF) })

/-- A lane is marked failed; an online test that runs is abandoned (R187, R455). -/
def failLane (l : Nat) (s : State) : State := (s.laneTestEnd.wrBit (Reg.LANE.FAILED (l / 32)) (l % 32) true).assignSpares

end State

/-- Statistics of two parts of a frame (R226). -/
def Resid.add (a b : Resid) : Resid :=
  { duvMax := Nat.max a.duvMax b.duvMax
    duvSum := a.duvSum + b.duvSum
    uvSlots := a.uvSlots + b.uvSlots
    errMax := Nat.max a.errMax b.errMax
    errSum := a.errSum + b.errSum
    errSlots := a.errSlots + b.errSlots
    oog := a.oog + b.oog
    ps := a.ps }

namespace State

/-- The group bank that a frame uses (R216). -/
def groupWord (s : State) (f : Frame) (g w : Nat) : Word :=
  Sparse.get gmDefault (if f.gm == s.gmSwaps then s.gmA else s.gmOld.getD s.gmA) (8 * g + w)

/-- What a lane reads beside the plan and the frame (R231). -/
def laneIn (s : State) (f : Frame) : LaneIn :=
  { group := s.groupWord f
    tPred := fun fl => s.tAt (s.planOf f.epoch) fl f.ps0 }

/-- Tiles of one packet in lanes or in the buffer (R189). -/
def inWindow (f : Frame) (p : Plan) (pg : Nat) : Nat :=
  (f.busy.filter (fun t => p.tilePage t == pg)).length + (f.buf.filter (fun t => p.tilePage t.tile == pg)).length

/-- The tile that a free lane takes (R188, R200): the frame and the tile. -/
def nextTile (s : State) : Option (Frame × Nat) :=
  ((List.range 8).reverse).findSome? (fun prio =>
    (s.frames.filter (fun f => f.admitted && f.prio == prio)).findSome? (fun f =>
      let p := s.planOf f.epoch
      (f.todo.find? (fun t => inWindow f p (p.tilePage t) < s.reorderWin)).map (fun t => (f, t))))

/-- A lane takes a tile (R184, R188, R231). -/
def takeTile (l : Nat) (s : State) : State :=
  if !s.up 17 || !s.up 27 || !s.laneWorks l || s.lanes.any (fun e => e.1 == l) then s
  else
    match s.nextTile with
    | none => s
    | some (f, t) =>
      let p := s.planOf f.epoch
      let r := renderTile p (s.laneIn f) { f with stats := Resid.init, pow := [] } t
      let w : LaneWork := { zone := f.zone, k := f.k, tile := t, out := r.1, stats := r.2.stats, pow := r.2.pow, bins := r.2.bins }
      ({ s with lanes := s.lanes ++ [(l, w)] }.enter [18, 19, 20] f.epoch |>.updFrame f.zone f.k (fun f => { f with
        todo := f.todo.filter (fun x => x != t)
        busy := f.busy ++ [t] })).admitWaiting

/-- A lane finishes its tile (R189, R199). -/
def tileDone (l : Nat) (s : State) : State :=
  match s.lanes.find? (fun e => e.1 == l) with
  | none => s
  | some (_, w) =>
    let s := { s with lanes := s.lanes.filter (fun e => e.1 != l) }
    let s := w.bins.foldl (fun a e => a.setThm e.1 { a.thmRec e.1 with bin := e.2 }) s
    (s.updFrame w.zone w.k (fun f => { f with
      busy := f.busy.filter (fun x => x != w.tile)
      buf := f.buf ++ [w.out]
      stats := f.stats.add w.stats
      pow := w.pow.foldl (fun m e => Sparse.upd (fun _ => 0) m e.1 (fun x => x + e.2)) f.pow })).releaseFrame w.zone w.k

/-- A lane finds an error in itself while it processes a tile (R187). -/
def laneError (l : Nat) (s : State) : State :=
  match s.lanes.find? (fun e => e.1 == l) with
  | none => s
  | some (_, w) =>
    let ps := match s.frames.find? (fun f => f.zone == w.zone && f.k == w.k) with | some f => f.ps | none => 0
    (s.failLane l).dropFrame w.zone w.k 3 ps

/-- The render deadline passes (R190, R198, R266). -/
def renderDeadline (z k : Nat) (s : State) : State :=
  match s.frames.find? (fun f => f.zone == z && f.k == k) with
  | some f => s.dropFrame z k (if f.admitted then 1 else 2) f.ps
  | none => s

end State

/-- FRAME_ADMIT (R197): the frames of the same tick that go before it are admitted first. -/
def execFrameAdmit (z : Fin 256) (k : Nat) (late : List (Fin 8)) (s : State) : Out :=
  .next (((s.tickMates z k).foldl (fun a m => a.frameAdmit m.1 m.2 late) s).frameAdmit z k late)

/-- LANE_TAKE_TILE (R188). -/
def execLaneTakeTile (lane : Fin 68) (s : State) : Out := .next (s.takeTile lane)

/-- TILE_DONE (R189). -/
def execTileDone (lane : Fin 68) (s : State) : Out := .next (s.tileDone lane)

/-- LANE_ERROR (R187). -/
def execLaneError (lane : Fin 68) (s : State) : Out := .next (s.laneError lane)

/-- RENDER_DEADLINE (R198). -/
def execRenderDeadline (z : Fin 256) (k : Nat) (s : State) : Out := .next (s.renderDeadline z k)

/-- ZCMD_HOLD (R204). -/
def execZcmdHold (r : Requester) (z : Fin 256) (now : Bool) (s : State) : Out :=
  .next (s.access r Reg.FE.ZCMD (W (z + 0x100 + 0x1000 * b2n now)) (State.zcmd z 1 now))

/-- ZCMD_RELEASE_HOLD (R204). -/
def execZcmdReleaseHold (r : Requester) (z : Fin 256) (now : Bool) (s : State) : Out :=
  .next (s.access r Reg.FE.ZCMD (W (z + 0x200 + 0x1000 * b2n now)) (State.zcmd z 2 now))

/-- ZCMD_BLACKOUT (R204). -/
def execZcmdBlackout (r : Requester) (z : Fin 256) (now : Bool) (s : State) : Out :=
  .next (s.access r Reg.FE.ZCMD (W (z + 0x300 + 0x1000 * b2n now)) (State.zcmd z 3 now))

/-- ZCMD_RELEASE_BLACKOUT (R204). -/
def execZcmdReleaseBlackout (r : Requester) (z : Fin 256) (now : Bool) (s : State) : Out :=
  .next (s.access r Reg.FE.ZCMD (W (z + 0x400 + 0x1000 * b2n now)) (State.zcmd z 4 now))

/-- ZCMD_BAD_OP (R204). -/
def execZcmdBadOp (r : Requester) (z : Fin 256) (op : BitVec 4) (now : Bool) (s : State) : Out :=
  .next (s.access r Reg.FE.ZCMD (W (z + 0x100 * op.toNat + 0x1000 * b2n now)) (State.zcmd z op.toNat now))

/-- ZCMD_APPLY (R204). -/
def execZcmdApply (z : Fin 256) (k : Nat) (s : State) : Out :=
  .next (match s.planFor z k with
    | some p => if s.feUp && s.mode != .hold then s.zcmdApply p z k else s
    | none => s)

/-- CUE_DATA_ACCESS (R176). -/
def execCueDataAccess (r : Requester) (w : Option Word) (s : State) : Out :=
  .next (match w with
    | some v => s.access r Reg.DMK.CUE_DATA v (State.cueWrite v)
    | none => s.readAccess r Reg.DMK.CUE_DATA s.cueRead State.cueAdvance)

/-- CUE_GO (R145). -/
def execCueGo (r : Requester) (v : Word) (s : State) : Out := .next (s.access r Reg.DMK.CUE_GO v (State.cueGo v))

/-- CUE_SWAP (R145). -/
def execCueSwap (z : Fin 256) (k : Nat) (s : State) : Out :=
  .next (match s.planFor z k with
    | some p => if s.feUp && s.mode != .hold then s.cueSwap p z k else s
    | none => s)

end Sys2Proof.Machine
end

