-- ==== Sys2Proof/Machine/GzLine.lean ====
section
/-!
DEFINITION. The Gyzor line of a port end: measurement, training, faults, retunes, leakage and the line commands (R239-R257), and the start of an
enumeration (R270, R272).
-/
namespace Sys2Proof.Machine

namespace State

/-- LINE_STATUS.STATE of a port end (R243). -/
def lineSt (s : State) (n : Nat) : Nat := fld (s.rd (Reg.GZP.LINE_STATUS n)) 0 3

/-- Faults are found on a line (R243, R256): those that are not already latched and present are latched, counted and reported. -/
def lineLatch (n : Nat) (bits : Nat) (s : State) : State :=
  let seen := (s.rd (Reg.GZP.FAULT_NOW n) &&& s.rd (Reg.GZP.LINE_FAULT n)).toNat
  (bitsOf bits 11).foldl (fun a b =>
    if seen.testBit b then a else ((a.wrBit (Reg.GZP.LINE_FAULT n) b true).bump (Reg.GZP.FAULT_CNT n)).raise (32 + n) 1) s

/-- FAULT_NOW shows the faults that are present. -/
def faultNow (n bits : Nat) (s : State) : State := s.wr (Reg.GZP.FAULT_NOW n) (W bits)

/-- CMD_STATUS takes a command and its result (R256). -/
def lineResult (n cmd res : Nat) (s : State) : State := s.wr (Reg.GZP.CMD_STATUS n) (W (cmd + 16 * res))

/-- A line command that runs ends (R257). -/
def lineCmdEnd (n cmd : Nat) (s : State) : State :=
  let v := s.rd (Reg.GZP.CMD_STATUS n)
  if fld v 0 2 == cmd && fld v 4 3 == 1 then s.wrFld (Reg.GZP.CMD_STATUS n) 4 3 2 else s

/-- The block leaves CAL at the end of a retune (R81, R252). -/
def leaveCal (pg : Nat) (s : State) : State :=
  if s.code pg == 5 then ((s.updBlk pg (fun b => { b with stale := false })).setCode pg 2).settle pg else s

/-- ENUM_STATE of a port end (R285). -/
def enumState (n v : Nat) (s : State) : State := s.wrFld (Reg.GZP.NODES n) 16 3 v

/-- The line leaves UP or RETUNE for LOST, and from there MEASURE at once (R243); `path` where that is a path loss under R31. It ends a retune (R251), and what is known of the partner is
open again (DESIGN CHOICE, log entry 35: POL_INV, SWAPPED and PARTNER read 0 until the next check). -/
def lineLost (n : Nat) (path : Bool) (s : State) : State :=
  let s := s.calGone (32 + n)
  let s := if s.lineSt n == 5 then s.raise (32 + n) 3 else s
  let s := (s.updGz n (fun g => { g with
    clean := 0, tries := 0, retuneWant := false, retuneTrig := false, retuneReady := false, leakRun := false, echo := none })).lineMove n 6
  let s := (((s.lineCmdEnd n 1).lineCmdEnd n 3).leaveCal (32 + n)).gzGate n
  let s := if s.gzOwner n == n && !(s.ringOn (n / 2) && s.lineUp (n + 1)) then s.enumState n 0 else s
  let s := if path then s.blockFault (32 + n) else s
  let s := if s.lineSt n == 6 then (s.wrFld (Reg.GZP.LINE_STATUS n) 4 3 0).lineMove n 1 else s
  s.ringFollow (n / 2)

/-- The port sends ASSIGN (R270, R272). -/
def startEnum (n : Nat) (s : State) : State :=
  let o := s.gzOwner n
  (s.enumState o 1).gzCtl o { type := 5, bcast := true, addr := 0, payload := [1, 0, 0, 0], train := 0 }

/-- RATE of the two ends of a ring differs, found at end B (R240, R256). -/
def rateMismatch (s : State) (n : Nat) : Bool := s.ringOn (n / 2) && n % 2 == 1 && s.gzRate n != s.gzRate (n - 1)

/-- NVP of a port end in percent (R255). -/
def nvp (s : State) (n : Nat) : Nat := clampN 50 90 (fld (s.rd (Reg.GZP.LINE_CTL n)) 4 7)

/-- KIND of a discontinuity (R256). -/
def tdrKind : TdrKind → Nat
  | .opened => 1 | .short => 2 | .rise => 3 | .fall => 4

/-- The distance of an echo, t_rt x NVP x c / 2, in 0.5 m, to the nearest (R245; DESIGN CHOICE, log entry 116). -/
def tdrDist (v : Nat) (e : TdrEcho) : Nat := (e.trip * v * 299792458 + 50000000000000) / 100000000000000

/-- The four nearest discontinuities of a pair with a reflection of at least 0.1, within 600 m (R245). -/
def tdrNear (v : Nat) (l : List TdrEcho) : List TdrEcho :=
  ((l.filter (fun e => 100 ≤ e.refl.natAbs && tdrDist v e ≤ 1200)).mergeSort (fun a b => decide (a.trip ≤ b.trip))).take 4

/-- Entry `i` of the discontinuities of a pair (R245, R256). -/
def tdrWord (v : Nat) (l : List TdrEcho) (i : Nat) : Word :=
  match (tdrNear v l)[i]? with
  | some e => W (tdrDist v e + 0x1000 * tdrKind e.kind + 0x10000 * encS 8 (clampI (-125) 125 (roundQ (mkRat e.refl 8))) + 0x80000000)
  | none => 0

/-- TDR results are reported, and a TDR that waits ends (R245, R246). -/
def tdrSet (n : Nat) (p1 p2 : List TdrEcho) (s : State) : State :=
  let v := s.nvp n
  let s := (List.range 4).foldl (fun a i => (a.wr (Reg.GZP.TDR_P1 n i) (tdrWord v p1 i)).wr (Reg.GZP.TDR_P2 n i) (tdrWord v p2 i)) s
  (s.updGz n (fun g => { g with tdrWait := false })).lineCmdEnd n 2

/-- The equaliser loads the coefficients of its rate at a line temperature of 0.125 degC, as a training or retune begins (R250, R458; DESIGN CHOICE, log entry 117: each word is one signed
coefficient). Without a point there is no correction. -/
def loadEq (n temp : Nat) (s : State) : State :=
  let t := (BitVec.ofNat 16 temp).toInt
  let c := fun w => s.calAt 0 (s.gzRate n) (1 + w) BitVec.toInt t
  let l := if (c 0).isSome then (List.range 12).map (fun w => BitVec.ofInt 32 (roundQ ((c w).getD 0))) else []
  (s.wrFld (Reg.GZP.LINE_TEMP n) 0 16 temp).updGz n (fun g => { g with eq := l })

/-- The conditions that a measurement latches: it stops at the first step that finds one (R244). -/
def firstFaults (f : Nat) : Nat := if f.testBit 7 then 0x80 else if f % 32 != 0 then f % 32 else f &&& 0x60

/-- The checks and TDR of MEASURE complete (R243-R245), and training begins. -/
def checksDone (n : Nat) (faults : Nat) (polInv swapped partner : Bool) (p1 p2 : List TdrEcho) (temp : Nat) (s : State) : State :=
  if s.lineSt n != 1 then s
  else
    let f := if firstFaults faults != 0 then firstFaults faults else if s.rateMismatch n then 0x200 else 0
    let s := ((s.lineLatch n f).faultNow n f).lineCmdEnd n 0
    if f != 0 then (s.setGz n { s.gz n with clean := 0 }).lineMove n 2
    else
      let v := s.rd (Reg.GZP.LINE_STATUS n)
      let s := s.wr (Reg.GZP.LINE_STATUS n) (setBit (setBit (setBit v 4 polInv) 5 swapped) 6 partner)
      let s := (s.tdrSet n p1 p2).loadEq n temp
      (s.updGz n (fun g => { g with tries := 0 })).lineMove n 3

/-- EYE_MIN of a port end, in 1/64 UI. -/
def eyeMin (s : State) (n : Nat) : Nat := fld (s.rd (Reg.GZP.EQ_CFG n)) 0 6

/-- EYE and LINE_TEMP as a training leaves them (R243, R250, R254). -/
def recordEye (n eye temp : Nat) (s : State) : State :=
  (s.wr (Reg.GZP.EYE n) (W (eye + 0x100 * eye + 0x10000 * eye))).wr (Reg.GZP.LINE_TEMP n) (W (temp + 0x10000 * temp))

/-- EYE.CURRENT, its minimum and LINE_TEMP.CURRENT as measured. -/
def showEye (n eye temp : Nat) (s : State) : State :=
  let e := s.rd (Reg.GZP.EYE n)
  ((s.wr (Reg.GZP.EYE n) (setFld (setFld e 0 6 eye) 8 6 (Nat.min eye (fld e 8 6)))).wrFld (Reg.GZP.LINE_TEMP n) 0 16 temp)

/-- The line is UP (R243, R272, R282): a chain enumerates; a ring does when it enters ENUM. -/
def lineReady (n : Nat) (s : State) : State :=
  let k := n / 2
  let was := fld (s.rd (Reg.GZR.RING_STATUS k)) 0 3
  let s := (s.lineMove n 4).ringFollow k
  if !s.ringOn k then s.startEnum n
  else if was != 1 && fld (s.rd (Reg.GZR.RING_STATUS k)) 0 3 == 1 then s.startEnum n
  else s

/-- A training attempt ends (R243). -/
def trainDone (n eye far temp len : Nat) (s : State) : State :=
  if s.lineSt n != 3 then s
  else
    let g := s.gz n
    let t := g.tries + 1
    let s := (s.setGz n { g with tries := t }).wrFld (Reg.GZP.LINE_STATUS n) 8 2 t
    if s.eyeMin n ≤ eye && s.eyeMin n ≤ far then
      ((s.recordEye n eye temp).wr (Reg.GZP.SEG_LEN n) (W len)).lineReady n
    else if 3 ≤ t then ((s.setGz n { s.gz n with clean := 0 }).lineLatch n 0x100).lineMove n 2
    else s

/-- A faulted line repeats its checks (R243, R257). -/
def faultRecheck (n faults : Nat) (s : State) : State :=
  if s.lineSt n != 2 then s
  else
    let f := firstFaults faults + (if s.rateMismatch n then 0x200 else 0)
    let s := ((s.lineLatch n f).faultNow n f).lineCmdEnd n 0
    let g := s.gz n
    if f != 0 then s.setGz n { g with clean := 0 }
    else if 2 ≤ g.clean then (s.setGz n { g with clean := 0 }).lineMove n 1
    else s.setGz n { g with clean := g.clean + 1 }

/-- The line is in UP or RETUNE. -/
def lineLive (s : State) (n : Nat) : Bool := s.lineSt n == 4 || s.lineSt n == 5

/-- A condition of R241, or a loss of signal, takes a live line down (R243). -/
def lineDown (n b : Nat) (s : State) : State :=
  if !s.lineLive n then s
  else
    let s := s.lineLatch n (2 ^ b)
    let s := if b < 8 then s.wrBit (Reg.GZP.FAULT_NOW n) b true else s
    (s.bump (Reg.GZP.LOS_CNT n)).lineLost n true

/-- The eye or the temperature of a live line is measured (R251). -/
def retuneTrigger (n eye temp : Nat) (s : State) : State :=
  if s.lineSt n != 4 then s
  else
    let s := s.showEye n eye temp
    let q := s.rd (Reg.GZP.EQ_CFG n)
    let low := Nat.min (fld q 8 6) (s.eyeMin n - 1)
    let d := sfld (s.rd (Reg.GZP.LINE_TEMP n)) 0 16 - sfld (s.rd (Reg.GZP.LINE_TEMP n)) 16 16
    let delta := fld q 16 8
    if bit (s.rd (Reg.GZP.LINE_CTL n)) 12 && !(s.gz n).retuneTrig && (eye < low || (delta != 0 && 8 * delta < d.natAbs)) then
      (s.updGz n (fun g => { g with retuneWant := true, retuneTrig := true })).raise (32 + n) 3
    else s

/-- A retune that waits starts, just after a STRIKE has left or where no zone strikes within one second (R252), with the coefficients of the sets then held (R250). On a ring it waits for that of
the other end. -/
def retuneStart (n : Nat) (idle : Bool) (temp : Nat) (s : State) : State :=
  let g := s.gz n
  let ring := s.ringOn (n / 2)
  let other := if n % 2 == 0 then n + 1 else n - 1
  if s.lineSt n != 4 || !g.retuneWant || !(g.retuneReady || idle) || (ring && s.lineSt other == 5) then s
  else
    let s := s.updGz n (fun g => { g with retuneWant := false, retuneTrig := false, retuneReady := false })
    let s := ((s.loadEq n temp).bumpWrap (Reg.GZP.RETUNES n)).lineMove n 5
    if s.code (32 + n) == 2 || (s.code (32 + n) == 6 && s.mode == .service) then
      (s.setCode (32 + n) 5).updBlk (32 + n) (fun b => { b with stale := !ring && !b.hold })
    else s

/-- A retune ends (R243, R251; DEDUCED, log entry 35: it records the eye and the temperature as a training does). -/
def retuneDone (n eye far temp : Nat) (s : State) : State :=
  if s.lineSt n != 5 then s
  else
    if s.eyeMin n ≤ eye && s.eyeMin n ≤ far then
      ((((s.raise (32 + n) 3).recordEye n eye temp).lineCmdEnd n 1).lineMove n 4).leaveCal (32 + n)
    else
      (((s.showEye n eye temp).lineLatch n 0x100).bump (Reg.GZP.LOS_CNT n)).lineLost n true

/-- A leakage measurement starts (R247, R248): on a ring only at end A. -/
def leakStart (n : Nat) (s : State) : State := s.setGz n { s.gz n with leakRun := true }

/-- A leakage measurement may start. -/
def leakMay (s : State) (n : Nat) : Bool := bit (s.rd (Reg.GZP.LINE_CTL n)) 13 && s.gzOwner n == n

/-- LEAK_CFG.PERIOD of a port end, s (R247, R254). -/
def leakPeriod (s : State) (n : Nat) : Nat := Nat.max 10 (fld (s.rd (Reg.GZP.LEAK_CFG n)) 16 16)

/-- The leakage of a pair, the mean of its two readings in kOhm, in 0.1 MOhm to the nearest (R247, R254; DESIGN CHOICE, log entry 116). -/
def leakMean (a b : Nat) : Nat := let v := (a + b + 100) / 200; if 65534 < v then 65535 else v

/-- A leakage measurement ends (R247-R249). On a ring end B's LEAK and LEAK_VALID read those of end A. -/
def leakDone (n : Nat) (l : LeakReadings) (s : State) : State :=
  let g := s.gz n
  let p1 := leakMean l.p1Plus l.p1Minus
  let p2 := leakMean l.p2Plus l.p2Minus
  if !g.leakRun then s
  else
    let th := fld (s.rd (Reg.GZP.LEAK_CFG n)) 0 16
    let low := p1 < th || p2 < th
    let clear := 5 * th ≤ 4 * p1 && 5 * th ≤ 4 * p2
    let s := s.setGz n { g with leakRun := false, leakLow := low || (g.leakLow && !clear) }
    let s := ((s.wr (Reg.GZP.LEAK n) (W (p1 + 0x10000 * p2))).wrBit (Reg.GZP.LINE_STATUS n) 7 true).lineCmdEnd n 3
    if low && !g.leakLow then s.raise (32 + n) 2 else s

/-- A write to LINE_CMD (R257). -/
def lineCmd (n : Nat) (v : Word) (s : State) : State :=
  let pg := 32 + n
  let cmds := bitsOf v.toNat 4
  let st := s.lineSt n
  let g := s.gz n
  match cmds with
  | [] => s
  | [c] =>
    if !(s.blk pg).enable || s.code pg == 0 || s.code pg == 3 || s.code pg == 4 || s.code pg == 7 then s.lineResult n c 5
    else if c == 0 then
      if st == 2 then s.lineResult n c 1
      else if st == 4 || st == 5 then (s.lineResult n c 1).lineLost n true
      else s.lineResult n c 3
    else if c == 1 then
      if st == 4 then (s.lineResult n c 1).setGz n { g with retuneWant := true }
      else if st == 3 || st == 5 then s.lineResult n c 3
      else s.lineResult n c 4
    else if c == 2 then
      if st < 3 || st == 6 then (s.lineResult n c 1).setGz n { g with tdrWait := true }
      else if st == 3 then s.lineResult n c 3
      else if st == 4 && s.mode == .service then ((s.lineResult n c 1).setGz n { g with tdrWait := true }).lineLost n false
      else s.lineResult n c 4
    else if st == 4 || st == 5 then
      if !s.leakMay n then s.lineResult n c 4
      else if g.leakRun then s.lineResult n c 3
      else (s.lineResult n c 1).leakStart n
    else s.lineResult n c 4
  | c :: _ => s.lineResult n c 4

end State

/-- The place of a condition in LINE_FAULT (R256). -/
def lineCondBit : LineCond → Nat
  | .shortP1P2 => 0 | .shortP1Pe => 1 | .shortP2Pe => 2 | .shortP1Intra => 3 | .shortP2Intra => 4 | .openP1 => 5 | .openP2 => 6 | .foreignV => 7

/-- LINE_CHECKS_DONE (R243). -/
def execLineChecksDone (n : Fin 32) (faults : BitVec 8) (polInv swapped partner : Bool) (p1 p2 : List TdrEcho) (temp : BitVec 16) (s : State) : Out :=
  .next (s.checksDone n faults.toNat polInv swapped partner p1 p2 temp.toNat)

/-- TRAIN_DONE (R243). -/
def execTrainDone (n : Fin 32) (eye eyeFar : BitVec 6) (temp : BitVec 16) (len : BitVec 12) (s : State) : Out :=
  .next (s.trainDone n eye.toNat eyeFar.toNat temp.toNat len.toNat)

/-- LINE_FAULT_RECHECK (R243). -/
def execLineFaultRecheck (n : Fin 32) (faults : BitVec 8) (s : State) : Out := .next (s.faultRecheck n faults.toNat)

/-- LINE_CONDITION (R241). -/
def execLineCondition (n : Fin 32) (c : LineCond) (s : State) : Out := .next (s.lineDown n (lineCondBit c))

/-- LOSS_OF_SIGNAL (R243). -/
def execLossOfSignal (n : Fin 32) (s : State) : Out := .next (s.lineDown n 10)

/-- RETUNE_TRIGGER (R251). -/
def execRetuneTrigger (n : Fin 32) (eye : BitVec 6) (temp : BitVec 16) (s : State) : Out := .next (s.retuneTrigger n eye.toNat temp.toNat)

/-- RETUNE_START (R252). -/
def execRetuneStart (n : Fin 32) (idle : Bool) (temp : BitVec 16) (s : State) : Out := .next (s.retuneStart n idle temp.toNat)

/-- RETUNE_DONE (R243). -/
def execRetuneDone (n : Fin 32) (eye eyeFar : BitVec 6) (temp : BitVec 16) (s : State) : Out :=
  .next (s.retuneDone n eye.toNat eyeFar.toNat temp.toNat)

/-- REMEASURE (R257). -/
def execRemeasure (r : Requester) (n : Fin 32) (s : State) : Out := .next (s.accessLive r (Reg.GZP.LINE_CMD n) 1 (State.lineCmd n 1))

/-- RETUNE (R257). -/
def execRetune (r : Requester) (n : Fin 32) (s : State) : Out := .next (s.accessLive r (Reg.GZP.LINE_CMD n) 2 (State.lineCmd n 2))

/-- TDR (R246). -/
def execTdr (r : Requester) (n : Fin 32) (s : State) : Out := .next (s.accessLive r (Reg.GZP.LINE_CMD n) 4 (State.lineCmd n 4))

/-- TDR_DONE (R245): in MEASURE, or with the next check of a faulted line. -/
def execTdrDone (n : Fin 32) (p1 p2 : List TdrEcho) (s : State) : Out :=
  .next (if s.lineSt n == 1 || (s.lineSt n == 2 && (s.gz n).tdrWait) then s.tdrSet n p1 p2 else s)

/-- LEAK (R247). -/
def execLeak (r : Requester) (n : Fin 32) (s : State) : Out := .next (s.accessLive r (Reg.GZP.LINE_CMD n) 8 (State.lineCmd n 8))

/-- LEAK_PERIOD (R247). -/
def execLeakPeriod (n : Fin 32) (seconds : Nat) (s : State) : Out :=
  .next (if s.lineSt n == 4 && s.leakMay n && !(s.gz n).leakRun && s.leakPeriod n ≤ seconds then s.leakStart n else s)

/-- LEAK_DONE (R249). -/
def execLeakDone (n : Fin 32) (l : LeakReadings) (s : State) : Out := .next (s.leakDone n l)

end Sys2Proof.Machine
end

