-- ==== Sys2Proof/Machine/GzProto.lean ====
section
/-!
DEFINITION. The Gyzor protocol of a port end: enumeration, ranging, management, pixels and strikes, rings (R258-R286).
-/
namespace Sys2Proof.Machine

namespace State

/-! Requests with reply slots (R274). -/

/-- RT in force at a port, 1/16 ns: the longest round trip that an end has measured, on a closed ring both traversals together (DEDUCED, log entry 118). -/
def gzRt (s : State) (n : Nat) : Nat :=
  let o := s.gzOwner n
  let trip := fun e => match (s.gz e).echo with | some x => x.2 | none => 0
  let both := match (s.gz o).pair with | some x => x.2.1 + x.2.2 | none => 0
  Nat.max both (if s.ringOn (n / 2) then Nat.max (trip o) (trip (o + 1)) else trip n)

/-- K of a request of `bytes` bytes: the least that R274 allows, 1/16 ns. -/
def reqK (s : State) (n bytes : Nat) : Nat :=
  let kbd := symbolRate (s.gzRate n)
  s.gzRt n + (lineSymbols bytes * 16000000 + kbd - 1) / kbd

/-- For how many ns from its departure a request of `bytes` bytes and its reply train of `count` slots go on (R274). -/
def reqTrain (s : State) (n bytes slot count : Nat) : Nat := (s.reqK n bytes + 15) / 16 + s.symbolNs n (slot * count)

/-- Addresses that one request covers (R274): all of a chain; on a ring as many as the CTRL window holds. -/
def groupSize (s : State) (n bytes slot : Nat) : Nat :=
  if s.ringOn (n / 2) then
    let kbd := symbolRate (s.gzRate n)
    clampN 1 4096 ((s.gateCtrl n - 1 - (s.reqK n bytes + 15) / 16) * kbd / (slot * 1000000))
  else 4096

/-- A request of a SUBTYPE for `count` addresses from `addr` on, with SLOT in symbol times and a frame of `bytes` bytes (R270, R273, R274). On a ring its whole reply train lies in the CTRL
window. -/
def gzRequest (n type : Nat) (head : List Byte) (addr count slot bytes : Nat) (s : State) : State :=
  s.gzCtl n { type := type
              bcast := false
              addr := addr
              payload := head ++ leBytes 2 count ++ leBytes 2 slot ++ leBytes 4 (s.reqK n bytes)
              train := if s.ringOn (n / 2) then s.reqTrain n bytes slot count else 0 }

/-- A QUERY for `count` addresses: its DESC replies are 44 bytes (R270, R274). -/
def queryReq (n addr count : Nat) (s : State) : State := s.gzRequest n 5 [2, 0] addr count 462 22

/-- A POLL for `count` addresses: its STATUS replies are 36 bytes (R273, R274). -/
def pollReq (n addr count : Nat) (s : State) : State := s.gzRequest n 4 [5, 0, 0, 0] addr count 382 24

/-- First addresses and sizes of the groups that cover `count` addresses. -/
def reqGroups (count size : Nat) : List (Nat × Nat) :=
  (List.range ((count + size - 1) / size)).map (fun i => (i * size, Nat.min size (count - i * size)))

/-! CONFIG and settings (R273, R276, R280). -/

/-- PRIMARY of a node of a ring: 1 for end B (R280; DEDUCED, log entry 36: the nearer end is taken by the count of nodes). -/
def primaryB (s : State) (n addr : Nat) : Bool :=
  let mode := fld (s.rd (Reg.GZR.RING_CTL (n / 2))) 1 2
  s.ringOn (n / 2) && (mode == 2 || (mode != 1 && s.gzCount n ≤ 2 * addr))

/-- DETECT of a port end, ms. -/
def gzDetect (s : State) (n : Nat) : Nat := clampN 20 1000 (fld (s.rd (Reg.GZP.SYNC_CFG n)) 16 16)

/-- CONFIG goes to a node. -/
def sendConfig (n addr : Nat) (s : State) : State :=
  let ll := s.rd (Reg.GZP.LL_CFG n)
  s.gzMgmt n false addr 2 (leBytes 4 ll.toNat ++ leBytes 1 (b2n (s.primaryB n addr)) ++ leBytes 1 ((s.gzDetect n + 9) / 10) ++
    ((List.range 8).map (fun p => leBytes 2 (fld (s.rd (Reg.GZP.LL_LEVEL n p)) 0 16))).flatten)

/-- SYNC_CFG.PERIOD, ms (R267, R285). -/
def syncPeriod (s : State) (n : Nat) : Nat := clampN 10 1000 (fld (s.rd (Reg.GZP.SYNC_CFG n)) 0 16)

/-- CONFIG goes to every node. -/
def configAll (n : Nat) (s : State) : State := (List.range (s.gzCount n)).foldl (fun a addr => a.sendConfig n addr) s

/-! SYNC and ranging (R267, R268). -/

/-- A SYNC is due; it leaves each end that carries the port's frames in the next CTRL window (R267, R278). -/
def syncSend (n : Nat) (s : State) : State := s.gzCtl n { type := 3, bcast := true, addr := 0, payload := [], train := 0 }

/-- D_FAR of a chain from the round trip of a SYNC, in ns rounded up (R267, R279): less LOOP of the last node. -/
def chainFar (s : State) (n rt : Nat) : Nat :=
  let loop := match (s.gzNode (s.gzOwner n) (s.gzCount n - 1)).desc with | some d => leAt d 20 2 | none => 0
  -- LOOP in 1/64 symbol time is loop * 10^6 / (64 * kBd) ns
  let kbd := symbolRate (s.gzRate n)
  (rt * 4 * kbd - loop * 1000000 + 128 * kbd - 1) / (128 * kbd)

/-- D_FAR takes a value, at both ends of a ring. -/
def setFar (n d : Nat) (s : State) : State :=
  let s := s.wr (Reg.GZP.D_FAR n) (W d)
  if s.ringOn (n / 2) then (s.wr (Reg.GZP.D_FAR (n / 2 * 2)) (W d)).wr (Reg.GZP.D_FAR (n / 2 * 2 + 1)) (W d) else s

/-! Enumeration (R270-R272, R384). -/

/-- The registry record that a Gyzor descriptor matches (R382, R384). -/
def identOf (s : State) (d : List Byte) : Option Nat :=
  (s.registry.find? (fun e => e.1 % 64 == 0 && bit e.2 0 && fld e.2 1 3 == 0 && s.regw (e.1 / 64) 2 == W (leAt d 0 4) &&
    s.regw (e.1 / 64) 3 == W (leAt d 4 4))).map (fun e => e.1 / 64)

/-- A word of a registry record takes a value. -/
def setReg (f w : Nat) (v : Word) (s : State) : State := { s with registry := Sparse.set (fun _ => 0) s.registry (64 * f + w) v }

/-- A node is heard (R382, R391). -/
def nodeHeard (f : Nat) (s : State) : State :=
  ((s.setReg f 17 (W s.utcNow)).setReg f 16 (setBit (s.regw f 16) 0 true)).faultIs f 1 false 0

/-- A node is no longer there (R391). -/
def nodeGone (f : Nat) (s : State) : State := (s.setReg f 16 (setBit (s.regw f 16) 0 false)).faultIs f 1 true 0

/-- FP binds the nodes of a port to their records (R384, R391). -/
def bindNodes (n : Nat) (s : State) : State :=
  let nodes := (List.range (s.gzCount n)).filterMap (fun a => (s.gzNode n a).desc.map (fun d => (a, d)))
  let here := nodes.filterMap (fun x => (s.identOf x.2).map (fun f => (f, x.1)))
  let lost := (s.registry.filter (fun e => e.1 % 64 == 0 && bit e.2 0 && fld e.2 1 3 == 0 && bit (s.regw (e.1 / 64) 16) 0 &&
      fld (s.regw (e.1 / 64) 21) 0 9 == 16 * n && !here.any (fun x => x.1 == e.1 / 64))).map (fun e => e.1 / 64)
  let s := here.foldl (fun a x => (a.setReg x.1 21 (W (16 * n + 0x10000 * x.2))).nodeHeard x.1) s
  let s := lost.foldl (fun a f => a.nodeGone f) s
  nodes.foldl (fun a x => if (a.identOf x.2).isNone then a.fault 0x800000 5 true (W (leAt x.2 0 4)) else a) s

/-- The port reports READY again: the recovery window of its path ends (R31). -/
def closeWindow (pg : Nat) (s : State) : State := { s with windows := s.windows.filter (fun p => p != pg) }

/-- Every address has been answered or given up (R272): CONFIG, settings, and the enumeration is done. -/
def enumFinish (n : Nat) (s : State) : State :=
  let count := s.gzCount n
  let descs := (List.range count).map (fun a => (s.gzNode n a).desc)
  let serial := fun (d : Option (List Byte)) => d.map (fun l => leAt l 4 4)
  let g := s.gz n
  let moved := match g.prev with
    | some old => (List.range count).filter (fun a => a < old.length && serial (old.getD a none) != serial (descs.getD a none))
    | none => []
  let changed := match g.prev with | some old => old.length != count || !moved.isEmpty | none => false
  let s := s.updGz n (fun g => { g with changed := (g.changed ++ moved).eraseDups })
  let s := (s.enumState n 4).configAll n
  let p := s.planOld.getD s.plan
  let s := (List.range count).foldl (fun a x =>
    let runs := a.gzRuns p n x
    if runs.isEmpty then a else a.gzMgmt n false x 3 ((settingsPayload p.epoch runs).drop 4)) s
  let s := match s.planOld with
    | some old => s.sendSettings old s.plan n
    | none => s.updGz n (fun g => { g with epochSent := p.epoch })
  let s := s.updGz n (fun g => { g with prev := some descs })
  let s := if changed then s.wrBit (Reg.GZP.NODES n) 14 true else s
  let s := ((s.enumState n 5).closeWindow (32 + n)).raise (32 + n) 4
  let s := s.setLead (Reg.GZP.LINK_LEAD n) (s.gzLead s.plan n)
  let s := if s.ringOn (n / 2) then
      ((s.wr (Reg.GZP.LINK_LEAD (n + 1)) (s.rd (Reg.GZP.LINK_LEAD n))).closeWindow (33 + n)).ringMove (n / 2) 2
    else s
  s.bindNodes n

/-- The enumeration is complete once each address has a descriptor or three requests without an answer. -/
def enumCheck (n : Nat) (s : State) : State :=
  if (List.range (s.gzCount n)).all (fun a => (s.gzNode n a).desc.isSome || 3 ≤ (s.gzNode n a).tries) then s.enumFinish n else s

/-- ASSIGN returns (R270, R272): the count, and the first of three SYNCs. -/
def assignReturn (n next : Nat) (s : State) : State :=
  let o := s.gzOwner n
  if !s.lineUp n || fld (s.rd (Reg.GZP.NODES o)) 16 3 != 1 then s
  else
    let v := s.rd (Reg.GZP.NODES o)
    let s := { s with gzNodes := keepOthers 4096 o s.gzNodes }.wr (Reg.GZP.NODES o)
      (setBit (setFld (setFld v 0 13 (Nat.min 4096 next)) 16 3 2) 13 (4096 < next))
    (s.updGz o (fun g => { g with ranged := 1 })).syncSend o

/-- The third SYNC of ranging is back: QUERY for every address (R272). -/
def rangeDone (o : Nat) (s : State) : State :=
  if fld (s.rd (Reg.GZP.NODES o)) 16 3 != 2 || (s.gz o).ranged < 3 then s
  else
    let s := s.enumState o 3
    ((reqGroups (s.gzCount o) (s.groupSize o 22 462)).foldl (fun a x => a.queryReq o x.1 x.2) s).enumCheck o

/-- A traversal that an end of a closed ring has measured joins that of the other end for the same SYNC (R267); T_AB and T_BA show the last ones. -/
def crossSync (n seq rt : Nat) (s : State) : State :=
  let k := n / 2
  let g := s.gz (2 * k)
  let old := (g.cross.find? (fun e => e.1 == seq)).getD (seq, none, none)
  let new : Nat × Option Nat × Option Nat := if n % 2 == 1 then (seq, some rt, old.2.2) else (seq, old.2.1, some rt)
  let others := (g.cross.filter (fun e => e.1 != seq)).take 3
  let s := if n % 2 == 1 then s.wr (Reg.GZR.T_AB k) (W rt) else s.wr (Reg.GZR.T_BA k) (W rt)
  let s := match new.2.1, new.2.2 with
    | some a, some b => s.updGz (2 * k) (fun g => { g with cross := others, pair := some (seq, a, b) })
    | _, _ => s.updGz (2 * k) (fun g => { g with cross := new :: others })
  s.setFar n ((Nat.max (s.rd (Reg.GZR.T_AB k)).toNat (s.rd (Reg.GZR.T_BA k)).toNat + 15) / 16)

/-- An end receives a SYNC (R267, R282). -/
def syncReturn (n : Nat) (own : Bool) (seq rt : Nat) (s : State) : State :=
  let k := n / 2
  let st := s.ringSt k
  if !s.lineUp n then s
  else if own then
    let s := s.updGz n (fun g => { g with echo := some (seq, rt) })
    if s.ringOn k && st == 2 then
      ((s.updGz (2 * k) (fun g => { g with farSync := false })).updGz (2 * k + 1) (fun g => { g with farSync := false })).ringMove k 3
    else if s.ringOn k && st == 3 then s
    else (s.setFar n (s.chainFar n rt)).rangeDone (s.gzOwner n)
  else if !s.ringOn k then s
  else if st == 3 then
    let s := s.updGz n (fun g => { g with farSync := true })
    if (s.gz (2 * k)).farSync && (s.gz (2 * k + 1)).farSync then s.ringMove k 2 else s
  else if st == 2 then s.crossSync n seq rt
  else s

/-- A port end receives a frame in a reply slot (R254, R258, R259): its code errors count, and so does a frame that is not good; `take` is what a good one does. -/
def replyRx (n : Nat) (codes : List Code) (take : List Byte → State → State) (s : State) : State :=
  if !s.lineUp n then s
  else
    let r := gzRx codes
    let s := s.wr (Reg.GZP.CODE_ERR n) (satAdd (s.rd (Reg.GZP.CODE_ERR n)) r.errs)
    match r.frame with
    | some f => take f s
    | none => s.bump (Reg.GZP.RX_BAD n)

/-- TYPE, SUBTYPE and LEN of a good frame. -/
def frameIs (f : List Byte) (type sub len : Nat) : Bool := byteAt f 0 % 16 == type && byteAt f 8 == sub && leAt f 6 2 == len

/-- A good DESC reply (R270, R272). -/
def descTake (n addr : Nat) (f : List Byte) (s : State) : State :=
  let o := s.gzOwner n
  if !frameIs f 5 3 32 || fld (s.rd (Reg.GZP.NODES o)) 16 3 != 3 || s.gzCount o ≤ addr || (s.gzNode o addr).desc.isSome then s
  else (s.setNode o addr { s.gzNode o addr with desc := some ((f.drop 12).take 28) }).enumCheck o

/-- A reply slot passes without a good reply (R272): the request is sent again up to twice, then counted. -/
def replyMiss (n addr : Nat) (s : State) : State :=
  let o := s.gzOwner n
  let st := fld (s.rd (Reg.GZP.NODES o)) 16 3
  let x := s.gzNode o addr
  if (st != 3 && st != 5) || s.gzCount o ≤ addr || 3 ≤ x.tries || (st == 3 && x.desc.isSome) then s
  else
    let s := s.setNode o addr { x with tries := x.tries + 1 }
    if x.tries < 2 then (if st == 3 then s.queryReq o addr 1 else s.pollReq o addr 1)
    else
      let s := (s.bump (Reg.GZP.REPLY_MISS o)).raise (32 + o) 7
      if st == 3 then s.enumCheck o else s

/-- A write to PROTO_CMD (R285). -/
def protoCmd (n : Nat) (v : Word) (s : State) : State :=
  let o := s.gzOwner n
  let s := if bit v 0 then
      let s := s.wrBit (Reg.GZP.NODES o) 14 false
      if (s.gzEnds o).isEmpty then s else s.startEnum o
    else s
  if bit v 1 && !(s.gzEnds o).isEmpty then s.configAll o else s

/-! Polling (R277). -/

/-- POLL_CFG.PERIOD, ms (R277, R285). -/
def pollPeriod (s : State) (n : Nat) : Nat := clampN 100 60000 (fld (s.rd (Reg.GZP.POLL_CFG n)) 0 16)

/-- The poll period expires: the sums of the last full poll, and the next one. -/
def pollCycle (n ms : Nat) (s : State) : State :=
  if s.gzOwner n != n || ms < s.pollPeriod n || (s.gzEnds n).isEmpty || fld (s.rd (Reg.GZP.NODES n)) 16 3 != 5 then s
  else
    let nodes := (List.range (s.gzCount n)).map (s.gzNode n)
    let s := s.wr (Reg.GZP.MISS_SUM n) (W (nodes.foldl (fun a x => a + x.miss) 0))
    let s := if s.ringOn (n / 2) then s.wr (Reg.GZR.CASTLES (n / 2)) (W (nodes.foldl (fun a x => a + x.castles) 0)) else s
    let s := (List.range (s.gzCount n)).foldl (fun a x => a.setNode n x { a.gzNode n x with tries := 0 }) s
    (reqGroups (s.gzCount n) (s.groupSize n 24 382)).foldl (fun a x => a.pollReq n x.1 x.2) s

/-- The registry record bound to a node. -/
def nodeRecord (s : State) (n addr : Nat) : Option Nat :=
  (s.registry.find? (fun e => e.1 % 64 == 0 && (s.boundNode (e.1 / 64)).contains (n, addr))).map (fun e => e.1 / 64)

/-- The fixtures whose map entries name a node. -/
def nodeFixtures (s : State) (n addr : Nat) : List Nat :=
  let p := s.plan
  ((p.valid.filter (fun e => fld (p.mw e 4) 0 16 == addr && (match p.ePage e with | some pg => (s.gzPages n).contains pg | none => false))).map
    p.eFleet).eraseDups

/-- The break of a healed ring from the nodes in loopback (R282, R286). -/
def ringBreak (n : Nat) (s : State) : State :=
  let k := n / 2
  let l := (List.range (s.gzCount n)).filter (fun a => (s.gzNode n a).flags.testBit 1)
  if s.ringOn k && fld (s.rd (Reg.GZR.RING_STATUS k)) 0 3 == 3 && 2 ≤ l.length && !bit (s.rd (Reg.GZR.RING_STATUS k)) 3 then
    (s.wr (Reg.GZR.RING_STATUS k) (W (3 + 8 + 16 * l.headD 0 + 0x10000 * l.getLastD 0))).raise (64 + k) 1
  else s

/-- The fields of a STATUS (R273). -/
def statusOf (f : List Byte) : NodeStatus :=
  { tSink := BitVec.ofNat 16 (leAt f 12 2)
    flags := BitVec.ofNat 8 (byteAt f 14)
    epoch := W (leAt f 16 4)
    miss := BitVec.ofNat 16 (leAt f 20 2)
    castles := BitVec.ofNat 16 (leAt f 22 2) }

/-- A good STATUS reply of a node (R277). -/
def nodeStatus (o addr : Nat) (st : NodeStatus) (s : State) : State :=
  let x := s.gzNode o addr
  let held := st.epoch == (s.gz o).epochSent
  let pend := fld (s.rd (Reg.GZP.SETTINGS_PEND o)) 0 13
  let s := if held && !x.confirmed then s.wrFld (Reg.GZP.SETTINGS_PEND o) 0 13 (pend - 1) else s
  let s := s.setNode o addr { x with
    tries := 0
    tSink := W st.tSink.toNat
    flags := st.flags.toNat
    miss := st.miss.toNat
    castles := st.castles.toNat
    confirmed := x.confirmed || held }
  let fx := s.nodeFixtures o addr
  let s := if st.tSink == 0x8000 then s else fx.foldl (fun a f => a.heatReport f st.tSink.toInt) s
  let s := if st.flags.getLsbD 0 then fx.foldl (fun a f => a.otReport f) s else s
  let s := if st.flags.toNat % 8 != 0 then s.raise (32 + o) 5 else s
  let s := match s.nodeRecord o addr with
    | some f =>
      let s := s.nodeHeard f
      let s := s.setReg f 20 (setFld (s.regw f 20) 16 16 st.tSink.toNat)
      if st.flags.getLsbD 4 then s.fault f 9 true 0 else s
    | none => s
  s.ringBreak o

/-- A good frame in a reply slot of a poll (R273, R277). -/
def statusTake (n addr : Nat) (f : List Byte) (s : State) : State :=
  let o := s.gzOwner n
  if !frameIs f 4 6 24 || fld (s.rd (Reg.GZP.NODES o)) 16 3 != 5 || s.gzCount o ≤ addr then s else s.nodeStatus o addr (statusOf f)

/-! Pixels and strikes (R127, R252, R262-R266, R278). -/

/-- The strikes and the tiles that wait at a port's pages. -/
def gzStrikes (s : State) (n : Nat) : List StrikeOut := ((s.gzPages n).map (fun pg => Sparse.get (fun _ => []) s.portQ pg)).flatten
def gzTiles (s : State) (n : Nat) : List TileOut := ((s.gzPages n).map s.portTiles).flatten

/-- What is left of a zone's frame leaves the queues of a port, its strike too where `strike` says so; the credits return. -/
def gzClear (n z k : Nat) (strike : Bool) (s : State) : State :=
  ((s.gzPages n).foldl (fun a pg =>
    let a := a.dropTiles pg (fun t => t.zone == z && t.k == k)
    if strike then { a with portQ := Sparse.upd (fun _ => []) a.portQ pg (fun l => l.filter (fun i => !(i.zone == z && i.k == k))) } else a) s).creditBack

/-- A page of a port shows the held look (R38, R45). -/
def gzHeld (s : State) (n : Nat) : Bool := (s.gzPages n).any (fun pg => (s.blk pg).hold || s.code pg == 6)

/-- Frames that fall due on an open chain are discarded: 1 in a retune (R252), 2 in a LNK pause (R447); 0 otherwise. -/
def gzDiscards (s : State) (n : Nat) : Nat :=
  if s.ringOn (n / 2) then 0 else if s.lineSt n == 5 || s.code (32 + n) == 5 then 1 else if s.lnkPaused n then 2 else 0

/-- A discarded frame is counted. -/
def countDiscard (n why : Nat) (s : State) : State := s.bump (if why == 1 then Reg.GZP.RETUNE_MISS n else Reg.UPD.PAUSE_MISS)

/-- The frame whose PIX a port end sends next, and its released slots (R262, R266): the one with the earliest strike (DESIGN CHOICE, log entry 37). -/
def nextPix (s : State) (n : Nat) : Option (Nat × Nat × Word × List SlotPips) :=
  let tbOf := fun (t : TileOut) => (s.planOf t.epoch).zTb t.zone
  let l := (s.gzTiles n).filter (fun t => s.pixMay n t.zone t.k (tbOf t))
  let due := fun (t : TileOut) => (t.ps - (s.tb (tbOf t)).count).toInt
  (l.foldl (fun (m : Option TileOut) t => match m with | some x => if due t < due x then some t else m | none => some t) none).map (fun t =>
    (t.zone, t.k, t.ps, ((l.filter (fun x => x.zone == t.zone && x.k == t.k)).map (fun x => x.tile.slots)).flatten))

/-- The first PIX run of slots, and the slots after it (R262): slots that no PIX may carry are passed over, and `fits` bounds the run. -/
def firstRun (z : Nat) (takes : SlotPips → Bool) (fits : SlotRun → Bool) : Option SlotRun → List SlotPips → Option SlotRun × List SlotPips
  | r, [] => (r, [])
  | none, x :: t =>
    if takes x then firstRun z takes fits (some { zone := z, dest := x.dest, first := x.slot, pipW := x.pipW, pips := x.pips.length, slots := [x.pips] }) t
    else firstRun z takes fits none t
  | some r, x :: t =>
    let more := { r with slots := r.slots ++ [x.pips] }
    if !takes x then firstRun z takes fits (some r) t
    else if r.takes x && fits more then firstRun z takes fits (some more) t
    else (some r, x :: t)

/-- The first `m` slots of frame `k` leave the tiles of a queue; those left to leave, and the tiles. -/
def cutSlots (k : Nat) : Nat → List TileOut → Nat × List TileOut
  | m, [] => (m, [])
  | m, t :: r =>
    if t.k != k then let x := cutSlots k m r; (x.1, t :: x.2)
    else if t.tile.slots.length ≤ m then cutSlots k (m - t.tile.slots.length) r
    else (0, { t with tile := { t.tile with slots := t.tile.slots.drop m } } :: r)

/-- The first `m` slots of a zone's frame leave the queues of a port. -/
def gzCut (n z k m : Nat) (s : State) : State :=
  ((s.gzPages n).foldl (fun (a : Nat × State) pg =>
    let x := cutSlots k a.1 (a.2.tiles pg z)
    (x.1, a.2.lessTiles (Sparse.set (fun _ => []) a.2.tileQ (pairQueue pg z) x.2))) (m, s)).2.creditBack

/-- Time of a PIX frame of a run on the line, ns. -/
def pixNs (s : State) (n : Nat) (r : SlotRun) : Nat := s.symbolNs n (lineSymbols (20 + r.size))

/-- The strike that a port end sends, or idles, next: one whose tiles have all left, or one that is late (R127, R278). With it LEAD. -/
def nextStrike (s : State) (n : Nat) : Option (StrikeOut × Word) :=
  let q := s.gzTiles n
  (s.gzStrikes n).findSome? (fun i =>
    let lead := i.ps - (s.tb i.tb).count
    if !q.any (fun t => t.zone == i.zone && t.k == i.k) || 2 ^ 31 ≤ lead.toNat then some (i, lead) else none)

/-- A node takes PIX (R271, R272): enumerated, compatible, and of the same SERIAL as at the last commit. -/
def pixTakes (s : State) (n addr : Nat) : Bool := (s.gzCompat n addr).isSome && addr < s.gzCount n && !(s.gz n).changed.contains addr

/-- A port end sends the next PIX frame (R189, R262, R278; DESIGN CHOICE, log entry 37): a STRIKE that is ready goes before it, and it ends before the DATA window closes. A run that no
DATA window could hold is cut. -/
def pixSend (n : Nat) (s : State) : State :=
  if s.gzOwner n != n then s
  else
    match s.nextPix n with
    | none => s
    | some (z, k, ps, slots) =>
      let r := firstRun z (fun x => s.pixTakes n x.dest) (fun r => s.pixNs n r < s.gateCycle n - s.gateCtrl n) none slots
      let cut := fun (a : State) => a.gzCut n z k (slots.length - r.2.length)
      if s.mode == .hold || s.gzHeld n then s.gzClear n z k false
      else
        match r.1 with
        | none => cut s
        | some run =>
          if s.gzDiscards n != 0 then cut (s.countDiscard n (s.gzDiscards n))
          else if (s.gzEnds n).isEmpty || (s.nextStrike n).isSome || (!s.ringOn (n / 2) && (s.gz n).retuneReady) || s.dataLeft n ≤ s.pixNs n run then s
          else
            let s := s.gzSend n 1 false run.dest (pixPayload run k)
            cut (s.updGz n (fun g => { g with begun := (g.begun.filter (fun b => !(b.1 == z && (b.2.1 + 4 ≤ k || b.2.1 == k)))) ++ [(z, k, ps)] }))

/-- A STRIKE leaves the port end, or IDLE fill takes its place (R127, R252, R263, R278). A retune that waits starts just after it (R252). -/
def strikeDepart (n : Nat) (s : State) : State :=
  if s.gzOwner n != n then s
  else
    match s.nextStrike n with
    | none => s
    | some (i, lead) =>
      let clear := fun (a : State) => a.gzClear n i.zone i.k true
      if s.mode == .hold then clear s
      else if s.gzDiscards n != 0 then clear (s.countDiscard n (s.gzDiscards n))
      else if 2 ^ 31 ≤ lead.toNat then clear ((s.bump (Reg.GZP.STRIKE_IDLED n)).raise (32 + n) 6)
      else if (s.gzEnds n).isEmpty || (!s.ringOn (n / 2) && (s.gz n).retuneReady) || s.dataLeft n ≤ s.symbolNs n (lineSymbols 24) then s
      else
        let f := i.flags ||| b2n (s.gzHeld n) ||| 2 * b2n (s.blk (32 + n)).stale
        let ends := s.gzEnds n
        let s := s.gzSend n 2 true 0 (strikePayload i.zone f i.k i.epoch lead)
        clear (ends.foldl (fun a x => a.updGz x (fun g => { g with retuneReady := g.retuneWant })) s)

/-! Rings (R280, R282, R285, R286). -/

/-- The configuration registers that GZR sets on end B (R285). -/
def ringConfig : List Nat := [0x100, 0x104, 0x108, 0x10C] ++ (List.range 8).map (fun p => 0x110 + 4 * p)

/-- A write to RING_CTL (R286): dropped and counted while either end is enabled. -/
def ringCtl (k : Nat) (v : Word) (s : State) : State :=
  if (s.blk (32 + 2 * k)).enable || (s.blk (33 + 2 * k)).enable then s.err (64 + k)
  else
    let s := s.wr (Reg.GZR.RING_CTL k) (v &&& 7)
    let s := if bit v 0 then
        ringConfig.foldl (fun a o => a.wr (0x21000 + 0x2000 * k + o) (a.rd (0x20000 + 0x2000 * k + o))) s
      else s
    s.ringFollow k

end State

/-- PIX_SEND (R262). -/
def execPixSend (n : Fin 32) (s : State) : Out := .next (s.pixSend n)

/-- STRIKE_DEPART (R127). -/
def execStrikeDepart (n : Fin 32) (s : State) : Out := .next (s.strikeDepart n)

/-- END_SKEW of a ring after a SYNC, ps; beyond 1 ns it raises GZR event bit 2 (R286). -/
def State.showSkew (k : Nat) (skew : Word) (s : State) : State :=
  let s := s.wr (Reg.GZR.END_SKEW k) skew
  if 1000 < skew.toInt.natAbs then s.raise (64 + k) 2 else s

/-- SYNC_SEND (R267): in ranging, after SYNC_CFG.PERIOD, or after DETECT / 4 without another frame. -/
def execSyncSend (n : Fin 32) (sinceSync sinceFrame : Nat) (skew : Word) (s : State) : Out :=
  .next (
    let ranging := fld (s.rd (Reg.GZP.NODES n)) 16 3 == 2
    if s.gzOwner n != n || (s.gzEnds n).isEmpty || !(ranging || s.syncPeriod n ≤ sinceSync || s.gzDetect n ≤ 4 * sinceFrame) then s
    else
      let s := if ranging then s.updGz n (fun g => { g with ranged := Nat.min 3 (g.ranged + 1) }) else s
      let s := if s.ringOn (n / 2) && (s.gzEnds n).length == 2 then s.showSkew (n / 2) skew else s
      s.syncSend n)

/-- SYNC_RETURN (R267). -/
def execSyncReturn (n : Fin 32) (own : Bool) (seq : BitVec 16) (rt : Word) (s : State) : Out := .next (s.syncReturn n own seq.toNat rt.toNat)

/-- ASSIGN_RETURN (R270). -/
def execAssignReturn (n : Fin 32) (next : BitVec 16) (s : State) : Out := .next (s.assignReturn n next.toNat)

/-- DESC_RX (R272). -/
def execDescRx (n : Fin 32) (addr : Fin 4096) (codes : List (BitVec 10)) (s : State) : Out := .next (s.replyRx n codes (State.descTake n addr))

/-- REPLY_SLOT_MISS (R272). -/
def execReplySlotMiss (n : Fin 32) (addr : Fin 4096) (s : State) : Out := .next (s.replyMiss n addr)

/-- REENUM (R285). -/
def execReenum (r : Requester) (n : Fin 32) (s : State) : Out := .next (s.access r (Reg.GZP.PROTO_CMD n) 1 (State.protoCmd n 1))

/-- RESEND_CONFIG (R285). -/
def execResendConfig (r : Requester) (n : Fin 32) (s : State) : Out := .next (s.access r (Reg.GZP.PROTO_CMD n) 2 (State.protoCmd n 2))

/-- POLL_CYCLE (R277). -/
def execPollCycle (n : Fin 32) (ms : Nat) (s : State) : Out := .next (s.pollCycle n ms)

/-- NODE_STATUS_RX (R277). -/
def execNodeStatusRx (n : Fin 32) (addr : Fin 4096) (codes : List (BitVec 10)) (s : State) : Out := .next (s.replyRx n codes (State.statusTake n addr))

/-- RING_ENABLE (R282): a write to RING_CTL with RING_EN at 1. -/
def execRingEnable (r : Requester) (k : Fin 16) (v : Word) (s : State) : Out :=
  .next (s.access r (Reg.GZR.RING_CTL k) (setBit v 0 true) (State.ringCtl k (setBit v 0 true)))

/-- RING_DISABLE (R282): a write to RING_CTL with RING_EN at 0. -/
def execRingDisable (r : Requester) (k : Fin 16) (v : Word) (s : State) : Out :=
  .next (s.access r (Reg.GZR.RING_CTL k) (setBit v 0 false) (State.ringCtl k (setBit v 0 false)))

/-- GATE_CYCLE (R278): what waits for the window that opens departs. -/
def execGateCycle (n : Fin 32) (s : State) : Out := .next (s.gzGate n)

end Sys2Proof.Machine
end

