-- ==== Sys2Proof/Machine/Local.lean ====
section
/-!
DEFINITION. Domino chains, DMX and RDM, site inputs and actuators (R287-R309), and the safe look on every port (R265, R294, R298, R430, R431).
-/
namespace Sys2Proof.Machine

namespace State

/-- A domino port. -/
def domP (s : State) (n : Nat) : DomPort := Sparse.get (fun _ => DomPort.init) s.doms n

/-- A domino port takes a value. -/
def setDomP (n : Nat) (d : DomPort) (s : State) : State := { s with doms := Sparse.set (fun _ => DomPort.init) s.doms n d }

/-- A DMX port. -/
def dmxP (s : State) (n : Nat) : DmxPort := Sparse.get (fun _ => DmxPort.init) s.dmxs n

/-- A DMX port takes a value. -/
def setDmxP (n : Nat) (d : DmxPort) (s : State) : State := { s with dmxs := Sparse.set (fun _ => DmxPort.init) s.dmxs n d }

/-- LINE_STATUS.STATE of a domino and of a DMX port. -/
def domSt (s : State) (n : Nat) : Nat := fld (s.rd (Reg.DOM.LINE_STATUS n)) 0 2
def dmxSt (s : State) (n : Nat) : Nat := fld (s.rd (Reg.DMX.LINE_STATUS n)) 0 2

/-- A zone's frame leaves the queues of a local port, with its strike; the credits return. -/
def localDrop (pg : Nat) (zk : Nat × Nat) (s : State) : State :=
  let s := s.dropTiles pg (fun t => (t.zone, t.k) == zk)
  { s with portQ := Sparse.upd (fun _ => []) s.portQ pg (fun l => l.filter (fun i => (i.zone, i.k) != zk)) }.creditBack

/-- The oldest strike of a local port. -/
def localStrike (s : State) (pg : Nat) : Option StrikeOut := (Sparse.get (fun _ => []) s.portQ pg).head?

/-- The slots of a zone's frame that a local port holds. -/
def localSlots (s : State) (pg : Nat) (zk : Nat × Nat) : List SlotPips :=
  (((s.portTiles pg).filter (fun t => (t.zone, t.k) == zk)).map (fun t => t.tile.slots)).flatten

/-- A port shows the held look by CTL.HOLD or an unlocked PLL (R38, R45). -/
def portHeld (s : State) (pg : Nat) : Bool := (s.blk pg).hold || s.code pg == 6

/-- The frame shows the held look on a port: by the zone's flag, or the port's own. Blackout lies above it (R39). -/
def localHeld (s : State) (pg flags : Nat) : Bool := !flags.testBit 2 && (flags.testBit 0 || s.portHeld pg)

/-- The map entries of a port whose fixtures are in heat off (R39). -/
def hotEntries (s : State) (pg : Nat) : List Nat :=
  s.plan.valid.filter (fun e => s.plan.ePage e == some pg && s.heatOff.contains (s.plan.eFleet e))

/-- A port leaves the plan until the next commit (R58, R291). -/
def leavePlan (pg : Nat) (s : State) : State := { s with plan := { s.plan with ports := s.plan.ports.filter (fun p => p != pg) } }

/-! Domino (R287-R294, R307). -/

/-- A frame that has been shifted gets no LAT: LAT_MISSED and DOM event bit 3 (R26, R292). -/
def latMissed (n : Nat) (s : State) : State := (s.bump (Reg.DOM.LAT_MISSED n)).raise (80 + n) 3

/-- The line leaves UP: a frame that waits for its LAT cannot meet it (R26). -/
def domLoseShift (n : Nat) (s : State) : State := if (s.domP n).shift.isSome then s.latMissed n else s

/-- A fault of a domino line is latched, and the line enters FAULT. -/
def domFault (n b : Nat) (s : State) : State :=
  let s := (((s.domLoseShift n).wrBit (Reg.DOM.LINE_FAULT n) b true).bump (Reg.DOM.FAULT_CNT n)).raise (80 + n) 1
  (s.setDomP n { s.domP n with clean := 0, shift := none }).localMove (80 + n) 3

/-- The line counts its chain: zeros and the marker go through it, and no LAT (R289). -/
def domCount (n : Nat) (s : State) : State :=
  let s := s.domLoseShift n
  (s.setDomP n { s.domP n with clean := 0, shift := none, contErr := 0 }).localMove (80 + n) 1

/-- CMD.RECOUNT (R289, R307). -/
def domRecount (n : Nat) (s : State) : State := if s.domSt n == 1 then s.err (80 + n) else if s.domSt n == 0 then s else s.domCount n

/-- A count ends, or a fault of R290 is detected while the line is UP (R289-R292). -/
def domCountDone (n : Nat) (c : DomCount) (s : State) : State :=
  match c with
  | .length l =>
    if s.domSt n != 1 || l.val == 0 then s
    else
      let s := if fld (s.rd (Reg.DOM.CHAIN_LEN n)) 0 13 == l.val then s else s.leavePlan (80 + n)
      let s := (s.wr (Reg.DOM.CHAIN_LEN n) (W l.val)).setDomP n { s.domP n with chain := List.replicate l.val 0 }
      ((s.setLead (Reg.DOM.LINK_LEAD n) (s.domLead n)).localMove (80 + n) 2).closeWindow (80 + n)
  | .fault b =>
    if s.domSt n == 1 then s.domFault n b.val
    else if s.domSt n == 2 then (s.domFault n b.val).blockFault (80 + n)
    else s

/-- A faulted line is checked again (R290). -/
def domRecheck (n faults : Nat) (s : State) : State :=
  let d := s.domP n
  if s.domSt n != 3 then s
  else if faults != 0 then
    let new := (bitsOf faults 8).filter (fun b => !bit (s.rd (Reg.DOM.LINE_FAULT n)) b)
    (new.foldl (fun a b => ((a.wrBit (Reg.DOM.LINE_FAULT n) b true).bump (Reg.DOM.FAULT_CNT n)).raise (80 + n) 1) s).setDomP n { d with clean := 0 }
  else if 2 ≤ d.clean then s.domCount n
  else s.setDomP n { d with clean := d.clean + 1 }

/-- The stages of a chain that carry something: four pips each (R181, R287). -/
def domStages (l : List SlotPips) : List (Nat × List Nat) :=
  (l.map (fun x => (x.dest, ((x.pips ++ [0, 0, 0, 0]).take 4)))).filter (fun x => x.2 != [0, 0, 0, 0])

/-- The line counts again after a loss of the path, unless the block has gone to FAULT (R293). -/
def domRecountNow (n : Nat) (s : State) : State := if s.domSt n == 2 then s.domCount n else s

/-- A stage as 64 bits: pip 0 in the highest (R287). -/
def stageWord (l : List Nat) : BitVec 64 := BitVec.ofNat 64 (l.foldl (fun a p => a * 65536 + p % 65536) 0)

/-- The stages of a chain in the order of their shift, the farthest first (R287). -/
def chainWords (s : State) (n : Nat) (l : List (Nat × List Nat)) : List (BitVec 64) :=
  let count := fld (s.rd (Reg.DOM.CHAIN_LEN n)) 0 13
  (List.range count).map (fun i => match l.find? (fun e => e.1 == count - 1 - i) with | some e => stageWord e.2 | none => 0)

/-- A chain is shifted. -/
def domShiftOut (n : Nat) (l : List (Nat × List Nat)) (s : State) : State :=
  let w := s.chainWords n l
  (s.setDomP n { s.domP n with chain := w }).emit (.shift n w)

/-- What a strike shows on a chain: nothing in the held look, but for fixtures in heat off, which go dark (R38, R39, R294). -/
def domShown (s : State) (n : Nat) (i : StrikeOut) : Option (List (Nat × List Nat)) :=
  let pg := 80 + n
  if s.localHeld pg i.flags then
    let hot := (s.hotEntries pg).map (fun e => fld (s.plan.mw e 4) 0 16)
    let l := (s.domP n).latched.filter (fun x => !hot.contains x.1)
    if l == (s.domP n).latched then none else some l
  else some (if i.flags.testBit 2 then [] else domStages (s.localSlots pg (i.zone, i.k)))

/-- A shift for a strike may begin (R292-R294); `ret` are the stages that leave on RET. -/
def domShift (n : Nat) (ret : List (BitVec 64)) (s : State) : State :=
  let pg := 80 + n
  let d := s.domP n
  match s.localStrike pg with
  | none => s
  | some i =>
    let late := (i.ps - (s.tb i.tb).count).toInt < (s.domShiftNs n + 100 : Nat)
    if s.mode == .hold then s.localDrop pg (i.zone, i.k)
    else
      match s.domShown n i with
      | none => s.localDrop pg (i.zone, i.k)
      | some stages =>
        if late then (s.localDrop pg (i.zone, i.k)).latMissed n
        else if s.domSt n != 2 || d.shift.isSome || !s.up pg then s
        else
          let bad := bit (s.rd (Reg.DOM.CFG n)) 4 && ret != d.chain
          let errs := if bad then d.contErr + 1 else 0
          let s := if bad then (s.bump (Reg.DOM.CONT_ERR n)).raise pg 2 else s
          if 3 ≤ errs then (s.blockFault pg).domRecountNow n
          else
            let f : DomFrame := { zone := i.zone, k := i.k, epoch := i.epoch, stages := stages }
            ((s.setDomP n { d with shift := some f, contErr := errs }).domShiftOut n stages).localDrop pg (i.zone, i.k)

/-- Stages are latched. -/
def domLatch (n : Nat) (l : List (Nat × List Nat)) (s : State) : State :=
  ((s.setDomP n { s.domP n with shift := none, latched := l }).bumpWrap (Reg.DOM.LATCHES n)).emit (.dom n (s.latWidth n) l)

/-- PS of the shifted frame: LAT (R292); none in HOLD mode, nor where the port has come to show the held look (R38, R294). -/
def domLat (n : Nat) (s : State) : State :=
  match (s.domP n).shift with
  | none => s
  | some f => if s.mode == .hold || s.portHeld (80 + n) then s.setDomP n { s.domP n with shift := none } else s.domLatch n f.stages

/-! DMX (R295-R300, R308). -/

/-- A DMX port is an output. -/
def dmxOut (s : State) (n : Nat) : Bool := !bit (s.rd (Reg.DMX.CFG n)) 0

/-- Data slots of an output packet (R295). -/
def dmxSlots (s : State) (n : Nat) : Nat := clampN 24 512 (fld (s.rd (Reg.DMX.SLOTS n)) 0 10)

/-- The bytes of a pip (R181). -/
def dmxPip (w v : Nat) : List Byte :=
  if w == 0 then leBytes 1 v else if w == 1 then beBytes 2 (16 * v) else beBytes 2 v

/-- A packet's slots from its map entries; DEST counts from 1 (R296). -/
def dmxFill (count : Nat) (l : List SlotPips) : List Byte :=
  l.foldl (fun (a : List Byte) x =>
    let b := (x.pips.map (dmxPip x.pipW)).flatten
    ((List.range b.length).foldl (fun a i => setAt a (x.dest - 1 + i) (b.getD i 0)) a)) (List.replicate count 0)

/-- BREAK and MAB of a DMX port, us (R308). -/
def dmxBreak (s : State) (n : Nat) : Nat := clampN 92 1000 (fld (s.rd (Reg.DMX.BREAK_MAB n)) 0 16)
def dmxMab (s : State) (n : Nat) : Nat := clampN 12 1000 (fld (s.rd (Reg.DMX.BREAK_MAB n)) 16 16)

/-- A packet leaves the port. -/
def dmxSend (n : Nat) (l : List Byte) (s : State) : State :=
  (s.setDmxP n { s.dmxP n with slots := some l }).emit (.dmx n (s.dmxBreak n) (s.dmxMab n) l)

/-- What a strike shows on an output: no packet in the held look, but for fixtures in heat off, which go dark (R38, R39, R298). -/
def dmxShown (s : State) (n : Nat) (i : StrikeOut) : Option (List Byte) :=
  let pg := 96 + n
  if s.localHeld pg i.flags then
    match (s.dmxP n).slots with
    | none => none
    | some old =>
      let new := (s.hotEntries pg).foldl (fun (a : List Byte) e =>
        let per := (if fld (s.plan.mw e 0) 16 2 == 0 then 1 else 2) * (fld (s.plan.mw e 0) 18 3 + 1)
        (List.range per).foldl (fun a j => setAt a (fld (s.plan.mw e 4) 0 16 - 1 + j) 0) a) old
      if new == old then none else some new
  else some (dmxFill (s.dmxSlots n) (if i.flags.testBit 2 then [] else s.localSlots pg (i.zone, i.k)))

/-- The aligned packet of a strike (R296-R298). -/
def dmxAligned (n : Nat) (s : State) : State :=
  let pg := 96 + n
  match s.localStrike pg with
  | none => s
  | some i =>
    let drop := fun (a : State) => a.localDrop pg (i.zone, i.k)
    if !s.dmxOut n || s.mode == .hold then drop s
    else
      match s.dmxShown n i with
      | none => drop s
      | some slots =>
        if (i.ps - (s.tb i.tb).count).toInt < ((s.dmxPacket n + 1) * 1000 : Nat) then ((drop s).bump (Reg.DMX.LATE n)).raise pg 3
        else if s.dmxSt n != 1 || !s.up pg then s
        else drop ((s.dmxSend n slots).bumpWrap (Reg.DMX.TX_PKT n))

/-- The last packet is repeated where it ends before the next aligned break (R297). -/
def dmxRepeat (n : Nat) (next : Option Word) (s : State) : State :=
  let tb := match s.localStrike (96 + n) with | some i => i.tb | none => 0
  let fits := match next with
    | some b => ((s.dmxPacket n + fld (s.rd (Reg.DMX.MTBP n)) 0 16) * 1000 : Nat) ≤ (b - (s.tb tb).count).toInt
    | none => true
  match (s.dmxP n).slots with
  | some l => if s.dmxOut n && s.dmxSt n == 1 && s.up (96 + n) && bit (s.rd (Reg.DMX.CFG n)) 1 && fits then s.emit (.dmx n (s.dmxBreak n) (s.dmxMab n) l) else s
  | none => s

/-- A packet arrives at an input (R167, R299); one with too short a break or mark is none. -/
def dmxRx (n brk mab : Nat) (startCode : Byte) (slots : List Byte) (framing : Bool) (s : State) : State :=
  if s.dmxOut n || s.dmxSt n != 1 || !s.up (96 + n) || brk < 88 || mab < 8 then s
  else if framing || slots.isEmpty then s.bump (Reg.DMX.RX_BAD n)
  else if startCode != 0 then s.bump (Reg.DMX.ALT_SC n)
  else
    let s := (s.bumpWrap (Reg.DMX.RX_PKT n)).dmxLive n true
    if !s.up 24 then s
    else
      let prio := Nat.min 200 (fld (s.rd Reg.UNI.CFG) 8 8)
      (s.uniOf (n + 1) 0).foldl (fun a i => a.uniTake i (2 ^ 128 + n + 1) prio 0 0 (slots.take 512)) s

/-- A DMX line fault (R300): NO_TERM leaves the driver on. An input whose idle line reads inverted is corrected. -/
def dmxFault (n b : Nat) (s : State) : State :=
  if s.dmxSt n == 0 then s
  else if b == 4 then (if s.dmxOut n then s else s.wrBit (Reg.DMX.LINE_STATUS n) 4 true)
  else if b == 2 && !s.dmxOut n then s
  else
    let s := (s.wrBit (Reg.DMX.LINE_FAULT n) b true).raise (96 + n) 1
    if b == 2 || s.dmxSt n == 2 then s else (s.localMove (96 + n) 2).blockFault (96 + n)

/-! RDM (R301, R302). -/

/-- RDM_STATUS takes a result and a response length, with its event. -/
def rdmResult (n res len : Nat) (s : State) : State := (s.wr (Reg.DMX.RDM_STATUS n) (W (res + 0x10000 * len))).raise (96 + n) 2

/-- The bytes of RDM_REQ. -/
def rdmStaged (s : State) (n : Nat) : List Byte := ((List.range 64).map (fun i => leBytes 4 (s.rd (Reg.DMX.RDM_REQ n i)).toNat)).flatten

/-- The request that the port makes of RDM_REQ (R302; ANSI E1.20, PRESUMED, log entry 39). -/
def rdmBytes (s : State) (n : Nat) : List Byte :=
  let r := s.rdmStaged n
  let pdl := byteAt r 11
  let own := beBytes 2 (fld (s.rd (Reg.DMX.UID_HI n)) 0 16) ++ beBytes 4 (s.rd (Reg.DMX.UID_LO n)).toNat
  let body := [0xCC, 1] ++ leBytes 1 (24 + pdl) ++ r.take 6 ++ own ++ leBytes 1 (s.dmxP n).tn ++ [1, 0] ++ ((r.drop 6).take (6 + pdl))
  body ++ beBytes 2 (body.foldl (fun a b => a + b.toNat) 0 % 65536)

/-- A write to RDM_CMD (R301, R302, R308). -/
def rdmCmd (n : Nat) (v : Word) (s : State) : State :=
  let d := s.dmxP n
  let start := fun (k : Nat) (a : State) =>
    (a.setDmxP n { d with rdm := some k, req := if k == 1 then a.rdmBytes n else [], acc := [], tn := (d.tn + 1) % 256 }).wr (Reg.DMX.RDM_STATUS n) 1
  if v &&& 3 == 0 || !s.dmxOut n || !bit (s.rd (Reg.DMX.CFG n)) 2 then s
  else if d.rdm.isSome then s.rdmResult n 8 0
  else if bit v 0 then start 1 s
  else start 2 s

/-- A request has left in its window: its result follows. -/
def rdmLeft (n : Nat) (s : State) : State := s.emit (.rdm n (s.dmxP n).req)

/-- Response parameter data is stored (R302, R308). -/
def rdmStore (n : Nat) (l : List Byte) (s : State) : State :=
  (List.range 256).foldl (fun a i => a.wr (Reg.DMX.RDM_RSP n i) (W (leAt l (4 * i) 4))) s

/-- A response arrives (R301, R302). -/
def rdmResponse (n : Nat) (a : RdmAnswer) (data : List Byte) (s : State) : State :=
  let d := s.dmxP n
  if d.rdm != some 1 then s
  else
    let s := s.rdmLeft n
    let all := (d.acc ++ data).take 1024
    let done := fun (res : Nat) (l : List Byte) => (((s.setDmxP n { d with rdm := none, req := [], acc := [] }).rdmStore n l).rdmResult n res l.length)
    match a with
    | .ack => done 2 all
    | .ackTimer => done 3 (data.take 1024)
    | .nack => done 4 (data.take 1024)
    | .badSum => done 7 []
    | .ackOverflow => let s := s.setDmxP n { d with acc := all, tn := (d.tn + 1) % 256 }; s.setDmxP n { s.dmxP n with req := s.rdmBytes n }

/-- A request fails: 5 NO_GAP, 6 TIMEOUT (R302). -/
def rdmFail (n res : Nat) (s : State) : State :=
  if (s.dmxP n).rdm != some 1 then s
  else
    let s := if res == 6 then s.rdmLeft n else s
    (s.setDmxP n { s.dmxP n with rdm := none, req := [], acc := [] }).rdmResult n res 0

/-- Discovery ends (R301): up to 512 UIDs. -/
def rdmFound (n : Nat) (l : List (BitVec 48)) (s : State) : State :=
  if (s.dmxP n).rdm != some 2 then s
  else ((s.setDmxP n { s.dmxP n with rdm := none, uids := l.take 512 }).wr (Reg.DMX.UID_COUNT n) (W (l.take 512).length)).rdmResult n 9 0

/-- The UID at UID_INDEX (R308). -/
def uidAt (s : State) (n : Nat) : Nat := (((s.dmxP n).uids.getD (fld (s.rd (Reg.DMX.UID_INDEX n)) 0 9) 0) : BitVec 48).toNat

/-! Site I/O (R303-R306, R309). -/

/-- STATUS of an analog input (R303, R309): 1 OPEN, 2 SHORT, 3 REVERSED. -/
def ainStatus (mode : Nat) (v : Int) (path : Bool) : Nat :=
  if mode == 1 then (if v < -1000 then 3 else if 21000 < v then 2 else if !path then 1 else 0)
  else if v < 3600 then 1 else if 22000 < v then 2 else 0

/-- The mean of the samples that FILTER asks for, to the nearest step (R303, R309); none while there are too few. -/
def ainMean (s : State) (i : Nat) (l : List Int) : Option Int :=
  let n := 2 ^ Nat.min 10 (fld (s.rd (Reg.SIO.AIN_CFG i)) 4 4)
  if l.length < n then none else some (roundQ (mkRat ((l.take n).foldl (fun a x => a + x) 0) n))

/-- An analog input reports (R303); a value that its field cannot hold is free (DESIGN CHOICE, log entry 40). -/
def ainUpdate (i : Nat) (l : List Int) (path : Bool) (s : State) : State :=
  match s.ainMean i l with
  | none => s
  | some v =>
  let mode := fld (s.rd (Reg.SIO.AIN_CFG i)) 0 2
  let old := s.rd (Reg.SIO.AIN i)
  if !s.up 100 then s
  else if mode == 0 || mode == 3 then s.wr (Reg.SIO.AIN i) 0x40000
  else
    let st := ainStatus mode v path
    let fits := 0 ≤ v && v < 65536
    let x := if fits then v.toNat else s.freeW.toNat % 65536
    let s := if fits then s else s.useFree
    let s := s.wr (Reg.SIO.AIN i) (W (x + 0x10000 * st))
    let th := s.rd (Reg.SIO.AIN_THRESH i)
    let was := fld old 0 16
    let s := if st != 0 && st != fld old 16 3 then s.raise 100 0 else s
    if (v < fld th 0 16 && fld th 0 16 ≤ was) || (((fld th 16 16 : Nat) : Int) < v && was ≤ fld th 16 16) then s.raise 100 3 else s

/-- What a digital input reads (R304): its level, none where it keeps the one it has, and whether the wiring is at fault. -/
def dinReads (monitor : Bool) (mv : Int) (ua : Nat) : Option Bool × Bool :=
  if monitor then
    if 600 ≤ ua && ua ≤ 1600 then (some false, false)
    else if 3000 ≤ ua && ua ≤ 8000 then (some true, false)
    else (none, true)
  else if 15000 ≤ mv then (some true, false)
  else if mv ≤ 5000 then (some false, false)
  else (none, false)

/-- The level that a reading changes an input to, if it is enabled and changes (R304). -/
def dinLevel (s : State) (j : Nat) (mv : Int) (ua : Nat) : Option Bool :=
  let c := s.rd Reg.SIO.DIN_CFG
  if !s.up 100 || !bit c (4 * j) then none
  else (dinReads (bit c (4 * j + 1)) mv ua).1.bind (fun v => if v == bit (s.rd Reg.SIO.DIN_STATE) j then none else some v)

/-- The edge of an input is an enabled one (R304, R309). -/
def dinEnabled (s : State) (j : Nat) (level : Bool) : Bool := bit (s.rd Reg.SIO.DIN_CFG) (4 * j + (if level then 2 else 3))

/-- A digital input is read (R54, R304). -/
def dinEdge (j : Nat) (mv : Int) (ua : Nat) (s : State) : State :=
  let c := s.rd Reg.SIO.DIN_CFG
  if !s.up 100 || !bit c (4 * j) then s
  else
    let edge := s.dinLevel j mv ua
    let s := (s.wrBit Reg.SIO.DIN_STATE (8 + j) (dinReads (bit c (4 * j + 1)) mv ua).2).wrBit Reg.SIO.DIN_STATE (16 + j) (decide (mv < -1000))
    match edge with
    | none => s
    | some level =>
      let s := s.wrBit Reg.SIO.DIN_STATE j level
      let s := if s.dinEnabled j level then (s.wr (Reg.SIO.DIN_STAMP j) (s.tb 0).count).raise 100 1 else s
      if bit (s.rd Reg.SIO.DIN_WAKE) j && bit (s.rd Reg.SYS.WAKE_EN) 7 && s.mode == .doze then s.wakeDoze (some 7) else s

/-- ACT_GO (R305, R306): an ACT_PT that is late at the write is due at once, as with NOW (R116). -/
def actGo (v : Word) (s : State) : State :=
  if (s.blk 100).hold then s.err 100
  else
    let pt := s.rd Reg.SIO.ACT_PT
    { s with actArm := s.actArm ++ [(fld v 0 4, pt, bit v 4 || serialLt pt (s.tb 0).count)] }

/-- The staged values of outputs take effect, but for those with a latched fault (R305): what ACT_CTL holds at that instant (DESIGN CHOICE, log entry 128). -/
def actSet (mask : Nat) (s : State) : State :=
  (bitsOf mask 4).foldl (fun a m =>
    if fld (a.rd Reg.SIO.ACT_STATUS) (4 * m + 1) 3 == 0 then a.wrFld Reg.SIO.ACT_STATUS (4 * m) 1 (fld (a.rd (Reg.SIO.ACT_CTL m)) 0 1) else a) s

/-- The armed changes whose time has come are made (R305, R306). -/
def actApply (s : State) : State :=
  if (s.blk 100).hold || s.mode == .hold || s.mode == .doze || !s.up 100 then s
  else
    let due := fun (e : Nat × Word × Bool) => e.2.2 || serialGe (s.tb 0).count e.2.1
    (s.actArm.filter due).foldl (fun a e => a.actSet e.1) { s with actArm := s.actArm.filter (fun e => !due e) }

/-- An actuator fault latches the output off (R305). -/
def actFault (m kind : Nat) (s : State) : State :=
  ((s.wrBit Reg.SIO.ACT_STATUS (4 * m) false).wrBit Reg.SIO.ACT_STATUS (4 * m + 1 + kind) true).raise 100 2

/-- ACT_CLEAR (R305). -/
def actClear (v : Word) (s : State) : State := (bitsOf v.toNat 4).foldl (fun a m => a.wrFld Reg.SIO.ACT_STATUS (4 * m + 1) 3 0) s

/-! The safe look (R265, R294, R298, R431). -/

/-- The sealed safe look that the ports show, none for zero. -/
def safeLook (s : State) : Option SafeRec :=
  let st := fld (s.rd Reg.TAMP.SAFE_STATUS) 0 2
  match s.safe with
  | some r => if st == 1 || (st == 3 && s.safeOk r) then some r else none
  | none => none

/-- Index of a port page in the safe look (R430). -/
def safePort (pg : Nat) : Nat := if pg < 64 then pg - 32 else pg - 48

/-- The slots of a port's map entries with the levels of the safe look; heat off overrides (R39, R431). -/
def safeSlots (s : State) (r : SafeRec) (pg : Nat) (l : List SlotPips) : List SlotPips :=
  l.map (fun x =>
    let lit := (List.range x.pips.length).map (fun p => Sparse.get (fun _ => 0) r.levels (8 * safePort pg + p) / 2 ^ (16 - pipBits x.pipW))
    let dark := x.pips.map (fun _ => 0)
    { x with pips := if s.heatOff.contains (s.plan.eFleet x.entry) then dark else lit })

/-- The safe look of one zone at a port end, or its strike with HOLD and BLACKOUT (R265). -/
def gzSafeZone (n z : Nat) (p : Plan) (lead : Word) (s : State) : State :=
  let k := (s.gz n).seq
  let strike := fun (flags : Nat) (a : State) => a.gzCtl n { type := 2, bcast := true, addr := 0, payload := strikePayload z flags k p.epoch lead, train := 0 }
  match s.safeLook with
  | some r =>
    let slots := ((s.gzPages n).map (fun pg => s.safeSlots r pg (p.blankSlots z pg))).flatten
    let runs := slotRuns z (slots.filter (fun x => s.pixTakes n x.dest))
    strike 1 (runs.foldl (fun b x => b.gzCtl n { type := 1, bcast := false, addr := x.dest, payload := pixPayload x k, train := 0 }) s)
  | none => strike 5 s

/-- A port sends the safe look, or strikes with HOLD and BLACKOUT, at its ends that are UP (R265). What is left of an earlier safe look gives way to it. -/
def gzSafe (n : Nat) (s : State) : State :=
  if s.gzOwner n != n || (s.gzEnds n).isEmpty then s
  else
    let p := s.planOld.getD s.plan
    let lead := W (1000 * fld (s.rd (Reg.GZP.LINK_LEAD n)) 0 16)
    let zones := (((s.gzPages n).map p.portZones).flatten).eraseDups
    zones.foldl (fun a z => a.gzSafeZone n z p lead) (s.updGz n (fun g => { g with wait := g.wait.filter (fun r => !r.data) }))

/-- The slots of a local port in the plan, with the levels of the safe look. -/
def localSafe (s : State) (pg : Nat) : List SlotPips :=
  match s.safeLook with
  | some r => s.safeSlots r pg (((s.plan.portZones pg).map (fun z => s.plan.blankSlots z pg)).flatten)
  | none => []

/-- Every port sends the safe look in HOLD mode (R265, R294, R298). -/
def safeResend (s : State) : State :=
  if s.mode != .hold then s
  else
    let s := (List.range 32).foldl (fun a n => a.gzSafe n) s
    let s := (List.range 16).foldl (fun a n => if a.up (80 + n) && a.domSt n == 2 then (a.domShiftOut n (domStages (a.localSafe (80 + n)))).domLatch n (domStages (a.localSafe (80 + n))) else a) s
    (List.range 4).foldl (fun a n =>
      if a.up (96 + n) && a.dmxSt n == 1 && a.dmxOut n then a.dmxSend n (dmxFill (a.dmxSlots n) (a.localSafe (96 + n))) else a) s

end State

/-- DOM_RECOUNT (R289). -/
def execDomRecount (r : Requester) (n : Fin 16) (s : State) : Out := .next (s.access r (Reg.DOM.CMD n) 1 (State.domRecount n))

/-- DOM_COUNT_DONE (R289). -/
def execDomCountDone (n : Fin 16) (c : DomCount) (s : State) : Out := .next (s.domCountDone n c)

/-- DOM_FAULT_RECHECK (R290). -/
def execDomFaultRecheck (n : Fin 16) (faults : BitVec 8) (s : State) : Out := .next (s.domRecheck n faults.toNat)

/-- DOM_SHIFT_START (R292). -/
def execDomShiftStart (n : Fin 16) (ret : List (BitVec 64)) (s : State) : Out := .next (s.domShift n ret)

/-- DOM_LAT (R292). -/
def execDomLat (n : Fin 16) (s : State) : Out := .next (s.domLat n)

/-- DMX_ALIGNED_PACKET (R296). -/
def execDmxAlignedPacket (n : Fin 4) (s : State) : Out := .next (s.dmxAligned n)

/-- DMX_REPEAT (R297). -/
def execDmxRepeat (n : Fin 4) (nextBreak : Option Word) (s : State) : Out := .next (s.dmxRepeat n nextBreak)

/-- DMX_PACKET_RX (R299). -/
def execDmxPacketRx (n : Fin 4) (brk mab : Nat) (startCode : Byte) (slots : List Byte) (framing : Bool) (s : State) : Out :=
  .next (s.dmxRx n brk mab startCode slots framing)

/-- DMX_LINE_FAULT (R300). -/
def execDmxLineFault (n : Fin 4) (b : Fin 5) (s : State) : Out := .next (s.dmxFault n b)

/-- RDM_SEND (R302). -/
def execRdmSend (r : Requester) (n : Fin 4) (s : State) : Out := .next (s.access r (Reg.DMX.RDM_CMD n) 1 (State.rdmCmd n 1))

/-- RDM_DISCOVER (R301). -/
def execRdmDiscover (r : Requester) (n : Fin 4) (s : State) : Out := .next (s.access r (Reg.DMX.RDM_CMD n) 2 (State.rdmCmd n 2))

/-- RDM_DISCOVERY_DONE (R301). -/
def execRdmDiscoveryDone (n : Fin 4) (uids : List (BitVec 48)) (s : State) : Out := .next (s.rdmFound n uids)

/-- RDM_RESPONSE_RX (R302). -/
def execRdmResponseRx (n : Fin 4) (a : RdmAnswer) (data : List Byte) (s : State) : Out := .next (s.rdmResponse n a data)

/-- RDM_TIMEOUT (R302). -/
def execRdmTimeout (n : Fin 4) (s : State) : Out := .next (s.rdmFail n 6)

/-- RDM_NO_GAP (R302). -/
def execRdmNoGap (n : Fin 4) (s : State) : Out := .next (s.rdmFail n 5)

/-- A read of UID_DATA_HI moves on to the next UID (R303). -/
def State.uidNext (n : Nat) (s : State) : State := s.wrFld (Reg.DMX.UID_INDEX n) 0 9 (fld (s.rd (Reg.DMX.UID_INDEX n)) 0 9 + 1)

/-- UID_DATA_READ (R303). -/
def execUidDataRead (r : Requester) (n : Fin 4) (s : State) : Out :=
  .next (s.readAccess r (Reg.DMX.UID_DATA_HI n) (W (s.uidAt n / 2 ^ 32)) (State.uidNext n))

/-- AIN_UPDATE (R303). -/
def execAinUpdate (i : Fin 8) (samples : List Int) (path : Bool) (s : State) : Out := .next (s.ainUpdate i samples path)

/-- ACT_GO (R305). -/
def execActGo (r : Requester) (v : Word) (s : State) : Out := .next (s.access r Reg.SIO.ACT_GO v (State.actGo v))

/-- ACT_APPLY (R305). -/
def execActApply (s : State) : Out := .next s.actApply

/-- ACT_FAULT (R305). -/
def execActFault (m : Fin 4) (kind : Fin 3) (s : State) : Out := .next (s.actFault m kind)

/-- ACT_CLEAR (R305). -/
def execActClear (r : Requester) (v : Word) (s : State) : Out := .next (s.access r Reg.SIO.ACT_CLEAR v (State.actClear v))

/-- SAFE_LOOK_RESEND (R265). -/
def execSafeLookResend (s : State) : Out := .next s.safeResend

end Sys2Proof.Machine
end

