-- ==== Sys2Proof/Machine/Queues.lean ====
section
/-!
DEFINITION. QM: on-die queues, the cell pool, flushes, errors, and the host queues (R23-R25, R92, R333-R349).
-/
namespace Sys2Proof.Machine

namespace State

/-- QM allocates a cell, or the producer waits (R339). -/
def cellAlloc (q : Nat) (s : State) : State :=
  if s.allocMay q then s.setPq q { s.pq q with spare := (s.pq q).spare + 1 } else s.bumpWrap Reg.QM.ALLOC_WAIT

/-- A block writes an item to a queue of the pool (R23, R337-R339). -/
def poolEnqueue (q : Nat) (i : DWord) (s : State) : State :=
  let x := s.pq q
  if hostProduces q || !blockItem i then s
  else if x.cut then s.setPq q { x with cut := !itemEop i, part := !itemEop i }
  else if (x.items.filter (fun e => e.credit)).length < x.depth then (s.poolPut q { item := i, data := [], credit := true }).1
  else s

/-- A block writes an item to an on-die queue (R23, R336, R337). -/
def onDieEnqueue (q : Nat) (i : DWord) (s : State) : State :=
  let x := s.oq q
  if !blockItem i then s
  else if x.cut then s.setOq q { x with cut := !itemEop i, part := !itemEop i }
  else if x.items.length < x.depth then s.setOq q { x with items := x.items ++ [{ item := i, data := [], credit := true }], part := !itemEop i }
  else s

/-- A producer writes an item (R23), while its consumer grants credits (R81). -/
def enqueue (q : QueueId) (i : DWord) (s : State) : State :=
  if !s.consumes q then s else match q with | .onDie q => s.onDieEnqueue q.val i | .pool q => s.poolEnqueue q.val i

/-- A consumer reads an item (R23, R24); what waits for a block that is not at work stays (R81). -/
def dequeue (q : QueueId) (s : State) : State :=
  if !s.consumes q then s
  else
    match q with
    | .onDie q => let r := (s.oq q.val).take; (s.setOq q.val r.2).emit (.item false q.val r.1)
    | .pool q => if hostConsumes q.val then s else let r := (s.pq q.val).take; (s.setPq q.val r.2).emit (.item true q.val r.1)

/-! Flush (R25, R343). -/

/-- Q_CMD.FLUSH on a queue: host queues only (R348). -/
def flushReq (q : Nat) (s : State) : State := if hostQueue q then s.setPq q (s.pq q).flushNow else s.err 26

/-! Errors (R337, R341). -/

/-- A frame that has lost items is dropped with cause FAULT (R31, R198, R341). -/
def frameLost (z k : Nat) (s : State) : State := 
  s.dropFrame z k 3 (match s.frames.find? (fun f => f.zone == z && f.k == k) with | some f => f.ps | none => framePs s.plan z k)

/-- The copies of a pointer of an on-die queue differ (R31, R33, R337): the queue is reset, the frames that lost items there are dropped whole, and the recovery window of the consumer
begins, in which another fault of that block takes it to FAULT. -/
def pointerMismatch (q : Nat) (writeSide : Bool) (lost : List (Nat × Nat)) (s : State) : State :=
  let s := (s.setOq q (s.oq q).reset).bump Reg.QM.ONDIE_RESETS
  let s := (s.wr Reg.QM.LAST_ONDIE (W (q + 0x100 * (if writeSide then 1 else 2)))).raise 26 0
  (lost.foldl (fun a e => a.frameLost e.1 e.2) s).blockFault (Config.onDie q).2

/-- The packet of the item that names a cell ends in ABORT in place of it (R334, R341), and whether the rest of that packet has still to come. -/
def abortAt (cell : Nat) : List QItem → List QItem × Bool
  | [] => ([], false)
  | i :: t =>
    if itemType i.item == 0 && i.item.toNat % 2 ^ 23 == cell then
      ({ item := itemAbort, data := [], credit := true } :: (if itemEop i.item then t else dropPacket (fun e => itemEop e.item) t),
        !itemEop i.item && !t.any (fun e => itemEop e.item))
    else let r := abortAt cell t; (i :: r.1, r.2)

/-- The frames whose tiles wait in a pair queue and are lost with a cell: all of them where the list is lost, else that of one tile; which tile the cell belongs to is free
(R341; DESIGN CHOICE, log entry 74). -/
def cellFrames (q : Nat) (list : Bool) (s : State) : List (Nat × Nat) :=
  let l := (Sparse.get (fun _ => []) s.tileQ q).map (fun t => (t.zone, t.k))
  if list then l.eraseDups else (l[s.freeW.toNat % l.length]?).toList

/-- A cell fails (R341): one that fails twice is withdrawn from the free list. An uncorrectable error in use counts as a failure beside one in a scrub (DEDUCED, log entry 41). -/
def cellFail (c : Nat) (s : State) : State :=
  if s.cellBad.contains c then (({ s with cellBad := s.cellBad.filter (fun x => x != c) }.bump Reg.QM.RETIRED).journal s).poolShow
  else { s with cellBad := s.cellBad ++ [c] }

/-- An ECC error in a cell of a queue (R341): the packet, or the list, is lost, and a frame with it. -/
def cellError (q cell : Nat) (k : CellError) (s : State) : State :=
  match k with
  | .corrected => (s.bump Reg.QM.CELL_CORR).wr Reg.QM.LAST_ERR (W (cell + 0x1000000))
  | .uncorrData =>
    let x := s.pq q
    let a := abortAt cell x.items
    let l := s.cellFrames q false
    let s := s.setPq q { x with items := a.1, cut := x.cut || a.2 }
    l.foldl (fun a e => a.frameLost e.1 e.2) ((((s.cellFail cell).useFree.bump Reg.QM.CELL_UNCORR).wr Reg.QM.LAST_ERR (W (cell + 0x2000000))).raise 26 1)
  | .uncorrLink =>
    let l := s.cellFrames q true
    l.foldl (fun a e => a.frameLost e.1 e.2) (((((s.setPq q (s.pq q).reset).cellFail cell).bump Reg.QM.CELL_UNCORR).wr Reg.QM.LAST_ERR (W (cell + 0x3000000))).raise 26 1)

/-- The scrub period in s (R341, R348). -/
def scrubPeriod (s : State) : Nat := Nat.max 60 (fld (s.rd Reg.QM.SCRUB_CFG) 0 16)

/-- A scrub pass (R341): cells with a corrected error, and cells that failed. -/
def scrubPass (corrected failed : List Nat) (s : State) : State :=
  let s := corrected.foldl (fun a c => (a.bump Reg.QM.CELL_CORR).wr Reg.QM.LAST_ERR (W (c + 0x1000000))) s
  failed.foldl (fun a c => a.cellFail c) s

/-! Host queues (R92, R344-R347). -/

/-- MARK items at the head of what is to be fetched are stored at once (R338, R345). -/
def moveMarks (q : Nat) : Nat → State → State
  | 0, s => s
  | n + 1, s =>
    match (s.pq q).fetch with
    | i :: t =>
      if itemType i == 3 then
        let r := s.poolPut q { item := i, data := [], credit := true }
        if r.2 then moveMarks q n (r.1.setPq q { r.1.pq q with fetch := t }) else r.1
      else s
    | [] => s

/-- A 64-bit write to a doorbell (R92, R93, R335, R344). -/
def doorbell (q : Nat) (desc : DWord) (wide : Bool) (s : State) : State :=
  let refuse := fun (c : Nat) =>
    (({ s with dbLast := Sparse.set (fun _ => 0) s.dbLast q c }.bump Reg.HIF.DB_REFUSED_CNT).wr Reg.HIF.DB_LAST (W (q + 0x4000 * c))).raise 3 1
  let x := s.pq q
  if !wide || !descValid desc || (hostConsumes q && itemType desc == 3) then (s.bump Reg.HIF.BAD_ACCESS_CNT).raise 3 3
  else if !hostProduces q && !hostConsumes q then refuse 3
  else if s.hostCredits q == 0 || !s.qmUp then refuse 2
  else
    let s := { s with dbLast := Sparse.set (fun _ => 0) s.dbLast q 1 }
    if hostConsumes q then s.setPq q { x with posted := x.posted ++ [desc] }
    else (s.setPq q { x with fetch := x.fetch ++ [desc] }).moveMarks q (x.fetch.length + 1)

/-- The bytes of a buffer go into data cells (R338, R345); which cells is free. -/
def putCells (q : Nat) (eop : Bool) : List (List Byte) → State → State
  | [], s => s
  | [c], s => (s.useFree.poolPut q { item := itemCell (s.freeW.toNat) c.length eop, data := c, credit := true }).1
  | c :: t, s => putCells q eop t (s.useFree.poolPut q { item := itemCell (s.freeW.toNat) c.length false, data := c, credit := false }).1

/-- Cells that `n` further CELL items of a queue can need, link cells included. -/
def cellsFor (x : QueueSt) (n : Nat) : Nat := n - x.spare + (x.head % 31 + x.items.length + n + 30) / 31 - x.links

/-- QM fetches the next host buffer by a DMA read (R345). -/
def dmaFetch (q : Nat) (bytes : List Byte) (s : State) : State :=
  let x := s.pq q
  match x.fetch with
  | [] => s
  | d :: t =>
    if !s.qmUp || !hostProduces q then s
    else
      let data := fitBytes (bufBytes d) bytes
      let cells := Crypto.groups 256 ((data.length + 255) / 256) data
      if x.max < x.cells + cellsFor x cells.length || s.poolFree < s.reserved + cellsFor x cells.length then s.bumpWrap Reg.QM.ALLOC_WAIT
      else (putCells q (itemEop d) cells ((s.emit (.hostRead (bufAddr d) (bufBytes d))).setPq q { x with fetch := t })).moveMarks q t.length

end State

/-- The bytes of a queue's oldest packet from its oldest item on, and whether they end in EOP, and in ABORT. -/
def packetBytes : List QItem → List Byte × Bool × Bool
  | [] => ([], false, false)
  | i :: t =>
    if itemType i.item == 2 then ([], true, true)
    else if itemEop i.item then (i.data, true, false)
    else let r := packetBytes t; (i.data ++ r.1, r.2)

/-- Items left after `n` bytes of the oldest packet are gone, and the bytes of the next item that are gone with them. -/
def packetDrop : Nat → List QItem → List QItem × Nat
  | _, [] => ([], 0)
  | n, i :: t => if itemType i.item == 0 && n < i.data.length then (i :: t, n) else packetDrop (n - i.data.length) t

namespace State

/-- Entries of a host ring (R348). -/
def ringSize (s : State) (h : Nat) : Nat := 2 ^ clampN 4 12 (fld (s.rd (Reg.QM.HR_SIZE h)) 0 4)

/-- A completion entry goes to a host ring (R346). -/
def complete (h bytes : Nat) (eop abort : Bool) (s : State) : State :=
  let q := 16257 + 2 * h
  let x := s.pq q
  let n := fld (s.rd (Reg.QM.HR_HEAD h)) 0 12
  let next := (n + 1) % s.ringSize h
  let base := fld (s.rd (Reg.QM.HR_BASE_LO h)) 3 29 * 8 + 2 ^ 32 * fld (s.rd (Reg.QM.HR_BASE_HI h)) 0 16
  let s := s.emit (.hostWrite (BitVec.ofNat 48 (base + 8 * n)) (leBytes 8 (bytes + 2 ^ 17 * b2n eop + 2 ^ 18 * b2n abort + 2 ^ 31 * b2n (!x.phase0))))
  let s := s.wr (Reg.QM.HR_HEAD h) (W next)
  let s := if next == 0 then s.setPq q { s.pq q with phase0 := !x.phase0 } else s
  if eop || abort then s.raise 26 2 else s

/-- QM fills the next posted buffer of a host ring once it can be filled, or the packet ends (R346); a packet that a flush has cut short ends there in ABORT (R25). -/
def rxFill (h : Nat) (s : State) : State :=
  let q := 16257 + 2 * h
  let x := s.pq q
  match x.posted with
  | [] => s
  | d :: t =>
    let p := packetBytes x.items
    let data := p.1.drop x.used
    let n := bufBytes d
    if !s.qmUp || !bit (s.rd (Reg.QM.HR_EN h)) 0 then s
    else if x.abort then (s.setPq q { x with posted := t, abort := false }).complete h 0 false true
    else if x.flush || x.items.isEmpty || (data.length < n && !p.2.1) then s
    else
      let ends := data.length ≤ n
      let rest := if ends && p.2.1 then (dropPacket (fun i => itemEop i.item) x.items, 0) else packetDrop (x.used + n) x.items
      let s := s.setPq q { x with posted := t, items := rest.1, used := rest.2, taken := !(ends && p.2.1), head := (x.head + (x.items.length - rest.1.length)) % 31 }
      (s.emit (.hostWrite (bufAddr d) (data.take n))).complete h (Nat.min n data.length) (ends && p.2.1 && !p.2.2) (ends && p.2.1 && p.2.2)

/-- A host DMA access fails (R347). -/
def dmaError (q : Nat) (s : State) : State :=
  let x := s.pq q
  let count := fun (a : State) => (a.bump Reg.QM.HOST_DMA_ERR).raise 26 4
  if hostProduces q then
    if x.fetch.isEmpty then s
    else count ((s.setPq q { x with fetch := dropPacket itemEop x.fetch }).poolPut q { item := itemAbort, data := [], credit := false }).1
  else if hostConsumes q then
    match x.posted with
    | [] => s
    | _ :: t =>
      let s := s.setPq q { x with posted := t, items := dropPacket (fun i => itemEop i.item) x.items, used := 0, taken := false,
                                  cut := x.cut || (x.part && !x.items.any (fun i => itemEop i.item)) }
      count (s.complete ((q - 16257) / 2) 0 false true)
  else s

/-- Writes to Q_CFG, Q_MIN and Q_MAX of the selected queue (R340, R346, R348): `which` 0, 1, 2. -/
def queueCfg (which : Nat) (v : Word) (s : State) : State :=
  let q := fld (s.rd Reg.QM.Q_SEL) 0 14
  let x := s.pq q
  let held := !x.items.isEmpty || !x.fetch.isEmpty
  if !hostQueue q then s.err 26
  else if which == 0 then
    let d := Nat.max 1 (fld v 0 16)
    if held || (hostConsumes q && s.ringSize ((q - 16257) / 2) < d) then s.err 26 else s.setPq q { x with depth := d }
  else if which == 1 then
    let sum := (List.range 16384).foldl (fun a k => a + (if k == q then fld v 0 23 else (s.pq k).min)) 0
    if 8126464 < sum then s.err 26 else s.setPq q { x with min := fld v 0 23 }
  else s.setPq q { x with max := fld v 0 23 }

/-- A write to HR_SIZE (R346, R348). -/
def ringSizeWrite (h : Nat) (v : Word) (s : State) : State :=
  if bit (s.rd (Reg.QM.HR_EN h)) 0 then s
  else if 2 ^ clampN 4 12 (fld v 0 4) < (s.pq (16257 + 2 * h)).depth then s.err 26
  else s.wr (Reg.QM.HR_SIZE h) (W (fld v 0 4))

end State

/-- ITEM_ENQUEUE (R23). -/
def execItemEnqueue (q : QueueId) (item : DWord) (s : State) : Out := .next (s.enqueue q item)

/-- ITEM_DEQUEUE (R23). -/
def execItemDequeue (q : QueueId) (s : State) : Out := .next (s.dequeue q)

/-- CELL_ALLOC (R339). -/
def execCellAlloc (q : Fin 16384) (s : State) : Out := .next (if s.qmUp then s.cellAlloc q else s)

/-- FLUSH (R343). -/
def execFlush (r : Requester) (q : Fin 16384) (s : State) : Out := .next (s.access r Reg.QM.Q_CMD 1 (State.flushReq q))

/-- FLUSH_APPLY (R25). -/
def execFlushApply (q : Fin 16384) (s : State) : Out := .next (if (s.pq q).flush then s.setPq q (s.pq q).flushNow else s)

/-- POINTER_MISMATCH (R337). -/
def execPointerMismatch (q : Fin 256) (writeSide : Bool) (lost : List (Fin 256 × Nat)) (s : State) : Out :=
  .next (if s.qmUp then s.pointerMismatch q writeSide (lost.map (fun e => (e.1.val, e.2))) else s)

/-- CELL_ECC_ERROR (R341). -/
def execCellEccError (q : Fin 16384) (cell : Fin 8388608) (kind : CellError) (s : State) : Out :=
  .next (if s.qmUp then s.cellError q cell kind else s)

/-- SCRUB_PASS (R341): `seconds` since the last pass. -/
def execScrubPass (seconds : Nat) (corrected failed : List (Fin 8388608)) (s : State) : Out :=
  .next (if s.qmUp && s.scrubPeriod ≤ seconds then s.scrubPass (corrected.map (fun c => c.val)) (failed.map (fun c => c.val)) else s)

/-- HOST_DMA_FETCH (R345). -/
def execHostDmaFetch (q : Fin 16384) (bytes : List Byte) (s : State) : Out := .next (s.dmaFetch q bytes)

/-- HOST_DMA_ERROR (R347). -/
def execHostDmaError (q : Fin 16384) (s : State) : Out := .next (if s.qmUp then s.dmaError q else s)

end Sys2Proof.Machine
end

