-- ==== Sys2Proof/Machine/Eth.lean ====
section
/-!
DEFINITION. The Ethernet ports: receive classes, transmit queues, gates, preemption, PAUSE, wake on match, SFP (R124-R126, R310-R327), and the ST 2022-7 merge (R328,
R329).
-/
namespace Sys2Proof.Machine

/-- RX_LAT and TX_LAT of a port, in ns to the nearest (R124; DEDUCED, log entry 42). -/
def rxLat (n : Nat) (fec : Bool) : Nat := if n < 2 then (if fec then 231 else 72) else 312
def txLat (n : Nat) (fec : Bool) : Nat := if n < 2 then (if fec then 112 else 49) else 184

namespace State

/-- LINK_STATUS.UP. -/
def linkUp (s : State) (n : Nat) : Bool := bit (s.rd (Reg.ETH.LINK_STATUS n)) 0

/-- LINK_STATUS.FEC. -/
def linkFec (s : State) (n : Nat) : Bool := bit (s.rd (Reg.ETH.LINK_STATUS n)) 4

/-- A MAC at work: the block is up, its link is up, and it does not listen for a wake (R327). -/
def ethUp (s : State) (n : Nat) : Bool := s.up (104 + n) && s.linkUp n && fld (s.rd (Reg.ETH.LINK_STATUS n)) 1 3 != 3 && s.mode != .doze

/-- The transmitter of an SFP is off: TX_DISABLE is asserted by SFP_CTL, or by a transmit fault (R311). -/
def sfpTxOff (s : State) (n : Nat) : Bool := n < 2 && (bit (s.rd (Reg.ETH.SFP_CTL n)) 0 || bit (s.rd (Reg.ETH.SFP_STATUS n)) 1)

/-! Receiving (R312-R318). -/

/-- KIND and MATCH of an accepted destination (R312, R317). -/
def ethDest (s : State) (n d : Nat) : Option (Nat × Nat) :=
  if d == (s.ethMac n).toNat then some (0, 15)
  else if d == 0xFFFFFFFFFFFF then (if bit (s.ethCfg n) 3 then some (1, 15) else none)
  else
    match (List.range 16).find? (fun i => s.matchMac n i == some d) with
    | some i => some (2, i)
    | none =>
      let sacn := (0x01005E7F0000 ≤ d && d ≤ 0x01005E7FFFFF) || (0x333300830000 ≤ d && d ≤ 0x33330083FFFF)
      if sacn && bit (s.rd Reg.UNI.CFG) n then some (3, 15) else none

/-- A VIN stream comes in on a port, directly or through EDUP (R154, R314). -/
def vinOn (s : State) (n k : Nat) : Bool := bit (s.rd (Reg.VIN.S_CTL k)) 0 && (vinPorts (s.rd (Reg.VIN.S_CTL k))).contains n

/-- A datagram has the destination and the UDP port of an enabled stream (R173, R314). -/
def vinHears (s : State) (n k : Nat) (v6 : Bool) (dst : BitVec 128) (port : Nat) : Bool :=
  let d0 := s.rd (Reg.VIN.S_DEST0 k)
  let d := if v6 then d0 ++ s.rd (Reg.VIN.S_DEST1 k) ++ s.rd (Reg.VIN.S_DEST2 k) ++ s.rd (Reg.VIN.S_DEST3 k) else d0.setWidth 128
  s.vinOn n k && bit (s.rd (Reg.VIN.S_CTL k)) 3 == v6 && d == dst && fld (s.rd (Reg.VIN.S_UDP k)) 0 16 == port

/-- A datagram has the destination and the UDP port of the enabled audio stream (R178, R314). -/
def audHears (s : State) (n : Nat) (v6 : Bool) (dst : BitVec 128) (port : Nat) : Bool :=
  let c := s.rd Reg.AUD.CFG
  let d0 := s.rd (Reg.AUD.DEST 0)
  let d := if v6 then d0 ++ s.rd (Reg.AUD.DEST 1) ++ s.rd (Reg.AUD.DEST 2) ++ s.rd (Reg.AUD.DEST 3) else d0.setWidth 128
  bit c 0 && fld c 1 2 == n && bit c 3 == v6 && d == dst && fld (s.rd Reg.AUD.UDP) 0 16 == port

/-- The class of a datagram, and the page of its consumer (R314): 0 for SC, 28 for FP; none where no row before HOST takes it. -/
def udpClass (s : State) (n : Nat) (u : Bool × BitVec 128 × Nat × List Byte) : Option (Nat × Nat) :=
  let (v6, dst, port, _) := u
  if (port == 319 || port == 320) && (fld (s.rd (Reg.TB.SRC 0)) 4 2 == n || fld (s.rd (Reg.TB.SRC 1)) 4 2 == n) then some (0, 0)
  else if s.ethHears n v6 dst && port == fld (s.rd Reg.PRT.CFG) 16 16 && bit (s.rd Reg.PRT.CFG) n then some (1, 4)
  else if (List.range 8).any (fun k => s.vinHears n k v6 dst port) then some (2, 21)
  else if s.audHears n v6 dst port then some (3, 25)
  else if port == 5568 then some (3, 24)
  else if port == fld (s.rd Reg.FLT.NET_CFG) 16 16 && bit (s.rd Reg.FLT.NET_CFG) n then some (4, 28)
  else none

/-- The class of a frame and the page of its consumer (R314), none where it is unclaimed: ARP is type 0x0806; ICMP is protocol 1, with echo types 0 and 8, IGMP 2; of ICMPv6, protocol
58, types 128 and 129 are echo, 133 to 137 neighbour discovery, and 130 to 132 and 143 MLD (PRESUMED, log entry 120). -/
def ethClass (s : State) (n : Nat) (v : EthView) : Option (Nat × Nat) :=
  let host := if bit (s.ethCfg n) 4 then some (5, 0) else none
  let fp := some (4, 28)
  let stack := if bit (s.ethCfg n) 5 then host else fp
  match udpView v with
  | some u => (s.udpClass n u).orElse (fun _ => host)
  | none =>
    if v.type == 0x0806 then stack
    else
      match ipView v with
      | none => host
      | some i =>
        let ty := byteAt i.body 0
        if !i.v6 && i.proto == 1 then (if ty == 0 || ty == 8 then stack else fp)
        else if !i.v6 && i.proto == 2 then fp
        else if i.v6 && i.proto == 58 && (ty == 128 || ty == 129 || (133 ≤ ty && ty ≤ 137)) then stack
        else if i.v6 && i.proto == 58 && ((130 ≤ ty && ty ≤ 132) || ty == 143) then fp
        else host

/-- The time base that stamps a frame (R318): that of the PTP instance, told by its domain where both use the port. -/
def stampTb (s : State) (n cls : Nat) (v : EthView) : Nat :=
  if cls != 0 then fld (s.ethCfg n) 0 2
  else
    let a := fld (s.rd (Reg.TB.SRC 0)) 4 2 == n
    let b := fld (s.rd (Reg.TB.SRC 1)) 4 2 == n
    let dom := match udpView v with | some u => byteAt u.2.2.2 4 | none => 0
    b2n (b && (!a || (dom == s.ptpDomain true && dom != s.ptpDomain false)))

/-- Bytes of receive memory of a class (R315). -/
def rxShare (n cls : Nat) : Nat := 1024 * ([16, 64, if n < 2 then 768 else 0, 64, 32, 80] : List Nat).getD cls 0

/-- A frame of receive memory goes to its consumer, if that takes it (R315, R317): HOST through its cell-pool queue, SC and FP while they run, a block while it grants credits. -/
def rxGive (n : Nat) (e : Nat × Nat × List Byte) (s : State) : Option State :=
  let (cls, page, l) := e
  if cls == 5 then
    let q := 16257 + 2 * n
    let x := s.pq q
    let cells := Crypto.groups 256 ((l.length + 255) / 256) l
    let used := (x.items.filter (fun e => e.credit)).length
    if !s.qmUp || x.depth < used + cells.length || x.max < x.cells + cellsFor x cells.length || s.poolFree < s.reserved + cellsFor x cells.length then none
    else some (cells.zipIdx.foldl (fun (a : State) (c : List Byte × Nat) =>
      (a.useFree.poolPut q { item := itemCell a.freeW.toNat c.1.length (c.2 + 1 == cells.length), data := c.1, credit := true }).1) s)
  else if (if cls == 0 then s.proc 0 == 2 else if cls == 4 then s.proc 2 == 2 else s.grants page) then some (s.emit (.rxFrame n cls l))
  else none

/-- What waits in the receive memory of a port goes to the consumers that take it, in order for each (R315). -/
def rxDrain (n : Nat) (s : State) : State :=
  let r := (s.eth n).rxHold.foldl (fun (a : State × List (Nat × Nat × List Byte)) e =>
    if a.2.any (fun x => x.1 == e.1 && x.2.1 == e.2.1) then (a.1, a.2 ++ [e])
    else
      match a.1.rxGive n e with
      | some t => (t, a.2)
      | none => (a.1, a.2 ++ [e])) (s, [])
  r.1.setEth n { r.1.eth n with rxHold := r.2 }

/-- What waits on all ports goes on, once a consumer takes frames again. -/
def rxDrainAll (s : State) : State := (List.range 4).foldl (fun a n => a.rxDrain n) s

/-- The packet of a received frame: receive descriptor, then the frame without its tag (R317). -/
def rxPacket (s : State) (n cls kind m : Nat) (f : EthFrame) : List Byte :=
  let v := ethView f.bytes
  let l := untag f.bytes
  let tb := s.stampTb n cls v
  let stamp := (s.tb tb).count - W (rxLat n (s.linkFec n))
  let w0 := l.length % 2 ^ 14 + 2 ^ 16 * cls + 2 ^ 20 * m + 2 ^ 24 * kind + 2 ^ 26 * b2n f.frag + 2 ^ 27 * b2n v.tagged
  let w1 := if v.tagged then v.vid + 2 ^ 12 * v.pcp else 0
  leBytes 4 w0 ++ leBytes 4 w1 ++ leBytes 4 stamp.toNat ++ leBytes 4 (tb + 4 * n) ++ List.replicate 16 0 ++ l

/-- A frame is received (R26, R125, R312-R318; R316 for its length and FCS). What a consumer inside the module then does with it is that consumer's own command (log entry 42). -/
def ethRx (n : Nat) (f : EthFrame) (s : State) : State :=
  let v := ethView f.bytes
  let len := f.bytes.length + 4
  if !s.ethUp n then s
  else if len < 64 || (if bit (s.ethCfg n) 2 then 9216 else 1522) < len then s.bump (Reg.ETH.RX_LEN n)
  else if !f.fcsOk then s.bump (Reg.ETH.RX_CRC n)
  else
    match s.ethDest n v.dest with
    | none => s.bump (Reg.ETH.RX_FILTERED n)
    | some (kind, m) =>
      if v.tagged && v.vid != s.ethVid n || !v.tagged && s.ethVid n != 0 then s.bump (Reg.ETH.RX_VLAN n)
      else
        match s.ethClass n v with
        | none => s.bump (Reg.ETH.RX_UNCLAIMED n)
        | some (c, page) =>
          let pkt := s.rxPacket n c kind m f
          let s := s.rxDrain n
          let e := s.eth n
          if rxShare n c < ((e.rxHold.filter (fun x => x.1 == c)).map (fun x => x.2.2.length)).foldl (fun a b => a + b) 0 + pkt.length then
            (s.bump (Reg.ETH.RX_DROP n c)).raise (104 + n) 1
          else ((s.bumpWrap (Reg.ETH.RX_OK n)).setEth n { e with rxHold := e.rxHold ++ [(c, page, pkt)] }).rxDrain n

/-! Transmitting (R126, R319-R321, R324). -/

/-- Host packets that are whole move from the queue to the egress queues (R319, R345). -/
def txPull (n : Nat) : Nat → State → State
  | 0, s => s
  | f + 1, s =>
    let q := 16256 + 2 * n
    let x := s.pq q
    if !s.qmUp || !x.items.any (fun i => itemEop i.item) || x.flush then s
    else
      let p := packetBytes x.items
      let run := x.items.take (x.items.length - (dropPacket (fun i => itemEop i.item) x.items).length)
      let rest := dropPacket (fun i => itemEop i.item) x.items
      let s := s.setPq q { x with items := rest, taken := false, abort := false, head := if rest.isEmpty then 0 else (x.head + run.length) % 31 }
      let w0 := W (leAt p.1 0 4)
      let w1 := W (leAt p.1 4 4)
      let len := fld w0 0 14
      let jumbo := bit (s.ethCfg n) 2
      let rsv := w0 &&& 0xFFE8C000 != 0 || w1 &&& 0xFFFF0000 != 0 || (List.range 6).any (fun i => leAt p.1 (8 + 4 * i) 4 != 0)
      let bad := rsv || len < 14 || (if jumbo then 9212 else 1518) < len || p.1.length != 32 + len || run.any (fun i => itemType i.item == 3)
      let frame : TxFrame :=
        { queue := fld w0 16 3
          body := .host ((p.1.drop 32) ++ List.replicate (60 - len) 0)
          stamp := if bit w0 20 then some (BitVec.ofNat 16 (fld w1 0 16)) else none
          since := s.clock }
      txPull n f
        (if p.2.2 then s else if bad then s.bump (Reg.ETH.TX_BAD n) else s.setEth n { s.eth n with txq := (s.eth n).txq ++ [frame] })

/-- Entry `i` of the operational gate list, and where it starts and ends in the cycle, ns (R322). -/
def gateSpan (s : State) (n i : Nat) : Nat × Nat :=
  let at_ := fun (k : Nat) => (List.range k).foldl (fun a j => a + fld (s.rd (Reg.ETH.GCL_OPER n j)) 8 24) 0
  let cyc := (s.rd (Reg.ETH.OPER_CYCLE n)).toNat
  let len := (s.rd (Reg.ETH.OPER_LEN n)).toNat
  (Nat.min (at_ i) cyc, if len ≤ i + 1 then cyc else Nat.min (at_ (i + 1)) cyc)

/-- Ns for which a queue's gate stays open from entry `i` on, over `f` entries; none if it never closes. -/
def gateOpenFor (s : State) (n q : Nat) : Nat → Nat → Option Nat
  | 0, _ => none
  | f + 1, i =>
    let len := (s.rd (Reg.ETH.OPER_LEN n)).toNat
    let sp := s.gateSpan n i
    if sp.2 == sp.1 || bit (s.rd (Reg.ETH.GCL_OPER n i)) q then
      (gateOpenFor s n q f (if len ≤ i + 1 then 0 else i + 1)).map (fun x => x + (sp.2 - sp.1))
    else some 0

/-- A frame of `ns` on the line can start on a queue under the gates: it ends before they close (R27, R28, R321, R322). -/
def gateFits (s : State) (n q ns : Nat) : Bool :=
  if 2 ≤ n || !bit (s.rd (Reg.ETH.GATE_CTL n)) 0 || s.rd (Reg.ETH.OPER_LEN n) == 0 then true
  else
    let e := s.eth n
    let into := ((s.tb 0).count - e.cyc).toNat - (s.gateSpan n e.gi).1
    match s.gateOpenFor n q ((s.rd (Reg.ETH.OPER_LEN n)).toNat + 1) e.gi with
    | none => true
    | some open_ => into + ns < open_

/-- Time of bytes on the line, ns rounded up (R321). -/
def byteNs (n b : Nat) : Nat := if n < 2 then (b * 32 + 99) / 100 else b * 8

/-- Time on the line of a frame without FCS (R321): preamble and FCS add 12 bytes. -/
def lineNs (n bytes : Nat) : Nat := byteNs n (bytes + 12)

/-- A stamp enters the transmit stamp queue (R126). -/
def tsqPush (n : Nat) (id : BitVec 16) (s : State) : State :=
  let e := s.eth n
  let tb := fld (s.ethCfg n) 0 2
  let stamp := (s.tb tb).count + W (txLat n (s.linkFec n))
  if 16 ≤ e.tsq.length then ((s.wrBit (Reg.ETH.STICKY n) 0 true).bump (Reg.ETH.TSQ_OVF_CNT n)).raise (104 + n) 2
  else s.setEth n { e with tsq := e.tsq ++ [BitVec.ofNat 64 (stamp.toNat + 2 ^ 32 * id.toNat + 2 ^ 48 * tb + 2 ^ 63)] }

/-- A queue of a port is express, or preemption is not active (R324). -/
def express (s : State) (n q : Nat) : Bool := !bit (s.rd (Reg.ETH.LINK_STATUS n)) 5 || bit (s.rd (Reg.ETH.PREEMPT_CFG n)) q

/-- The frame that may start: the head of the highest queue that `may` names and that is eligible (R321). -/
def txPick (s : State) (n : Nat) (may : Nat → Bool) : Option TxFrame :=
  let paused := fld (s.rd (Reg.ETH.PAUSE_STATE n)) 0 8
  ((List.range 8).reverse).findSome? (fun q =>
    match (s.eth n).txq.find? (fun f => f.queue == q) with
    | some f => if may q && !paused.testBit q && s.gateFits n q (lineNs n f.len) then some f else none
    | none => none)

/-- The line takes `bytes` of a frame from now on, after `skip` that it took before; the next frame follows after a gap of 12 bytes (IEEE 802.3, PRESUMED, log entry 120). -/
def lineTake (n : Nat) (f : TxFrame) (skip : Nat) (s : State) : State :=
  s.setEth n { s.eth n with cur := some (f, s.clock, skip), free := s.clock + byteNs n (f.len - skip + 24) }

/-- A Follow_Up carries the stamp that its Sync got as it left (R121, R126). -/
def ptpSent (b : Bool) (m : PtpOut) (s : State) : State :=
  if m.type == 0 then s.ptpQueue b { m with type := 8, twoStep := false, time := some (s.ptpTime b + txLat m.port (s.linkFec m.port)) } else s

/-- A frame starts on the line (R319-R321). -/
def txStart (n : Nat) (f : TxFrame) (s : State) : State :=
  let s := (s.setEth n { s.eth n with txq := (s.eth n).txq.erase f }).lineTake n f 0
  let s := match f.stamp with | some id => s.tsqPush n id | none => s
  let s := s.bumpWrap (Reg.ETH.TX_OK n)
  match f.body with
  | .host l => s.emit (.eth n 0 (l ++ leBytes 4 (Crypto.crc32 l).toNat))
  | .own e _ =>
    let s := s.emit e
    match e with
    | .ptp b m => s.ptpSent b m
    | _ => s

/-- The remainder of a preempted frame goes on (R324). -/
def txResume (n : Nat) (f : TxFrame) (skip : Nat) (s : State) : State :=
  let s := (s.setEth n { s.eth n with left := none }).lineTake n f skip
  match f.body with
  | .host l => s.emit (.eth n skip ((l ++ leBytes 4 (Crypto.crc32 l).toNat).drop skip))
  | .own _ _ => s

/-- Bytes of the frame on the line that are gone if it is cut now, none where it cannot be: the fragment has at least 64 x (1 + ADD_FRAG) bytes with its check sum, and 64 are left (R324;
IEEE 802.3br, PRESUMED, log entry 120). -/
def txCut (s : State) (n : Nat) : Option (TxFrame × Nat) :=
  match (s.eth n).cur with
  | none => none
  | some (f, t, skip) =>
    let done := (s.clock - t) / 8 - 8
    if !s.express n f.queue && 64 * (1 + fld (s.rd (Reg.ETH.PREEMPT_CFG n)) 10 2) ≤ done + 4 && skip + done + 60 ≤ f.len then some (f, skip + done) else none

/-- The MAC starts the next frame, if it can (R321, R324): on a free line the highest eligible queue, before the remainder of a preempted frame an express one only; on a busy line an
express frame that interrupts a preemptable one. -/
def ethTx (n : Nat) (s : State) : State :=
  if !s.ethUp n || s.sfpTxOff n then s
  else
    let s := s.txPull n ((s.pq (16256 + 2 * n)).items.length)
    let e := s.eth n
    if s.clock < e.free then
      match (if e.left.isSome then none else s.txCut n), s.txPick n (s.express n) with
      | some (f, skip), some g => ((s.setEth n { e with left := some (f, skip) }).bump (Reg.ETH.TX_PREEMPTED n)).txStart n g
      | _, _ => s
    else
      match e.left with
      | none => match s.txPick n (fun _ => true) with | some f => s.txStart n f | none => s
      | some (f, skip) =>
        match s.txPick n (s.express n) with
        | some g => s.txStart n g
        | none => if bit (s.rd (Reg.ETH.PAUSE_STATE n)) f.queue then s else s.txResume n f skip

/-- A read of TSQ_HI removes the oldest entry (R126). -/
def tsqPop (n : Nat) (s : State) : State := s.setEth n { s.eth n with tsq := (s.eth n).tsq.drop 1 }

/-- The oldest entry, 0 where there is none. -/
def tsqHead (s : State) (n : Nat) : Nat := ((s.eth n).tsq.headD 0).toNat

/-! Link, SFP, gates, preemption, pause, wake. -/

/-- PREEMPT_ACTIVE and VERIFY follow ENABLE and VERIFY_DIS while the link is up (R324). -/
def preemptStart (n : Nat) (s : State) : State :=
  if n < 2 then s
  else
    let c := s.rd (Reg.ETH.PREEMPT_CFG n)
    let on := bit c 8 && s.linkUp n
    let s := s.setEth n { s.eth n with verify := 0 }
    let s := s.wr (Reg.ETH.PREEMPT_STATUS n) (W (if on && !bit c 9 then 1 else 0))
    s.wrBit (Reg.ETH.LINK_STATUS n) 5 (on && bit c 9)

/-- A link that the port can have (R310, R327, R330): 25 Gbit/s with the FEC of CFG on ETH0 and ETH1; on ETH2 and ETH3 1,000 Mbit/s, and 100 Mbit/s in DOZE. -/
def linkCan (s : State) (n speed : Nat) (fec : Bool) : Bool :=
  if n < 2 then speed == 1 && fec == (fld (s.ethCfg n) 6 2 == 1) else speed == (if s.mode == .doze then 3 else 2)

/-- The link changes (R310): a loss is a loss of the path. -/
def linkChange (n : Nat) (up : Bool) (speed : Nat) (fec : Bool) (s : State) : State :=
  if !s.reach (104 + n) || s.code (104 + n) == 0 then s
  else
    let up := up && s.linkCan n speed fec
    let was := s.linkUp n
    let s := s.wr (Reg.ETH.LINK_STATUS n) (W (if up then 1 + 2 * speed + 16 * b2n (fec && n < 2) else 0))
    let s := s.setEth n { s.eth n with cur := none, left := none }
    let s := (s.preemptStart n).raise (104 + n) 0
    if was && !up && s.mode != .doze then s.blockFault (104 + n) else if up then s.closeWindow (104 + n) else s

/-- GATE_CMD.APPLY (R322, R323). -/
def gateApply (n : Nat) (s : State) : State :=
  let cyc := (s.rd (Reg.ETH.ADMIN_CYCLE n)).toNat
  let len := (s.rd (Reg.ETH.ADMIN_LEN n)).toNat
  if 2 ≤ n || cyc < 1000 || 1000000000 < cyc || len < 1 || 64 < len then s.err (104 + n)
  else
    let base := s.rd (Reg.ETH.ADMIN_BASE n)
    let now := (s.tb 0).count
    let late := serialLt base now
    let eff := if late then base + W (((now - base).toNat + cyc - 1) / cyc * cyc) else base
    let l : GateList := { base := eff, cycle := cyc, entries := (List.range len).map (fun i => s.rd (Reg.ETH.GCL_ADMIN n i)) }
    (s.setEth n { s.eth n with pend := some l }).wr (Reg.ETH.GATE_STATUS n) (W (1 + 2 * b2n late))

/-- The pending list becomes operational (R323). -/
def gateSwitch (n : Nat) (s : State) : State :=
  match (s.eth n).pend with
  | none => s
  | some l =>
    if serialLt (s.tb 0).count l.base then s
    else
      let s := s.setEth n { s.eth n with pend := none, cyc := l.base, gi := 0 }
      let s := ((s.wr (Reg.ETH.OPER_BASE n) l.base).wr (Reg.ETH.OPER_CYCLE n) (W l.cycle)).wr (Reg.ETH.OPER_LEN n) (W l.entries.length)
      let s := (List.range 64).foldl (fun a i => a.wr (Reg.ETH.GCL_OPER n i) (l.entries.getD i 0)) s
      (s.wrBit (Reg.ETH.GATE_STATUS n) 0 false).raise (104 + n) 5

/-- An entry's interval ends (R322): the next entry of the cycle that has any time, or the next cycle. -/
def gateNext (n : Nat) (s : State) : State :=
  let e := s.eth n
  let len := (s.rd (Reg.ETH.OPER_LEN n)).toNat
  if len == 0 then s
  else
    match (List.range len).find? (fun i => e.gi < i && (s.gateSpan n i).1 < (s.gateSpan n i).2) with
    | some i => s.setEth n { e with gi := i }
    | none => s.setEth n { e with gi := 0, cyc := e.cyc + s.rd (Reg.ETH.OPER_CYCLE n) }

/-- A verify exchange ends (R324): the partner has answered, or VERIFY_TIME has passed; after three without an answer it has failed. -/
def preemptVerify (n : Nat) (ok : Bool) (ms : Nat) (s : State) : State :=
  if n < 2 || fld (s.rd (Reg.ETH.PREEMPT_STATUS n)) 0 2 != 1 || (!ok && ms < clampN 1 128 (fld (s.rd (Reg.ETH.PREEMPT_CFG n)) 16 8)) then s
  else
    let e := s.eth n
    let s := s.setEth n { e with verify := e.verify + 1 }
    let s := if ok then (s.wr (Reg.ETH.PREEMPT_STATUS n) 2).wrBit (Reg.ETH.LINK_STATUS n) 5 true
      else if 3 ≤ e.verify + 1 then s.wr (Reg.ETH.PREEMPT_STATUS n) 3 else s
    s.raise (104 + n) 6

/-- The watchdog lets a queue obey pause frames (R326). -/
def pauseObeys (s : State) (n q : Nat) : Bool := !(s.eth n).ign.any (fun e => e.1 == q && s.clock < e.2)

/-- A queue pauses for a time, its pause moves, or it ends (R325, R326). -/
def pauseQueue (n ns q : Nat) (s : State) : State :=
  let e := s.eth n
  let since := match e.paused.find? (fun p => p.1 == q) with | some p => p.2.1 | none => s.clock
  let rest := e.paused.filter (fun p => p.1 != q)
  (s.setEth n { e with paused := if ns == 0 then rest else rest ++ [(q, since, s.clock + ns)] }).wrBit (Reg.ETH.PAUSE_STATE n) q (ns != 0)

/-- Queues pause for quanta of 512 bit times, or run again where the quanta are 0 (R325). -/
def pauseQueues (n : Nat) (qs : List Nat) (quanta : Nat) (s : State) : State :=
  (qs.filter (fun q => s.pauseObeys n q)).foldl (fun a q => a.pauseQueue n (byteNs n (64 * quanta)) q) s

/-- A PAUSE frame (R325). -/
def pauseRx (n quanta : Nat) (s : State) : State :=
  if !s.ethUp n then s
  else
    let s := s.bump (Reg.ETH.PAUSE_RX n)
    if bit (s.rd (Reg.ETH.PAUSE_CFG n)) 0 then s.pauseQueues n (List.range 8) quanta else s

/-- A PFC frame (R325). -/
def pfcRx (n en quanta : Nat) (s : State) : State :=
  if !s.ethUp n then s
  else
    let s := s.bump (Reg.ETH.PAUSE_RX n)
    let ps := (bitsOf en 8).filter (fun p => bit (s.rd (Reg.ETH.PAUSE_CFG n)) (8 + p))
    s.pauseQueues n (ps.map (fun p => fld (s.rd (Reg.ETH.PFC_MAP n)) (3 * p) 3)) quanta

/-- The quanta of a pause have passed (R325). -/
def pauseOver (n q : Nat) (s : State) : State :=
  if (s.eth n).paused.any (fun p => p.1 == q && p.2.2 ≤ s.clock) then s.pauseQueue n 0 q else s

/-- WD_LIMIT of a port, ns (R330). -/
def pauseLimit (s : State) (n : Nat) : Nat := clampN 1 1000 (fld (s.rd (Reg.ETH.PAUSE_CFG n)) 16 16) * 1000000

/-- Ns for which a queue has been paused while it held a frame (R326). -/
def pausedFor (s : State) (n q : Nat) : Nat :=
  match (s.eth n).paused.find? (fun p => p.1 == q), (s.eth n).txq.find? (fun f => f.queue == q) with
  | some p, some f => s.clock - Nat.max p.2.1 f.since
  | _, _ => 0

/-- The pause watchdog fires on a queue that has been paused for WD_LIMIT while it held a frame (R326). -/
def pauseDog (n q : Nat) (s : State) : State :=
  if s.pausedFor n q < s.pauseLimit n then s
  else
    let e := s.eth n
    let s := s.setEth n { e with ign := e.ign.filter (fun x => x.1 != q) ++ [(q, s.clock + s.pauseLimit n)] }
    ((s.pauseQueue n 0 q).bump (Reg.ETH.PAUSE_BREAK n)).raise (104 + n) 3

/-- The rules that a frame meets, as bits (R327): magic packet, datagram to WAKE_PORT, and ARP request or neighbour solicitation for the port's address. -/
def wakeRules (s : State) (n : Nat) (l : List Byte) : Nat :=
  let v := ethView l
  let mac := beBytes 6 (s.ethMac n).toNat
  let magic := List.replicate 6 0xFF ++ (List.replicate 16 mac).flatten
  let udp := match udpView v with
    | some u => v.dest == (s.ethMac n).toNat && s.ethHears n u.1 u.2.1 && u.2.2.1 == fld (s.rd (Reg.ETH.WAKE_CFG n)) 16 16
    | none => false
  let arp := v.type == 0x0806 && beAt v.rest 6 2 == 1 && s.ethHears n false (BitVec.ofNat 128 (beAt v.rest 24 4))
  let ns := match ipView v with
    | some i => i.v6 && i.proto == 58 && byteAt i.body 0 == 135 && s.ethHears n true (BitVec.ofNat 128 (beAt i.body 8 16))
    | none => false
  b2n ((List.range l.length).any (fun k => (l.drop k).take 102 == magic)) + 2 * b2n udp + 4 * b2n (arp || ns)

/-- A good frame comes in DOZE and is compared with the enabled rules (R54, R327). -/
def wakeMatch (n : Nat) (f : EthFrame) (s : State) : State :=
  let hit := s.wakeRules n f.bytes &&& fld (s.rd (Reg.ETH.WAKE_CFG n)) 0 3
  if n < 2 || s.mode != .doze || !s.up (104 + n) || !s.linkUp n || !f.fcsOk || hit == 0 || !bit (s.rd Reg.SYS.WAKE_EN) (2 + n) then s
  else ((s.wr (Reg.ETH.WAKE_STATUS n) (W hit)).bump (Reg.ETH.WAKES n)).wakeDoze (some (2 + n))

/-! The ST 2022-7 merge (R328, R329). -/

/-- A merged stream. -/
def edup (s : State) (k : Nat) : EdupSt := Sparse.get (fun _ => EdupSt.init) s.edups k

/-- A merged stream takes a value. -/
def setEdup (k : Nat) (e : EdupSt) (s : State) : State := { s with edups := Sparse.set (fun _ => EdupSt.init) s.edups k e }

/-- SKEW_WIN, ns. -/
def skewWin (s : State) : Nat := clampN 100 50000 (fld (s.rd Reg.EDUP.SKEW_WIN) 0 16) * 1000

/-- A packet is delivered to VIN: its number joins the record. -/
def edupDeliver (k : Nat) (path : EdupPath) (p : VinPacket) (s : State) : State :=
  let s := s.bumpWrap (match path with | .a => Reg.EDUP.S_PKT_A k | .b => Reg.EDUP.S_PKT_B k)
  s.vinPacket k p

/-- A packet above H: H moves, and numbers leave the record, of which those since the first packet that were not delivered are lost (R328, R329). -/
def edupAbove (k : Nat) (path : EdupPath) (p : VinPacket) (s : State) : State :=
  let e := s.edup k
  let floor := p.seq - 65535
  let low := match e.high with | some _ => e.low | none => p.seq
  let newLow := if serialLt low floor then floor else low
  let gone := e.done.filter (fun d => serialLt d.1 newLow && !serialLt d.1 low)
  let lost := (newLow - low).toNat - gone.length
  let s := if lost == 0 then s else s.wr (Reg.VIN.S_PKT_LOST k) (satAdd (s.rd (Reg.VIN.S_PKT_LOST k)) lost)
  let s := s.setEdup k { e with high := some p.seq, low := newLow, done := (p.seq, s.clock) :: e.done.filter (fun d => !serialLt d.1 floor) }
  let s := s.wr (Reg.EDUP.S_HIGH k) p.seq
  -- what EDUP passes over is not lost to VIN yet
  (s.setVin k { s.vin k with lastSeq := some (p.seq - 1) }).edupDeliver k path p

/-- A packet at or below H that has not been delivered (R328): the record reaches 65,536 numbers down from H, also below the first packet of the stream. -/
def edupBelow (k : Nat) (path : EdupPath) (p : VinPacket) (h : Word) (s : State) : State :=
  let e := s.edup k
  let above := (e.done.filter (fun d => serialLt p.seq d.1)).map (fun d => d.2)
  let first := above.foldl Nat.min s.clock
  if !serialLt p.seq (h - 65535) && s.clock - first < s.skewWin then
    (s.setEdup k { e with done := e.done ++ [(p.seq, s.clock)] }).edupDeliver k path p
  else (s.bump (Reg.EDUP.S_LATE k)).raise 108 2

/-- The recovery window of a path loss ends once no enabled merged stream has a path down (R31). -/
def edupBack (s : State) : State :=
  if (List.range 8).any (fun k => let c := s.rd (Reg.VIN.S_CTL k); bit c 0 && fld c 1 2 == 2 && fld (s.rd (Reg.EDUP.S_PATH k)) 0 2 != 3) then s else s.closeWindow 108

/-- A copy of a packet arrives on a path (R328, R329). -/
def edupRx (k : Nat) (path : EdupPath) (p : VinPacket) (s : State) : State :=
  let c := s.rd (Reg.VIN.S_CTL k)
  if !s.up 108 || !bit c 0 || fld c 1 2 != 2 then s
  else
    let b := match path with | .a => 0 | .b => 1
    let s := if bit (s.rd (Reg.EDUP.S_PATH k)) b then s else (s.wrBit (Reg.EDUP.S_PATH k) b true).raise 108 1 |>.edupBack
    let e := s.edup k
    match e.high with
    | none => s.edupAbove k path p
    | some h =>
      if serialLt h p.seq then s.edupAbove k path p
      else if e.done.any (fun d => d.1 == p.seq) then s.bumpWrap (Reg.EDUP.S_DUP k)
      else s.edupBelow k path p h

/-- A path of a stream has been silent for 100 ms (R31, R329). -/
def edupLost (k : Nat) (path : EdupPath) (s : State) : State :=
  let b := match path with | .a => 0 | .b => 1
  if bit (s.rd (Reg.EDUP.S_PATH k)) b then ((s.wrBit (Reg.EDUP.S_PATH k) b false).raise 108 0).pathLost 108 else s

/-- The skew of the last second (R329). -/
def edupSkew (k : Nat) (skew : Int) (s : State) : State :=
  let c := s.rd (Reg.VIN.S_CTL k)
  if !s.up 108 || !bit c 0 || fld c 1 2 != 2 then s
  else
    let e := s.edup k
    let win := s.skewWin / 1000
    let s := s.wr (Reg.EDUP.S_SKEW k) (BitVec.ofInt 32 skew)
    if win < 2 * skew.natAbs && !e.skewHigh then (s.setEdup k { e with skewHigh := true }).raise 108 3
    else if 4 * skew.natAbs < win then s.setEdup k { e with skewHigh := false }
    else s

end State

/-- HOST_RX_FILL (R346). -/
def execHostRxFill (h : Fin 4) (s : State) : Out :=
  .next ((s.rxFill h.val).rxDrain h.val)

/-- ETH_LINK_CHANGE (R310). -/
def execEthLinkChange (n : Fin 4) (up : Bool) (speed : BitVec 3) (fec : Bool) (s : State) : Out := .next (s.linkChange n.val up speed.toNat fec)

/-- ETH_FRAME_RX (R314). -/
def execEthFrameRx (n : Fin 4) (f : EthFrame) (s : State) : Out := .next (s.ethRx n.val f)

/-- ETH_FRAME_TX (R321). -/
def execEthFrameTx (n : Fin 4) (s : State) : Out := .next (s.ethTx n.val)

/-- TSQ_POP (R126): a read of TSQ_HI. -/
def execTsqPop (r : Requester) (n : Fin 4) (s : State) : Out :=
  .next (s.readAccess r (Reg.ETH.TSQ_HI n.val) (W (s.tsqHead n.val / 2 ^ 32)) (State.tsqPop n.val))

/-- SFP_INSERT (R311): FP reads the identifier of a module in the cage, if it runs. -/
def execSfpInsert (n : Fin 2) (idOk diag : Bool) (s : State) : Out :=
  .next (if s.reach (104 + n.val) then
      (s.wr (Reg.ETH.SFP_STATUS n.val) (W (if s.proc 2 == 2 then 1 + 4 * b2n idOk + 8 * b2n diag else 1))).raise (104 + n.val) 4
    else s)

/-- SFP_REMOVE (R311). -/
def execSfpRemove (n : Fin 2) (s : State) : Out :=
  .next (if s.reach (104 + n.val) then
      ((((s.wr (Reg.ETH.SFP_STATUS n.val) 0).wr (Reg.ETH.SFP_DIAG0 n.val) 0).wr (Reg.ETH.SFP_DIAG1 n.val) 0).wr (Reg.ETH.SFP_DIAG2 n.val) 0).raise (104 + n.val) 4
    else s)

/-- SFP_TX_FAULT (R311): TX_DISABLE is asserted. -/
def execSfpTxFault (n : Fin 2) (s : State) : Out :=
  .next (if s.reach (104 + n.val) && bit (s.rd (Reg.ETH.SFP_STATUS n.val)) 0 then (s.wrBit (Reg.ETH.SFP_STATUS n.val) 1 true).raise (104 + n.val) 4 else s)

/-- SFP_DIAG_POLL (R311). -/
def execSfpDiagPoll (n : Fin 2) (d0 d1 d2 : Word) (s : State) : Out :=
  .next (let on := fld (s.rd (Reg.ETH.SFP_STATUS n.val)) 0 4 &&& 9 == 9
    if s.proc 2 != 2 || s.mode == .doze then s
    else ((s.wr (Reg.ETH.SFP_DIAG0 n.val) (if on then d0 else 0)).wr (Reg.ETH.SFP_DIAG1 n.val) (if on then d1 else 0)).wr (Reg.ETH.SFP_DIAG2 n.val)
      (if on then d2 &&& 0xFFFF else 0))

/-- GATE_APPLY (R323). -/
def execGateApply (r : Requester) (n : Fin 4) (s : State) : Out := .next (s.access r (Reg.ETH.GATE_CMD n.val) 1 (State.gateApply n.val))

/-- GATE_LIST_SWITCH (R323). -/
def execGateListSwitch (n : Fin 2) (s : State) : Out := .next (s.gateSwitch n.val)

/-- GATE_INTERVAL_END (R322). -/
def execGateIntervalEnd (n : Fin 2) (s : State) : Out := .next (s.gateNext n.val)

/-- PREEMPT_VERIFY (R324). -/
def execPreemptVerify (n : Fin 4) (ok : Bool) (ms : Nat) (s : State) : Out := .next (s.preemptVerify n.val ok ms)

/-- PAUSE_RX (R325). -/
def execPauseRx (n : Fin 4) (quanta : BitVec 16) (s : State) : Out := .next (s.pauseRx n.val quanta.toNat)

/-- PFC_RX (R325). -/
def execPfcRx (n : Fin 4) (en : BitVec 8) (quanta : BitVec 16) (s : State) : Out := .next (s.pfcRx n.val en.toNat quanta.toNat)

/-- PAUSE_EXPIRE (R325). -/
def execPauseExpire (n : Fin 4) (q : Fin 8) (s : State) : Out := .next (s.pauseOver n.val q.val)

/-- PAUSE_WATCHDOG (R326). -/
def execPauseWatchdog (n : Fin 4) (q : Fin 8) (s : State) : Out := .next (s.pauseDog n.val q.val)

/-- WAKE_MATCH_RX (R327). -/
def execWakeMatchRx (n : Fin 4) (f : EthFrame) (s : State) : Out := .next (s.wakeMatch n.val f)

/-- EDUP_PACKET_RX (R328). -/
def execEdupPacketRx (k : Fin 8) (path : EdupPath) (p : VinPacket) (s : State) : Out := .next (s.edupRx k.val path p)

/-- EDUP_PATH_LOST (R329). -/
def execEdupPathLost (k : Fin 8) (path : EdupPath) (s : State) : Out := .next (s.edupLost k.val path)

/-- EDUP_SKEW_UPDATE (R329). -/
def execEdupSkewUpdate (k : Fin 8) (skew : Int) (s : State) : Out := .next (s.edupSkew k.val skew)

end Sys2Proof.Machine
end

