-- ==== Sys2Proof/Machine/Radio.lean ====
section
/-!
DEFINITION. The Tulle radio: channels and air time (R350-R355, R371), beacons (R358), joining (R359), connections, drift and guard time (R360-R366), the module as a
member (R367, R368), the RAD and RFE pages (R373-R375). TULLE_FLEET_RX stands in Fleet.lean, because it hands a record to FP.
-/
namespace Sys2Proof.Machine

namespace State

/-- RAD at work with RP running (R13, R358). -/
def rpUp (s : State) : Bool := s.up 112 && s.proc 3 == 2

/-- The extended TB3 of a moment at which the module stands; in DOZE, where TB3 stands still, that of the last beacon (R120, R370). -/
def radNow (s : State) : Int := if s.mode == .doze then s.radio.last else (s.tb 3).ext

/-- The extended TB3 of a TB3 stamp near that moment. -/
def radStamp (s : State) (w : Word) : Int :=
  if s.mode == .doze then s.radNow - (BitVec.ofInt 32 s.radNow - w).toInt else s.radNow - ((s.tb 3).count - w).toInt

/-! Channels, rates and air time. -/

/-- Number of channels (R351, R375). -/
def radCount (s : State) : Nat := clampN 1 64 (fld (s.rd Reg.RFE.SPACING) 16 7)

/-- The channels of a map, in ascending order (R351). -/
def mapChans (s : State) (m : BitVec 64) : List Nat := bitsOf m.toNat s.radCount

/-- The channel of connection event `n` (R352). -/
def eventChan (s : State) (m : BitVec 64) (n seed : Nat) : Nat :=
  let l := s.mapChans m
  l.getD ((n * 37 + seed) % l.length) 0

/-- The network channel map (R373). -/
def chMap (s : State) : BitVec 64 := BitVec.ofNat 64 ((s.rd Reg.RAD.CHMAP_LO).toNat + 2 ^ 32 * (s.rd Reg.RAD.CHMAP_HI).toNat)

/-- BEACON_CH. -/
def beaconCh (s : State) : Nat := fld (s.rd Reg.RAD.BEACON_CH) 0 6

/-- O-QPSK at 2.4 GHz (R350). -/
def oqpsk (s : State) : Bool := bit (s.rd Reg.RFE.BAND_CFG) 0

/-- The bit rate, kbit/s (R350, R375). -/
def radRate (s : State) : Nat := if s.oqpsk then 250 else 50 * (fld (s.rd Reg.RFE.BAND_CFG) 2 2 + 1)

/-- Preamble octets of an ordinary frame (R355, R375). -/
def radPreamble (s : State) : Nat := if s.oqpsk then 4 else clampN 8 1000 (fld (s.rd Reg.RFE.BAND_CFG) 4 12)

/-- Air time of a number of octets, ns. -/
def octetNs (s : State) (n : Nat) : Nat := n * 8000000 / s.radRate

/-- Octets of a frame around its PSDU (R355): preamble, SFD and PHR. -/
def phyOctets (s : State) (pre : Nat) : Nat := pre + if s.oqpsk then 2 else 4

/-- Air time of a frame with MAC payload `bytes` (DESIGN CHOICE, log entry 43). -/
def frameNs (s : State) (pre : Nat) (bytes : List Byte) : Nat :=
  s.octetNs (s.phyOctets pre + (Config.macOctets (byteAt bytes 0)).val + bytes.length)

/-- Air time of an Enh-Ack (DESIGN CHOICE, log entry 43). -/
def ackNs (s : State) : Nat := s.octetNs (s.phyOctets s.radPreamble + (Config.macOctets 0).val)

/-- Air time of a WAKE frame (R355). -/
def wakeNs (s : State) : Nat := s.octetNs (s.phyOctets s.radPreamble + 12)

/-- Air time over the last 3,600 s, ns (R371). -/
def airUsed (s : State) : Nat := ((s.radio.air.filter (fun e => s.clock < e.1 + 3600000000000)).map (fun e => e.2)).foldl (· + ·) 0

/-- DUTY_USED, in 0.01 % (R375). -/
def dutyUsed (s : State) : Nat := s.airUsed / 360000000

/-- The module transmits for a time, ns, after what it transmits already (R369, R371). -/
def spendAir (ns : Nat) (s : State) : State :=
  { s with radio := { s.radio with air := s.radio.air.filter (fun e => s.clock < e.1 + 3600000000000) ++ [(s.clock, ns)], txEnd := Nat.max s.clock s.radio.txEnd + ns } }

/-- TX_POWER, and what the front end shows while the module transmits (R350, R375). -/
def radPhy (s : State) : RadPhy :=
  { power := clampI (-20) 14 (sfld (s.rd Reg.RFE.TX_POWER) 0 6), fem := fld (s.rd Reg.RFE.FEM_TX) 0 6, lead := fld (s.rd Reg.RFE.FEM_LEAD) 0 8 }

/-- A frame leaves on a channel, with its preamble and the WAKE frames before it (R352-R361). -/
def radioOut (ch : Nat) (dst : RadioDst) (pre : Nat) (wakes : List Nat) (f : List Byte) (s : State) : State :=
  (s.emit (.radio s.radPhy ch dst pre wakes f)).spendAir (s.frameNs pre f + wakes.length * s.wakeNs)

/-- A transmission fits DUTY_LIMIT (R371). -/
def dutyFits (s : State) (ns : Nat) : Bool :=
  let l := fld (s.rd Reg.RFE.DUTY_LIMIT) 0 14
  l == 0 || s.airUsed + ns ≤ l * 360000000

/-- A transmission to child k waits for DUTY_LIMIT (R371). -/
def dutyWait (k : Nat) (s : State) : State :=
  if s.radio.waits.contains k then s
  else ({ s with radio := { s.radio with waits := s.radio.waits ++ [k] } }.bump Reg.RFE.DUTY_DEFER).raise 113 3

/-- A CCA reports busy at a channel energy at or above THRESH, signed dBm (R371). -/
def ccaBusy (s : State) (energy : BitVec 8) : Bool := sfld (s.rd Reg.RFE.CCA_CFG) 0 8 ≤ energy.toInt

/-- A CCA finds the channel busy or free (R371). -/
def cca (busy : Bool) (s : State) : State :=
  if !busy then { s with radio := { s.radio with busyRun := 0 } }
  else
    let s := { s with radio := { s.radio with busyRun := s.radio.busyRun + 1 } }.bump Reg.RFE.CCA_BUSY
    if s.radio.busyRun == 16 then { s with radio := { s.radio with busyRun := 0 } }.raise 113 2 else s

/-! Beacons (R354, R358). -/

/-- The beacon interval, ns (R373). -/
def beaconNs (s : State) : Nat := clampN 250 60000 (fld (s.rd Reg.RAD.BEACON_CFG) 0 16) * 1000000

/-- STATE of the member side (R367). -/
def memberSt (s : State) : Nat := fld (s.rd Reg.RAD.MEMBER_STATUS) 0 3

/-- The payload that RP writes as template, TIME and BCAST_PEND left 0 (R354). -/
def radTemplate (s : State) : List Byte :=
  let doze := s.mode == .doze
  let flags := b2n doze + 2 * fld (s.rd Reg.RAD.JOIN_CFG) 0 1 + 4 * b2n s.radio.chChange
  let depth := if s.memberSt == 3 || s.memberSt == 4 then s.member.depth + 1 else 0
  let cfg := s.rd Reg.RAD.BEACON_CFG
  leBytes 1 1 ++ leBytes 1 1 ++ leBytes 1 flags ++ leBytes 1 depth ++ leBytes 4 0 ++ leBytes 2 (s.beaconNs / 1000000) ++
    leBytes 2 (if doze then clampN 10 1000 (fld cfg 16 16) else 0) ++ leBytes 8 s.chMap.toNat ++ leBytes 4 0

/-- The template with TIME and BCAST_PEND. -/
def beaconBytes (t : List Byte) (time : Nat) (pend : Nat) : List Byte := t.take 4 ++ leBytes 4 time ++ (t.drop 8).take 12 ++ leBytes 1 pend ++ t.drop 21

/-- The grid starts at the latest moment at which TB3 read BEACON_BASE (R358; DEDUCED, log entry 45). -/
def beaconGrid (s : State) : State :=
  let base := s.radNow - ((BitVec.ofInt 32 s.radNow - s.rd Reg.RAD.BEACON_BASE).toNat : Int)
  { s with radio := { s.radio with next := base + (((s.radNow - base) / s.beaconNs) + 1) * s.beaconNs } }

/-- RP writes the template while it runs (R358). -/
def writeTemplate (s : State) : State := if s.proc 3 == 2 then { s with radio := { s.radio with tmpl := s.radTemplate } } else s

/-- The synthesiser that unlocked may have locked again (R358 gives no time for it; DEDUCED, log entry 45). -/
def synthTry (s : State) : State :=
  if s.radio.unlocked then { s with radio := { s.radio with unlocked := bit s.freeW 0 } }.useFree else s

/-- A broadcast frame follows a beacon (R354). -/
def sendBroadcast (f : List Byte) (s : State) : State := s.radioOut s.beaconCh (.short 0xFFFF) s.radPreamble [] f

/-- A grid point is reached: the beacon is sent, or skipped (R355, R358, R369, R370). -/
def beaconSend (s : State) : State :=
  if !s.up 112 || !bit (s.rd Reg.RAD.NET_CFG) 16 then s
  else
    let s := s.synthTry.writeTemplate
    let at_ := if s.mode == .doze then s.radio.next else s.radNow
    let s := { s with radio := { s.radio with next := s.radio.next + s.beaconNs } }
    if s.radio.unlocked || !s.isReady 113 || s.radio.tmpl.isEmpty then (s.bump Reg.RAD.BEACON_SKIP).raise 112 7
    else
      let now := s.radio.bcast.take 15
      let bytes := beaconBytes s.radio.tmpl ((BitVec.ofInt 32 at_).toNat) now.length
      let ns := s.frameNs s.radPreamble bytes
      let permit := bit (W (byteAt bytes 2)) 1
      let s := s.radioOut s.beaconCh (.beacon permit) s.radPreamble [] bytes
      let s := { s with radio := { s.radio with last := at_, lastEnd := at_ + ns, bcast := s.radio.bcast.drop 15, joinOpen := permit
                                                chChange := s.radio.chChange && !bit (W (byteAt bytes 2)) 2 } }.bumpWrap Reg.RAD.BEACONS_TX
      now.foldl (fun a f => a.sendBroadcast f) s

/-! Children (R359-R366). -/

/-- Child k, if it is connected. -/
def child (s : State) (k : Nat) : Option Child := Sparse.get (fun _ => Child.none) s.children k

/-- A connected child takes a value; its pending bit follows its queue (R357, R374). -/
def setChild (k : Nat) (c : Child) (s : State) : State :=
  { s with children := Sparse.set (fun _ => Child.none) s.children k (some c) }.wrBit (Reg.RAD.PEND_MAP (k / 32)) (k % 32) (!c.q.isEmpty)

/-- The short address of child k (R357, R373). -/
def childAddr (s : State) (k : Nat) : Nat := fld (s.rd Reg.RAD.CHILD_BASE) 0 16 + k

end State

/-- The fit of R362: RATE, resolved to 0.1 ppm, the offset at event 0 in ns, and SIGMA; none with fewer than 2 measurements of different events. -/
def driftFit (c : Child) : Option (Rat × Rat × Rat) :=
  let step : Rat := c.sample * 1000000
  let m : Rat := c.meas.length
  let xs := c.meas.map (fun e => (e.1 : Rat) * step)
  let ys := c.meas.map (fun e => (e.2 : Rat))
  let mx := xs.foldl (· + ·) 0 / m
  let my := ys.foldl (· + ·) 0 / m
  let sxx := (xs.map (fun x => (x - mx) * (x - mx))).foldl (· + ·) 0
  let sxy := ((xs.zip ys).map (fun e => (e.1 - mx) * (e.2 - my))).foldl (· + ·) 0
  if c.meas.length < 2 || sxx == 0 then none
  else
    let b := sxy / sxx
    let a := my - b * mx
    let sse := ((xs.zip ys).map (fun e => (e.2 - a - b * e.1) * (e.2 - a - b * e.1))).foldl (· + ·) 0
    let sigma := match c.meas with
      | [e1, e2] => Config.sigmaOfTwo e1 e2
      | _ => rootQ (sse / (m - 2) / sxx)
    let r := roundEven (b * 10000000).num (b * 10000000).den
    some ((r : Rat) / 10000000, a, sigma)

/-- RATE and the offset at event 0 that a prediction uses: with one measurement its own offset, with none nothing (R362). -/
def driftLine (c : Child) : Rat × Rat :=
  match driftFit c, c.meas with
  | some f, _ => (f.1, f.2.1)
  | none, e :: _ => (0, e.2)
  | none, [] => (0, 0)

/-- The predicted start of event `n`, extended TB3 in ns (R362). -/
def predict (c : Child) (n : Int) : Rat :=
  let l := driftLine c
  c.anchor + n * (c.sample * 1000000 : Nat) * (1 + l.1) + l.2

/-- The last event whose predicted start is at or before a moment; negative before event 0 (R360). -/
def eventAt (c : Child) (t : Rat) : Int :=
  let l := driftLine c
  ((t - c.anchor - l.2) / ((c.sample * 1000000 : Nat) * (1 + l.1))).floor

/-- The event that starts nearest to a moment. -/
def eventNear (c : Child) (t : Rat) : Int := eventAt c (t + (c.sample * 500000 : Nat))

/-- The event that a 32-bit EVENT names, near a moment (R360). -/
def eventNamed (c : Child) (t : Rat) (w : Word) : Int := let n := eventAt c t; n - (BitVec.ofInt 32 n - w).toInt

namespace State

/-- U for an event at `t`, ns; none while it is unbounded (R363). -/
def guardU (s : State) (c : Child) (t : Rat) : Option Rat :=
  match driftFit c with
  | some f =>
    let d := if t < c.measAt then 0 else t - c.measAt
    let sig := if f.2.2 < 0 then -f.2.2 else f.2.2
    some (32000 + (sig + (fld (s.rd Reg.RAD.GUARD_CFG) 16 8 : Nat) / 10000000) * d)
  | none => none

/-- G_max, ns (R363; DEDUCED, log entry 45 for O-QPSK). -/
def guardMax (s : State) : Nat :=
  Nat.min (clampN 1 500 (fld (s.rd Reg.RAD.GUARD_CFG) 0 9) * 100000) ((s.octetNs 1000 - 2000000) / 2)

/-- G, ns: U rounded up to 100 us (R363). -/
def guardG (u : Rat) : Nat := ((u / 100000).ceil).toNat * 100000

/-- The next transmission to the child is a train (R364). -/
def trainDue (s : State) (c : Child) : Bool :=
  c.failed ||
    (match s.guardU c (predict c (eventAt c s.radNow + 1)) with
     | some u => (s.guardMax : Rat) < u
     | none => true)

/-- A measurement of a child's clock: event `n` started at `t` (R362). -/
def measure (k : Nat) (n t : Int) (s : State) : State :=
  match s.child k with
  | none => s
  | some c =>
    let o := t - (c.anchor + n * (c.sample * 1000000 : Nat))
    let d := (t : Rat) - predict c n
    let away : Bool := match s.guardU c t with
      | some u => decide (4 * u < (if d < 0 then -d else d))
      | none => false
    s.setChild k { c with meas := if away then [(n, o)] else ((n, o) :: c.meas).take 8, measAt := t }

/-- A CHMAP_UPD that is due joins the front of the queue, at least 8 events ahead (R366; DEDUCED, log entry 45). -/
def mapFrame (k : Nat) (s : State) : State :=
  match s.child k with
  | none => s
  | some c =>
    match c.newMap, c.mapAt with
    | some m, none =>
      let at_ := BitVec.ofInt 32 (eventAt c s.radNow) + 8 + W (fld s.freeW 0 16)
      (s.setChild k { c with mapAt := some at_, q := (leBytes 1 6 ++ leBytes 8 m.toNat ++ leBytes 4 at_.toNat) :: c.q }).useFree
    | _, _ => s

/-- Own beacons fall due within a span from now that they lengthen: how many (R369). -/
def beaconsIn (s : State) (span air : Nat) : Nat :=
  (List.range 64).foldl (fun c _ => if s.radio.next + (c * s.beaconNs : Nat) < s.radNow + (span + c * air : Nat) then c + 1 else c) 0

/-- Air time of an own beacon. -/
def beaconAir (s : State) : Nat := s.frameNs s.radPreamble (List.replicate 24 1)

/-- A wake-up train that covers a span, ns: the RZ of each WAKE frame (R355, R361, R364); beacons take the place of frames and lengthen it (R369). RZ is rounded
down (DEDUCED, log entry 45). -/
def trainOf (s : State) (span : Nat) : List Nat :=
  let d := s.wakeNs
  let air := s.beaconAir
  let c := s.beaconsIn span air
  let n := (span + c * air + d - 1) / d
  let free := fun (i : Nat) => (List.range c).all (fun j =>
    let b := s.radio.next + (j * s.beaconNs : Nat) - s.radNow
    (((i + 1) * d : Nat) : Int) ≤ b || b + air ≤ ((i * d : Nat) : Int))
  ((List.range n).filter free).map (fun i => (n - i) * d * 32768 / 1000000000)

/-- Preamble octets and WAKE frames of the next transmission to a child (R361, R364). -/
def coverOf (s : State) (c : Child) : Nat × List Nat :=
  if s.trainDue c then (s.radPreamble, s.trainOf (c.sample * 1000000 + 2000000))
  else
    let g := guardG ((s.guardU c (predict c (eventAt c s.radNow + 1))).getD 0)
    let span := 2 * g + 2000000
    if s.oqpsk then (4, s.trainOf span) else (Nat.max s.radPreamble ((span * s.radRate + 7999999) / 8000000), [])

/-- A queued frame leaves for child k by its connection events (R361, R364). -/
def childSend (k : Nat) (s : State) : State :=
  let s := s.mapFrame k
  match s.child k with
  | none => s
  | some c =>
    let train := s.trainDue c
    let cov := s.coverOf c
    let f := c.q.headD []
    let n := eventAt c s.radNow + 1
    let s := s.radioOut (s.eventChan c.map (BitVec.ofInt 32 n).toNat c.seed) (.short (s.childAddr k)) cov.1 cov.2 f
    let s := { s with radio := { s.radio with waits := s.radio.waits.filter (fun x => x != k) } }
    let s := s.setChild k { c with fly := 1, sched := true, falls := if train then Nat.min 255 (c.falls + 1) else c.falls }
    if train then (s.bump Reg.RAD.DRIFT_FALLBACK).raise 112 2 else s

/-- The transmission that child k awaits: whether a frame may leave, and its air time with its cover. -/
def childAir (s : State) (k : Nat) : Option Nat :=
  match s.child k with
  | some c => if c.q.isEmpty || c.fly != 0 then none else let cov := s.coverOf c; some (s.frameNs cov.1 (c.q.headD []) + cov.2.length * s.wakeNs)
  | none => none

/-- A transmission to a child at P - G, or as a train (R361, R364, R369, R371). -/
def childTx (k : Nat) (train : Bool) (energy : BitVec 8) (s : State) : State :=
  match s.child k, s.childAir k with
  | some c, some ns =>
    if !s.rpUp || !s.isReady 113 || s.trainDue c != train then s
    else
      let s := s.cca (s.ccaBusy energy)
      if s.ccaBusy energy then s.bump Reg.RAD.CCA_DEFER
      else if !train && s.radio.next < s.radNow + ns && s.radNow < s.radio.next + s.beaconAir then s
      else if !s.dutyFits ns then s.dutyWait k
      else s.childSend k
  | _, _ => s

/-- A transmission that waited for DUTY_LIMIT goes, the one that has waited longest first (R371). -/
def dutyRelease (s : State) : State :=
  match s.radio.waits with
  | k :: t =>
    match s.childAir k with
    | some ns => if s.rpUp && s.isReady 113 && s.dutyFits ns then s.childSend k else s
    | none => { s with radio := { s.radio with waits := t } }
  | [] => s

/-- A child has been heard (R365). -/
def heardChild (k : Nat) (t : Int) (s : State) : State :=
  match s.child k with
  | some c => s.setChild k { c with heardAt := t }
  | none => s

/-- ACK_TIME (R361, R362, R366): a measurement, and the frame has been delivered. -/
def ackTime (k : Nat) (err : Int) (sfd : Word) (s : State) : State :=
  match s.child k with
  | none => s
  | some c =>
    if !s.up 112 || c.fly == 0 then s
    else
      let sfdX := s.radStamp sfd
      let t := sfdX - 1000 * err
      let s := (s.heardChild k sfdX).measure k (eventNear c t) t
      match s.child k with
      | some c => s.setChild k { c with q := c.q.drop 1, fly := c.fly - 1, failed := false, mapAck := c.mapAck || byteAt (c.q.headD []) 0 == 6 }
      | none => s

/-- No valid acknowledgement (R361, R364). -/
def ackMissed (k : Nat) (s : State) : State :=
  match s.child k with
  | some c => if c.fly == 0 then s else s.setChild k { c with fly := 0, failed := c.failed || c.sched }
  | none => s

/-- A frame is accepted: RX_OK, and RSSI_LAST of it (R356, R375). -/
def rxAccepted (rssi : BitVec 8) (s : State) : State := (s.bumpWrap Reg.RAD.RX_OK).wr Reg.RFE.RSSI_LAST (rssi.setWidth 32)

/-- The hardware acknowledges a frame (R357, R371). -/
def radAck (dst : RadioDst) (pending : Bool) (s : State) : State := (s.emit (.radioAck s.radPhy dst pending)).spendAir s.ackNs

/-- RP's queue has no room: no acknowledgement (R357). -/
def rxBusy (s : State) : State := (s.bump Reg.RAD.RX_BUSY).raise 112 9

/-- In DOZE the receiver is on only in the uplink window after a beacon (R370). -/
def inUplinkWindow (s : State) (t : Int) : Bool :=
  s.mode != .doze || (s.radio.lastEnd ≤ t && t < s.radio.lastEnd + (clampN 10 1000 (fld (s.rd Reg.RAD.BEACON_CFG) 16 16) * 1000000 : Nat))

/-- The receiver hears a frame: it is on, in DOZE only in the uplink window, and the module does not transmit (R369, R370). -/
def radHears (s : State) (t : Int) : Bool := s.up 112 && s.isReady 113 && s.inUplinkWindow t && s.radio.txEnd ≤ s.clock

/-- The levels of FEM0-FEM5: in transmission, with the receiver on, or idle (R350, R375). -/
def femPins (s : State) : Nat :=
  if s.clock < s.radio.txEnd then fld (s.rd Reg.RFE.FEM_TX) 0 6
  else if s.radHears s.radNow then fld (s.rd Reg.RFE.FEM_RX) 0 6 else fld (s.rd Reg.RFE.FEM_IDLE) 0 6

/-- EXT_ADDR. -/
def extAddr (s : State) : BitVec 64 := s.rd Reg.RAD.EXT_ADDR_HI ++ s.rd Reg.RAD.EXT_ADDR_LO

/-- The filter of R350 and R356 on a frame of child k, or of another sender. -/
def radMatch (s : State) (sender : Option Nat) (h : RadHead) : Bool :=
  let pan := h.pan.toNat
  h.version == 2 && !h.secured && (pan == fld (s.rd Reg.RAD.NET_CFG) 0 16 || pan == fld (s.rd Reg.RAD.MEMBER_CFG) 0 16 || pan == 0xFFFF) &&
    (match h.dst with
     | .absent => false
     | .ext a => a == s.extAddr
     | .short a => a == 0xFFFF || (List.range 16).any (fun i => s.rd (Reg.RAD.SHORT_MATCH i) == W (a.toNat + 0x10000)) || sender.map s.childAddr == some a.toNat)

/-- A frame that the receiver hears at `t` (R353, R356, R357): the state, and whether RP takes it. One whose TYPE is not that of the command or whose length does not match is filtered. -/
def radTake (sender : Option Nat) (type len : Nat) (h : RadHead) (t : Int) (room : Bool) (s : State) : State × Bool :=
  if !s.radHears t then (s, false)
  else if !s.radMatch sender h || h.type.toNat != type || h.bytes != len then (s.bump Reg.RAD.RX_FILTERED, false)
  else if !room then (s.rxBusy, false)
  else (s.rxAccepted h.rssi, true)

/-- The pending frames follow the acknowledgement of an uplink, as far as DUTY_LIMIT lets them (R360, R371). -/
def sendAfter (k : Nat) (n : Int) : Nat → State → State
  | 0, s => s
  | fuel + 1, s =>
    match s.child k with
    | none => s
    | some c =>
      match c.q.drop c.fly with
      | [] => s
      | f :: _ =>
        let ns := s.frameNs s.radPreamble f
        if !s.dutyFits ns then s.dutyWait k
        else
          let s := s.radioOut (s.eventChan c.map (BitVec.ofInt 32 n).toNat c.seed) (.short (s.childAddr k)) s.radPreamble [] f
          sendAfter k n fuel (s.setChild k { c with fly := c.fly + 1, sched := false })

/-- An uplink from the address of child k (R356, R357, R360, R362, R370): the state, and whether RP has taken a frame of a connected child. A frame from an address that no child holds is
acknowledged and goes no further (DEDUCED, log entry 45). -/
def uplink (k type len : Nat) (h : RadHead) (event phase sfd : Word) (room : Bool) (s : State) : State × Bool :=
  let t := s.radStamp sfd
  let p := s.radTake (some k) type len h t room
  if !p.2 then p
  else
    match s.child k with
    | none => (p.1.radAck (.short (s.childAddr k)) false, false)
    | some c =>
      let n := eventNamed c t event
      let s := p.1.radAck (.short (s.childAddr k)) (!c.q.isEmpty || (c.newMap.isSome && c.mapAt.isNone))
      let start := t - 1000 * phase.toInt
      (((s.heardChild k t).measure k n start).mapFrame k, true)

/-- The frames that follow an uplink. -/
def uplinkReply (k : Nat) (event sfd : Word) (s : State) : State :=
  if !s.rpUp then s
  else
    match s.child k with
    | some c => if c.fly == 0 then s.sendAfter k (eventNamed c (s.radStamp sfd) event) c.q.length else s
    | none => s

/-- A connection ends: its frames are discarded and k is free (R359, R365). -/
def dropChild (k : Nat) (s : State) : State :=
  match s.child k with
  | none => s
  | some c =>
    let s := s.wr Reg.RAD.PENDING_DISCARD (satAdd (s.rd Reg.RAD.PENDING_DISCARD) c.q.length)
    let s := { s with children := Sparse.drop s.children k, radio := { s.radio with waits := s.radio.waits.filter (fun x => x != k) } }
    (s.wrBit (Reg.RAD.PEND_MAP (k / 32)) (k % 32) false).wr Reg.RAD.CHILDREN (s.rd Reg.RAD.CHILDREN - 1)

/-- A path of RAD is lost (R31): a child, or the parent. -/
def radLost (p : Nat) (s : State) : State := { s with radio := { s.radio with lost := s.radio.lost.filter (fun x => x != p) ++ [p] } }.pathLost 112

/-- A lost path of RAD is there again; with the last of them the recovery window ends (R31). -/
def radBack (p : Nat) (s : State) : State :=
  if !s.radio.lost.contains p then s
  else
    let l := s.radio.lost.filter (fun x => x != p)
    let s := { s with radio := { s.radio with lost := l } }
    if l.isEmpty then s.closeWindow 112 else s

/-- A child is silent for SUP (R31, R365, R391); `ms` is the time since its last frame. -/
def childLost (k ms : Nat) (s : State) : State :=
  match s.child k with
  | some c => if s.rpUp && 100 * c.sup ≤ ms then ((((s.dropChild k).bump Reg.RAD.CHILD_LOST).nodeGone c.fleet).raise 112 1 |>.raise 112 3).radLost c.ext.toNat else s
  | none => s

/-! Joining (R359, R384). -/

/-- FP at work on the fleet (R13). -/
def fpUp (s : State) : Bool := s.up 28 && s.proc 2 == 2

/-- The registry record of KIND 3 with an extended address (R359, R384). -/
def childRecord (s : State) (ext : BitVec 64) : Option Nat :=
  (s.registry.find? (fun e => e.1 % 64 == 0 && bit e.2 0 && fld e.2 1 3 == 3 && s.regw (e.1 / 64) 2 == W ext.toNat &&
    s.regw (e.1 / 64) 3 == W (ext.toNat / 2 ^ 32))).map (fun e => e.1 / 64)

/-- FP sends CONFIG to a node of KIND 3 or 4 (R378, R382, R384); REPORT, which no record holds, is free (DESIGN CHOICE, log entry 46). -/
def fleetConfig (f : Nat) (s : State) : State :=
  let report := 10 + fld s.freeW 0 16 % 65526
  let body := leBytes 4 (s.regw f 8).toNat ++ leBytes 2 (fld (s.regw f 9) 0 16) ++ leBytes 2 report
  { s.useFree with reports := Sparse.set (fun _ => 0) s.reports f report }.fleetSend f 3 0 body

/-- FP binds a node to its record (R384, R391): ATTACH, PORT and ADDR, and the node is there. -/
def bindNode (f attach addr : Nat) (s : State) : State := ((s.setReg f 21 (W (attach + 0x10000 * addr))).nodeHeard f).fleetConfig f

/-- JOIN_RSP with a refusal: the fields that only an accepted child uses are free (R353, R359; DEDUCED, log entry 45). -/
def joinRefuse (ext : BitVec 64) (res : Nat) (s : State) : State :=
  let bytes := leBytes 1 5 ++ s.freeBytes 7 ++ leBytes 1 res ++ (s.useFree.freeBytes 11)
  (s.useFree.useFree.radioOut s.beaconCh (.ext ext) s.radPreamble [] bytes).raise 112 8

/-- JOIN_RSP that accepts a child (R353, R359): the lowest free k; SUP, SEED and ANCHOR are RP's choice within R359 (DEDUCED, log entry 45). -/
def joinAccept (ext : BitVec 64) (sample f : Nat) (s : State) : State :=
  let k := ((List.range 1024).find? (fun i => (s.child i).isNone)).getD 0
  let low := (2 * sample + 99) / 100
  let sup := low + s.freeW.toNat % (6001 - low)
  let seed := fld s.useFree.freeW 0 8
  let anchor := fld s.useFree.useFree.freeW 0 24
  let bytes := leBytes 1 5 ++ leBytes 2 (s.childAddr k) ++ leBytes 2 sample ++ leBytes 2 sup ++ leBytes 1 seed ++ leBytes 1 0 ++ leBytes 3 anchor ++
    leBytes 8 s.chMap.toNat
  let now := s.radNow
  let s := s.useFree.useFree.useFree.radioOut s.beaconCh (.ext ext) s.radPreamble [] bytes
  let c : Child := { ext := ext, fleet := f, sample := sample, sup := sup, seed := seed, anchor := now + (anchor * 1000000000 / 32768 : Nat), map := s.chMap,
                     newMap := none, mapAt := none, mapAck := false, meas := [], measAt := now, heardAt := now, q := [], fly := 0, sched := false,
                     failed := false, falls := 0 }
  ((((s.setChild k c).wr Reg.RAD.CHILDREN (s.rd Reg.RAD.CHILDREN + 1)).raise 112 0).radBack ext.toNat).bindNode f 3 k

/-- FP checks a join request and RP answers it (R359, R384; DEDUCED, log entry 45 for the order of the refusals). -/
def joinCheck (ext : BitVec 64) (sample : Nat) (s : State) : State :=
  let s := match s.children.find? (fun e => match e.2 with | some c => c.ext == ext | none => false) with
    | some (k, some c) => let s' := s.dropChild k; if c.q.isEmpty then s' else s'.raise 112 3
    | _ => s
  match s.childRecord ext with
  | none => (s.fault 0x800000 5 true (W ext.toNat)).joinRefuse ext 1
  | some f =>
    if (List.range 1024).all (fun i => (s.child i).isSome) then s.joinRefuse ext 2
    else if sample < 100 || 10000 < sample then s.joinRefuse ext 3
    else s.joinAccept ext sample f

/-- JOIN_REQ (R356, R357, R359, R370): a coordinator answers it after a beacon with JOIN_OPEN. -/
def joinReq (h : RadHead) (ext : BitVec 64) (sample : Nat) (sfd : Word) (room : Bool) (s : State) : State :=
  let p := s.radTake none 4 3 h (s.radStamp sfd) room
  if !p.2 then p.1
  else
    let s := p.1.radAck (.ext ext) false
    if !bit (s.rd Reg.RAD.NET_CFG) 16 || !s.radio.joinOpen then s
    else if !s.fpUp then { s with fpWait := s.fpWait ++ [FpWork.join ext sample] }.wakeSource 3
    else s.joinCheck ext sample

/-! Channel maps (R351, R366). -/

/-- A write to half of a channel map that would leave no channel below COUNT is refused whole (R351). -/
def mapRefused (s : State) (lo hi : Word) : Bool := (s.mapChans (BitVec.ofNat 64 (lo.toNat + 2 ^ 32 * hi.toNat))).isEmpty

/-- RP has a new map for a child (R366): an update that was under way is replaced. -/
def newMap (m : BitVec 64) (c : Child) : Child :=
  let q := c.q.filter (fun f => byteAt f 0 != 6)
  { c with newMap := some m, mapAt := none, mapAck := false, q := q, fly := if q.length == c.q.length then c.fly else 0 }

/-- A write to CHMAP_LO or CHMAP_HI (R351, R366). -/
def chmapWrite (high : Bool) (v : Word) (s : State) : State :=
  let lo := if high then s.rd Reg.RAD.CHMAP_LO else v
  let hi := if high then v else s.rd Reg.RAD.CHMAP_HI
  if s.mapRefused lo hi then (s.err 112).raise 113 1
  else if lo == s.rd Reg.RAD.CHMAP_LO && hi == s.rd Reg.RAD.CHMAP_HI then s
  else
    let s := (s.wr Reg.RAD.CHMAP_LO lo).wr Reg.RAD.CHMAP_HI hi
    let s := { s with radio := { s.radio with chChange := true } }
    (List.range 1024).foldl (fun a k => match a.child k with | some c => a.setChild k (newMap a.chMap c) | none => a) s

/-- INSTANT is reached (R366): an acknowledged map is used; one that is not is sent again. -/
def chmapInstant (k : Nat) (s : State) : State :=
  match s.child k with
  | some c =>
    match c.newMap, c.mapAt with
    | some m, some _ =>
      if c.mapAck then s.setChild k { c with map := m, newMap := none, mapAt := none, mapAck := false } else s.setChild k (newMap m c)
    | _, _ => s
  | none => s

/-! The RFE page (R351, R375). -/

/-- Every channel lies in the band (R351). -/
def bandOk (cfg ch0 spacing : Word) : Bool :=
  let lo := if bit cfg 0 then 2400000 else 863000
  let hi := if bit cfg 0 then 2483500 else 928000
  let first := fld ch0 0 22
  let last := first + (clampN 1 64 (fld spacing 16 7) - 1) * fld spacing 0 16
  lo ≤ first && last ≤ hi

/-- A write to BAND_CFG, CH0 or SPACING (R351, R375): 0, 1, 2. -/
def rfeConfig (which : Nat) (v : Word) (s : State) : State :=
  let addr := if which == 0 then Reg.RFE.BAND_CFG else if which == 1 then Reg.RFE.CH0 else Reg.RFE.SPACING
  let v := v &&& (if which == 0 then 0xFFFD else if which == 1 then 0x3FFFFF else 0x7FFFFF)
  let s' := s.wr addr v
  if (s.blk 113).enable && v != s.rd addr then s.err 113
  else if bandOk (s'.rd Reg.RFE.BAND_CFG) (s'.rd Reg.RFE.CH0) (s'.rd Reg.RFE.SPACING) then s'
  else (s.err 113).raise 113 1

/-- The synthesiser unlocks (R358, R375). -/
def synthUnlock (s : State) : State :=
  if s.up 113 then ({ s with radio := { s.radio with unlocked := true } }.bump Reg.RFE.SYNTH_UNLOCK).raise 113 0 else s

/-! The child record (R374). -/

/-- A signed value in a field of 16 bits, free where the field cannot hold it (DEDUCED, log entry 45). -/
def field16 (s : State) (v : Int) : Nat := if -32768 ≤ v && v < 32768 then encS 16 v else fld s.freeW 0 16

/-- A rational rounded to the nearest whole number. -/
def nearest (q : Rat) : Int := roundEven q.num q.den

/-- The words of a child's record (R374). -/
def childWords (s : State) (k : Nat) : List Word :=
  match s.child k with
  | none => [0, 0, 0, 0, 0, 0, 0, 0]
  | some c =>
    let now := s.radNow
    let fit := driftFit c
    let rate := match fit with | some f => s.field16 (nearest (f.1 * 10000000)) | none => 0
    let sigma := match fit with | some f => s.field16 (nearest (f.2.2 * 10000000)) | none => 0
    let u := match s.guardU c now with | some u => Nat.min 65535 (nearest (u / 1000)).toNat | none => 65535
    let n := eventAt c now
    [ W (2 + 0x100 * c.falls + 0x10000 * c.seed + 0x1000000 * Nat.min 255 c.q.length),
      W c.ext.toNat, W (c.ext.toNat / 2 ^ 32), BitVec.ofInt 32 (if n < 0 then 0 else n), W (c.sample + 0x10000 * c.sup),
      W (rate + 0x10000 * sigma), W ((now - c.heardAt) / 1000000).toNat, W u ]

/-- CHILD_SEL copies a record at one tick (R373). -/
def childSel (v : Word) (s : State) : State :=
  let k := fld v 0 10
  let ws := s.childWords k
  (List.range 8).foldl (fun a w => a.wr (Reg.RAD.CHILD w) (ws.getD w 0)) (s.wr Reg.RAD.CHILD_SEL (W k)).useFree

/-! The member side (R367, R368). -/

/-- MEMBER_STATUS.STATE takes a value; each move raises RAD event bit 6 (R367). -/
def memberMove (st : Nat) (s : State) : State :=
  if s.memberSt == st then s else (s.wrFld Reg.RAD.MEMBER_STATUS 0 3 st).raise 112 6

/-- The channels that are scanned (R367). -/
def memberChans (s : State) : List Nat :=
  s.mapChans (BitVec.ofNat 64 ((s.rd Reg.RAD.MEMBER_CHMAP_LO).toNat + 2 ^ 32 * (s.rd Reg.RAD.MEMBER_CHMAP_HI).toNat))

/-- Scanning begins with the lowest channel of the map (R367). -/
def memberScan (s : State) : State := { s with member := { s.member with chan := s.memberChans.headD 0 } }.memberMove 1

/-- Scanning moves to the next channel of the map after INTERVAL + 10 ms (R367). -/
def memberNext (ms : Nat) (s : State) : State :=
  if s.memberSt != 1 || !s.rpUp || ms < s.beaconNs / 1000000 + 10 then s
  else { s with member := { s.member with chan := ((s.memberChans.find? (fun c => s.member.chan < c)).getD (s.memberChans.headD 0)) } }

/-- RAD is READY: the beacon grid, the coordinator's own address, which nothing here gives, and the scan of a member (R356, R358, R367; DEDUCED, log entry 45). -/
def radReady (s : State) : State :=
  let s := s.beaconGrid.writeTemplate
  let s := (s.wr (Reg.RAD.SHORT_MATCH 0) (W (fld s.freeW 0 16 + 0x10000))).useFree
  if bit (s.rd Reg.RAD.NET_CFG) 17 && s.memberSt == 0 then s.memberScan else s

/-- A write to NET_CFG (R367, R373). -/
def netCfg (v : Word) (s : State) : State :=
  let v := v &&& 0x3FFFF
  if (s.blk 112).enable && fld v 0 16 != fld (s.rd Reg.RAD.NET_CFG) 0 16 then s.err 112
  else
    let s := s.wr Reg.RAD.NET_CFG v
    if !bit v 17 then s.memberMove 0 else if s.up 112 && s.memberSt == 0 then s.memberScan else s

/-- TB3 takes the upstream parent as its source (R368). -/
def tulleSource (s : State) : Bool := s.tbSource 3 == 11

/-- The window W and MISSED of MEMBER_STATUS; WIN in whole ms (R373; DEDUCED, log entry 45). -/
def memberWin (w missed : Nat) (s : State) : State :=
  ({ s with member := { s.member with win := w } }.wrFld Reg.RAD.MEMBER_STATUS 16 16 (w / 1000)).wrFld Reg.RAD.MEMBER_STATUS 8 8 missed

/-- MEMBER_WIN, us (R373). -/
def memberWinCfg (s : State) : Nat := clampN 100 10000 (fld (s.rd Reg.RAD.MEMBER_WIN) 0 16)

/-- A parent beacon is a measurement of TB3 (R368): LOCK reads ACQUIRING over radio. RATE of PARENT is free (DEDUCED, log entry 45). -/
def parentTime (interval : Nat) (time sfd : Word) (s : State) : State :=
  let s := (s.wrFld Reg.RAD.PARENT 16 16 (fld s.freeW 0 16)).useFree
  if s.tulleSource && s.tbRuns 3 then s.servo 3 (time - sfd).toInt (interval * 1000000) (interval * 1000000) else s

/-- A beacon arrives (R28, R353, R356, R367, R368): with no destination it is accepted. That of the parent drives the member side. -/
def parentBeacon (h : RadHead) (pan short depth interval : Nat) (time sfd : Word) (s : State) : State :=
  let t := s.radStamp sfd
  let st := s.memberSt
  let m := { s.member with beaconAt := t, interval := interval, depth := depth }
  if !s.radHears t then s
  else if h.version != 2 || h.secured || h.dst != .absent || h.type != 1 || h.bytes != 24 then s.bump Reg.RAD.RX_FILTERED
  else
  let s := s.rxAccepted h.rssi
  if !s.rpUp || pan != fld (s.rd Reg.RAD.MEMBER_CFG) 0 16 then s
  else if st == 1 then
    let s := { s with member := m }.wr Reg.RAD.PARENT (W short)
    let req := leBytes 1 4 ++ s.freeBytes 2
    let s := s.useFree.radioOut s.beaconCh (.short short) s.radPreamble [] req
    (s.parentTime interval time sfd).memberMove 2
  else if st == 3 || st == 4 then
    let b := s.member.beaconAt + (s.member.interval * 1000000 : Nat)
    let h : Int := (s.member.win * 500 : Nat)
    if t < b - h || b + h ≤ t then s
    else (((({ s with member := m }.memberWin s.memberWinCfg 0).wrFld Reg.RAD.PARENT 0 16 short).parentTime interval time sfd).memberMove 3).radBack (2 ^ 64)
  else s

/-- A parent beacon is missed in its window (R367, R368). -/
def parentMiss (s : State) : State :=
  let st := s.memberSt
  if !s.rpUp || (st != 3 && st != 4) then s
  else
    let missed := Nat.min 255 (fld (s.rd Reg.RAD.MEMBER_STATUS) 8 8 + 1)
    let s := { s with member := { s.member with beaconAt := s.member.beaconAt + (s.member.interval * 1000000 : Nat) } }.bump Reg.RAD.PARENT_MISSED
    if st == 4 then s.memberWin (Nat.min (2 * s.member.win) (s.member.interval * 1000)) missed
    else
      let s := s.memberWin s.member.win missed
      if missed < 3 then s
      else (((if s.tulleSource && s.tbRuns 3 then s.measurementLost 3 else s).raise 112 4).memberMove 4).radLost (2 ^ 64)

/-- JOIN_RSP of the parent (R356, R357, R367, R368). -/
def memberAnswer (h : RadHead) (result short : Nat) (sfd : Word) (room : Bool) (s : State) : State :=
  let p := s.radTake none 5 20 h (s.radStamp sfd) room
  if !p.2 then p.1
  else
  let s := p.1.radAck (.short (fld (s.rd Reg.RAD.PARENT) 0 16)) false
  if !s.rpUp || s.memberSt != 2 then s
  else if result != 0 then s.memberScan
  else
    let s := (s.wr (Reg.RAD.SHORT_MATCH 1) (W (short + 0x10000))).memberWin s.memberWinCfg 0
    let s := if s.member.rejoin && s.tulleSource then s.raise 112 10 else s
    ({ s with member := { s.member with rejoin := false } }.memberMove 3).radBack (2 ^ 64)

/-- No answer of the parent in 1 s (R367). -/
def memberNoAnswer (ms : Nat) (s : State) : State := if s.rpUp && s.memberSt == 2 && 1000 ≤ ms then s.memberScan else s

/-- No parent beacon for PARENT_SUP: LOST, and at once SCANNING (R31, R367, R373). -/
def parentLost (ms : Nat) (s : State) : State :=
  if s.rpUp && (s.memberSt == 3 || s.memberSt == 4) && 100 * clampN 1 6000 (fld (s.rd Reg.RAD.MEMBER_CFG) 16 16) ≤ ms then
    ({ (s.raise 112 5).memberMove 5 with member := { s.member with rejoin := true } }.radLost (2 ^ 64)).memberScan
  else s

end State

/-- BEACON_SEND (R358). -/
def execBeaconSend (s : State) : Out := .next s.beaconSend

/-- JOIN_REQ_RX (R359). -/
def execJoinReqRx (h : RadHead) (ext : BitVec 64) (sample : BitVec 16) (sfd : Word) (room : Bool) (s : State) : Out := .next (s.joinReq h ext sample.toNat sfd room)

/-- SCHEDULED_TX (R361). -/
def execScheduledTx (k : Fin 1024) (energy : BitVec 8) (s : State) : Out := .next (s.childTx k false energy)

/-- WAKE_TRAIN_TX (R364). -/
def execWakeTrainTx (k : Fin 1024) (energy : BitVec 8) (s : State) : Out := .next (s.childTx k true energy)

/-- ACK_TIME_RX (R362). -/
def execAckTimeRx (k : Fin 1024) (err : BitVec 32) (sfd : Word) (s : State) : Out := .next (s.ackTime k err.toInt sfd)

/-- ACK_TIMEOUT (R361). -/
def execAckTimeout (k : Fin 1024) (s : State) : Out := .next (s.ackMissed k)

/-- KEEPALIVE_RX (R362). -/
def execKeepaliveRx (h : RadHead) (k : Fin 1024) (event phase sfd : Word) (room : Bool) (s : State) : Out :=
  .next (let r := s.uplink k 9 9 h event phase sfd room; if r.2 then r.1.uplinkReply k event sfd else r.1)

/-- CHILD_SUP_TIMEOUT (R365). -/
def execChildSupTimeout (k : Fin 1024) (ms : Nat) (s : State) : Out := .next (s.childLost k ms)

/-- CHMAP_WRITE (R366). -/
def execChmapWrite (r : Requester) (high : Bool) (v : Word) (s : State) : Out :=
  .next (s.access r (if high then Reg.RAD.CHMAP_HI else Reg.RAD.CHMAP_LO) v (State.chmapWrite high v))

/-- CHMAP_INSTANT (R366). -/
def execChmapInstant (k : Fin 1024) (s : State) : Out := .next (s.chmapInstant k)

/-- RFE_CONFIG_WRITE (R351). -/
def execRfeConfigWrite (r : Requester) (which : Fin 3) (v : Word) (s : State) : Out :=
  .next (s.access r (Reg.RFE.BAND_CFG + 4 * which) v (State.rfeConfig which v))

/-- SYNTH_UNLOCK (R358). -/
def execSynthUnlock (s : State) : Out := .next s.synthUnlock

/-- DUTY_RELEASE (R371). -/
def execDutyRelease (s : State) : Out := .next s.dutyRelease

/-- CHILD_SEL (R373). -/
def execChildSel (r : Requester) (v : Word) (s : State) : Out := .next (s.access r Reg.RAD.CHILD_SEL v (State.childSel v))

/-- MEMBER_ENABLE (R367). -/
def execMemberEnable (r : Requester) (s : State) : Out :=
  .next (let v := setBit (s.rd Reg.RAD.NET_CFG) 17 true; s.access r Reg.RAD.NET_CFG v (State.netCfg v))

/-- MEMBER_DISABLE (R367). -/
def execMemberDisable (r : Requester) (s : State) : Out :=
  .next (let v := setBit (s.rd Reg.RAD.NET_CFG) 17 false; s.access r Reg.RAD.NET_CFG v (State.netCfg v))

/-- MEMBER_SCAN_STEP (R367). -/
def execMemberScanStep (ms : Nat) (s : State) : Out := .next (s.memberNext ms)

/-- PARENT_BEACON_RX (R367). -/
def execParentBeaconRx (h : RadHead) (pan short : BitVec 16) (depth : Byte) (interval : BitVec 16) (time sfd : Word) (s : State) : Out :=
  .next (s.parentBeacon h pan.toNat short.toNat depth.toNat interval.toNat time sfd)

/-- PARENT_BEACON_MISS (R367). -/
def execParentBeaconMiss (s : State) : Out := .next s.parentMiss

/-- MEMBER_JOIN_RSP (R367). -/
def execMemberJoinRsp (h : RadHead) (result : Byte) (short : BitVec 16) (sfd : Word) (room : Bool) (s : State) : Out :=
  .next (s.memberAnswer h result.toNat short.toNat sfd room)

/-- MEMBER_JOIN_TIMEOUT (R367). -/
def execMemberJoinTimeout (ms : Nat) (s : State) : Out := .next (s.memberNoAnswer ms)

/-- PARENT_SUP_TIMEOUT (R367). -/
def execParentSupTimeout (ms : Nat) (s : State) : Out := .next (s.parentLost ms)

end Sys2Proof.Machine
end

