-- ==== Sys2Proof/Machine/Fleet.lean ====
section
/-!
DEFINITION. The fleet engine: fleet records (R376-R381), the registry (R382-R384), schedules, ramps and loops (R385-R389), traffic rules (R390), faults and feeder energy
(R391, R392), node images (R393, R394), the FLT and SCH pages (R395, R396); and the two events that come to it through other units, TULLE_FLEET_RX and
DIN_EDGE.
-/
namespace Sys2Proof.Machine

/-- The value of a ramp now (R388; DESIGN CHOICE, log entry 47: rounded down). -/
def Ramp.now (r : Ramp) : Nat :=
  if r.len ≤ r.at_ then r.stop else ((r.start : Int) + ((r.stop : Int) - r.start) * r.at_ / r.len).toNat

/-- A ramp that still runs. -/
def Ramp.runs (r : Ramp) : Bool := r.at_ < r.len && r.start != r.stop

/-- A ramp that stands at a value. -/
def Ramp.fixed (v : Nat) : Ramp := { start := v, stop := v, len := 0, at_ := 0 }

/-- A ramp that goes on to a new end. -/
def Ramp.towards (r : Ramp) (stop len : Nat) : Ramp := { start := r.now, stop := stop, len := len, at_ := 0 }

/-- `ms` of a ramp pass. -/
def Ramp.pass (ms : Nat) (r : Ramp) : Ramp := { r with at_ := Nat.min r.len (r.at_ + ms) }

/-- A group that no winner has driven yet, at a level (R388). -/
def GroupRun.atLevel (v : Nat) : GroupRun :=
  { win := Option.none, ramp := 0, sched := Ramp.fixed v, mode := 0, tgt := List.replicate 6 (Ramp.fixed 0), rule := Option.none, ending := false, sent := Option.none }

/-! Records. -/

/-- The 64 bytes of a record (R376). -/
def recBytes (type : Nat) (r : FleetRec) : List Byte :=
  leBytes 1 type ++ leBytes 1 r.flags.toNat ++ leBytes 3 r.id.toNat ++ leBytes 1 r.key.toNat ++ leBytes 2 r.rsv.toNat ++ leBytes 4 r.seq.toNat ++
    fitBytes 40 r.body ++ fitBytes 12 r.tag

/-- The record of 64 bytes, with its TYPE (R376). -/
def recOf (b : List Byte) : Nat × FleetRec :=
  (byteAt b 0, { flags := BitVec.ofNat 8 (byteAt b 1), id := BitVec.ofNat 24 (leAt b 2 3), key := BitVec.ofNat 8 (byteAt b 5), rsv := BitVec.ofNat 16 (leAt b 6 2),
                 seq := W (leAt b 8 4), body := (b.drop 12).take 40, tag := (b.drop 52).take 12 })

/-- Up types and host types (R378). -/
def isUp (t : Nat) : Bool := t == 2 || t == 5 || t == 6 || t == 9 || t == 10
def isHost (t : Nat) : Bool := t == 7 || t == 8 || (16 ≤ t && t ≤ 20)

/-- Every byte of a list is 0. -/
def allZero (l : List Byte) : Bool := l.all (fun b => b == 0)

/-- Reserved bits and values of an up or host record, its body at offset 12 (R376, R378). -/
def recReserved (t : Nat) (r : FleetRec) : Bool :=
  let b := fitBytes 40 r.body
  8 ≤ r.flags.toNat || 2 ^ 17 ≤ r.id.toNat || 2 ≤ r.key.toNat || r.rsv != 0 ||
  (if t == 2 then byteAt b 3 != 0 || 16 ≤ byteAt b 2 || !allZero ((b.drop 14).take 2) || !allZero (b.drop 24)
   else if t == 5 then !allZero (b.drop 2)
   else if t == 6 then 16 ≤ byteAt b 0 || !allZero ((b.drop 1).take 3) || !allZero (b.drop 8)
   else if t == 7 then 32 ≤ byteAt b 0 || !allZero ((b.drop 1).take 3) || !allZero (b.drop 32)
   else if t == 8 then 32 ≤ byteAt b 0 || 2 ^ 18 ≤ leAt b 1 3 || !allZero (b.drop 36)
   else if t == 9 then 32 ≤ byteAt b 0 || leAt b 1 3 % 256 != 0 || !allZero (b.drop 36)
   else if t == 10 then 32 ≤ byteAt b 0 || 4 ≤ byteAt b 1 || !allZero (b.drop 2)
   else if t == 16 then !allZero ((b.drop 1).take 3) || !allZero (b.drop 36)
   else if t == 17 then !allZero b
   else if t == 18 || t == 19 then !allZero ((b.drop 2).take 2) || !allZero (b.drop 36)
   else if t == 20 then 32 ≤ byteAt b 0 || !allZero ((b.drop 1).take 3) || !allZero (b.drop 36)
   else false)

/-- The word at offset `i` of a body. -/
def bodyWord (b : List Byte) (i : Nat) : Word := W (leAt b i 4)

namespace State

/-! The schedule and its references (R385-R387). -/

/-- A word of a schedule entry. -/
def schw (s : State) (i w : Nat) : Word := Sparse.get (fun _ => 0) s.sched (8 * i + w)

/-- The valid entries. -/
def schEntries (s : State) : List Nat := (s.sched.filter (fun e => e.1 % 8 == 0 && bit e.2 0)).map (fun e => e.1 / 8)

/-- DST is in force at a UTC second (R386, R396). -/
def isDst (s : State) (utc : Nat) : Bool := (s.rd Reg.SCH.DST_START).toNat ≤ utc && utc < (s.rd Reg.SCH.DST_END).toNat

/-- Offset of local time, s (R386). -/
def tzOff (s : State) (utc : Nat) : Int := 60 * (sfld (s.rd Reg.SCH.TZ) 0 16 + if s.isDst utc then sfld (s.rd Reg.SCH.TZ) 16 16 else 0)

/-- Local seconds since 2000-01-01 00:00:00. -/
def localSec (s : State) (utc : Nat) : Int := (utc : Int) + s.tzOff utc

/-- Dusk or dawn of a local day, in local seconds of the day (R387). -/
def sunOf (s : State) (dusk : Bool) (utc : Nat) (day : Int) : Option Int :=
  sunAt dusk (s.rd Reg.SCH.SITE_LAT).toInt (s.rd Reg.SCH.SITE_LON).toInt (clampN 9000 10800 (fld (s.rd Reg.SCH.ZENITH) 0 16)) (s.tzOff utc) day

/-- A reference on a local day: 0 midnight, 1 dusk, 2 dawn (R385). -/
def refOf (s : State) (utc kind : Nat) (day : Int) : Option Int := if kind == 0 then some 0 else s.sunOf (kind == 1) utc day

/-- The occurrence of an entry that begins on a local day: start and end, local seconds (R386). -/
def occurrence (s : State) (utc i : Nat) (day : Int) : Option (Int × Int) :=
  let w := s.schw i 0
  let wd := ((day + 5) % 7).toNat
  if !bit w (5 + wd) then none
  else
    match s.refOf utc (fld w 1 2) day, s.refOf utc (fld w 3 2) day, s.refOf utc (fld w 3 2) (day + 1) with
    | some a, some b, n =>
      let st := day * 86400 + a + (s.schw i 1).toInt
      let e := day * 86400 + b + (s.schw i 2).toInt
      if st < e then some (st, e) else n.map (fun c => (st, (day + 1) * 86400 + c + (s.schw i 2).toInt))
    | _, _, _ => none

/-- An entry is in force at a local second (R28, R386). -/
def inForceAt (s : State) (utc i : Nat) (l : Int) : Bool :=
  let d := l / 86400
  [d - 3, d - 2, d - 1, d, d + 1].any (fun x => match s.occurrence utc i x with | some o => o.1 ≤ l && l < o.2 | none => false)

/-- The winner of a group at a UTC second: the highest PRIORITY, the lower index among equals (R386). -/
def winnerAt (s : State) (utc g : Nat) : Option Nat :=
  let l := s.localSec utc
  (s.schEntries.filter (fun i => fld (s.schw i 0) 16 12 == g && s.inForceAt utc i l)).foldl (fun (best : Option Nat) i =>
    match best with
    | some b => if fld (s.schw b 0) 12 3 < fld (s.schw i 0) 12 3 then some i else best
    | none => some i) none

/-- The groups that schedule entries name. -/
def schGroups (s : State) : List Nat := (s.schEntries.map (fun i => fld (s.schw i 0) 16 12)).eraseDups

/-- Seconds to the next change of any winner (R396): the first boundary of an occurrence, or of DST, in the next 9 days at which a winner differs. -/
def nextChange (s : State) (utc : Nat) : Nat :=
  let d := s.localSec utc / 86400
  let days := (List.range 14).map (fun (k : Nat) => d - 3 + (k : Int))
  let edges := ((s.schEntries.map (fun i => (days.filterMap (fun x => s.occurrence utc i x)).map (fun o => [o.1, o.2]))).flatten).flatten
  let std := 60 * sfld (s.rd Reg.SCH.TZ) 0 16
  let dst := std + 60 * sfld (s.rd Reg.SCH.TZ) 16 16
  let cand := (edges.map (fun e => [e - std, e - dst])).flatten ++ [((s.rd Reg.SCH.DST_START).toNat : Int), ((s.rd Reg.SCH.DST_END).toNat : Int)]
  let later := (cand.filter (fun (u : Int) => (utc : Int) < u)).map Int.toNat
  let hits := later.filter (fun u => s.schGroups.any (fun g => s.winnerAt u g != s.winnerAt utc g))
  match hits with
  | [] => 0xFFFFFFFF
  | h :: t => Nat.min 0xFFFFFFFF (t.foldl Nat.min h - utc)

/-! Groups (R388). -/

/-- What FP keeps of a group; one that it has not driven yet stands at the level of its entry (R388). -/
def group (s : State) (g : Nat) : GroupRun :=
  (Sparse.get (fun _ => GroupRun.none) s.groups g).getD (GroupRun.atLevel (fld (Sparse.get gmDefault s.gmA (8 * g)) 0 16))

/-- A group takes a value. -/
def setGroup (g : Nat) (r : GroupRun) (s : State) : State := { s with groups := Sparse.set (fun _ => GroupRun.none) s.groups g (some r) }

/-- A sensor loop. -/
def loopRun (s : State) (l : Nat) : LoopRun := Sparse.get (fun _ => LoopRun.init) s.loops l

/-- A word of a LOOP. -/
def loopw (s : State) (l w : Nat) : Word := s.rd (Reg.SCH.LOOP (4 * (l - 1) + w))

/-- The loop that trims a group, if it is enabled (R385, R389, R396). -/
def groupLoop (s : State) (r : GroupRun) : Option Nat :=
  match r.win with
  | some i => let l := fld (s.schw i 7) 0 6; if l != 0 && bit (s.loopw l 0) 31 then some l else none
  | none => none

/-- A channel value with the loop's trim: 0-5 a target channel, 7 LEVEL (R389; DESIGN CHOICE, log entry 47: rounded down, limited to its field). -/
def trimmed (s : State) (r : GroupRun) (chan v : Nat) : Nat :=
  match s.groupLoop r with
  | some l => if fld (s.loopw l 0) 24 3 == chan then Nat.min 65535 ((v : Int) * (s.loopRun l).trim / 16777216).toNat else v
  | none => v

/-- The schedule level now, and at the end of its ramp. -/
def schedNow (s : State) (r : GroupRun) : Nat := s.trimmed r 7 r.sched.now
def schedEnd (s : State) (r : GroupRun) : Nat := s.trimmed r 7 r.sched.stop

/-- The output level now: the larger of schedule and rule level (R388). -/
def outNow (s : State) (r : GroupRun) : Nat :=
  match r.rule with
  | some x => Nat.max (s.schedNow r) x.now
  | none => s.schedNow r

/-- The final level (R388). -/
def outEnd (s : State) (r : GroupRun) : Nat :=
  match r.rule with
  | some x => if r.ending then s.schedEnd r else Nat.max (s.schedEnd r) x.stop
  | none => s.schedEnd r

/-- The remaining ramp of the output, ms. -/
def outRamp (s : State) (r : GroupRun) : Nat :=
  match r.rule with
  | some x => if r.ending || s.schedEnd r ≤ x.stop then x.len - x.at_ else r.sched.len - r.sched.at_
  | none => r.sched.len - r.sched.at_

/-- The target now, and at the end of its ramp, in MODE 1. -/
def tgtNow (s : State) (r : GroupRun) : List Nat := (List.range 6).map (fun c => s.trimmed r c ((r.tgt.getD c (Ramp.fixed 0)).now))
def tgtEnd (s : State) (r : GroupRun) : List Nat := if r.mode == 1 then (List.range 6).map (fun c => s.trimmed r c ((r.tgt.getD c (Ramp.fixed 0)).stop)) else [0, 0, 0, 0, 0, 0]

/-- The entry of a group as mapped fixtures follow it (R214, R388): 4.12 as 4.16. -/
def groupEntry (s : State) (r : GroupRun) : List Word :=
  W (s.outNow r + 0x10000 * r.mode) :: (if r.mode == 1 then s.tgtNow r else [0, 0, 0, 0, 0, 0]).map (fun v => W (16 * v))

/-- The lanterns of a group (R382, R388). -/
def lanterns (s : State) (g : Nat) : List Nat :=
  (s.registry.filter (fun e => e.1 % 64 == 0 && bit e.2 0 && bit e.2 4 && (fld e.2 1 3 == 3 || fld e.2 1 3 == 4) &&
    fld (s.regw (e.1 / 64) 1) 16 12 == g && bit (s.regw (e.1 / 64) 1) 28)).map (fun e => e.1 / 64)

/-- Lanterns are sent the final level, the target and the remaining ramp when one of them has changed (R388); the group's entry is written. -/
def groupOut (g : Nat) (s : State) : State :=
  let r := s.group g
  let lvl := s.outEnd r
  let tgt := s.tgtEnd r
  let s := { s.gmStore g (s.groupEntry r) with gmDirty := true }
  if r.sent == some (lvl, r.mode, tgt) && s.outNow r == lvl then s
  else
    let body := leBytes 2 lvl ++ leBytes 1 r.mode ++ [0] ++ leBytes 4 (s.outRamp r) ++ (tgt.map (fun v => leBytes 2 v)).flatten
    let s := s.setGroup g { r with sent := some (lvl, r.mode, tgt) }
    (s.lanterns g).foldl (fun a f => a.fleetSend f 1 0 body) s

/-- FP swaps the group entries that it has written, with GM_GO.NOW (R216, R388); while a swap is under way it waits. -/
def groupSwap (s : State) : State :=
  if s.gmDirty && s.up 19 && s.gmArm.isNone && s.gmOld.isNone then { s.gmGo true with gmDirty := false } else s

/-- A group has a new winner (R388, R389). -/
def newWinner (g : Nat) (w : Option Nat) (s : State) : State :=
  let r := s.group g
  match w with
  | some i =>
    let len := 100 * fld (s.schw i 3) 16 16
    let on := bit (s.schw i 0) 15
    let chan := fun (c : Nat) => fld (s.schw i (4 + c / 2)) (16 * (c % 2)) 16
    let r := { r with win := some i, ramp := len, sched := r.sched.towards (fld (s.schw i 3) 0 16) len, mode := b2n on
                      tgt := if on then (List.range 6).map (fun c => (r.tgt.getD c (Ramp.fixed 0)).towards (chan c) len) else r.tgt }
    let l := fld (s.schw i 7) 0 6
    let s := if l == 0 then s else { s with loops := Sparse.drop s.loops l }.wr (Reg.SCH.LOOP_TRIM l) 0x4000
    (s.setGroup g r).groupOut g
  | none => (s.setGroup g { r with win := none, sched := r.sched.towards 0 r.ramp }).groupOut g

/-- The reading of a loop (R389, R396): none when it is older than 300 s. -/
def loopReading (s : State) (l utc : Nat) : Option Int :=
  let w := s.loopw l 0
  if bit w 17 then some ((fld (s.rd (Reg.SIO.AIN (fld w 0 3))) 0 16 : Nat) : Int)
  else
    let r := Sparse.get (fun _ => SensorRead.init) s.sensors (16 * fld w 0 17 + fld w 20 4)
    if r.has && utc ≤ r.utc + 300 then some r.value else none

/-- One second of a loop (R389). -/
def loopSecond (utc l : Nat) (s : State) : State :=
  match s.loopReading l utc with
  | none =>
    let f := fld (s.loopw l 0) 0 17
    (s.faultIs f 8 true 0).raise 29 2
  | some v =>
    let x := s.loopRun l
    let lo : Int := 1024 * (fld (s.loopw l 3) 0 16 : Nat)
    let hi : Int := 1024 * (fld (s.loopw l 3) 16 16 : Nat)
    let t := clampI lo hi (x.trim + (s.loopw l 2).toInt * ((s.loopw l 1).toInt - v))
    let n := if t == lo || t == hi then Nat.min 61 (x.limit + 1) else 0
    let s := { s with loops := Sparse.set (fun _ => LoopRun.init) s.loops l { trim := t, limit := n } }.wr (Reg.SCH.LOOP_TRIM l) (W (t / 1024).toNat)
    if n == 60 then s.raise 29 2 else s

/-- The fleet engine may change a group (R47, R386, R396). -/
def schRuns (s : State) : Bool :=
  s.fpUp && s.up 29 && s.mode != .hold && bit (s.rd Reg.SCH.CFG) 0

/-- A new local day: DUSK and DAWN, and the entries whose references do not exist on it (R386, R387). -/
def newDay (utc : Nat) (day : Int) (s : State) : State :=
  let show_ := fun (x : Option Int) => match x with | some v => W v.toNat | none => 0x1FFFF
  let s := (s.wr Reg.SCH.DUSK (show_ (s.sunOf true utc day))).wr Reg.SCH.DAWN (show_ (s.sunOf false utc day))
  let s := { s with schDay := some day }
  if s.schEntries.any (fun i => bit (s.schw i 0) (5 + ((day + 5) % 7).toNat) && (s.occurrence utc i day).isNone) then s.raise 29 0 else s

/-- The schedule is evaluated at a whole second of UTC (R386, R388, R389). -/
def schedule (utc : Nat) (s : State) : State :=
  if !s.schRuns || !bit (s.rd Reg.RTC.STATUS) 0 then s
  else
    let l := s.localSec utc
    let day := l / 86400
    let s := s.wr Reg.SCH.LOCAL_TIME (W ((l % 86400).toNat + 0x20000 * ((day + 5) % 7).toNat + 0x100000 * b2n (s.isDst utc)))
    let s := if s.schDay == some day then s else s.newDay utc day
    let gs := (s.schGroups ++ (s.groups.filter (fun e => match e.2 with | some r => r.win.isSome | none => false)).map (fun e => e.1)).eraseDups
    let s := gs.foldl (fun a g => let w := a.winnerAt utc g; if w == (a.group g).win then a else a.newWinner g w) s
    let ls := (gs.filterMap (fun g => s.groupLoop (s.group g))).eraseDups
    let s := ls.foldl (fun a l => a.loopSecond utc l) s
    let s := (gs.filter (fun g => (s.groupLoop (s.group g)).isSome)).foldl (fun a g => a.groupOut g) s
    (s.wr Reg.SCH.NEXT_CHANGE (W (s.nextChange utc))).groupSwap

/-- A ramp tick (R388): each ramp has run `ms` longer; a rule ramp that is back at the schedule level ends. -/
def rampTick (ms : Nat) (s : State) : State :=
  if !s.schRuns then s
  else
    let moving := fun (r : GroupRun) => r.sched.runs || r.tgt.any Ramp.runs || (match r.rule with | some x => x.runs || r.ending | none => false)
    let run := s.groups.filterMap (fun e => match e.2 with | some r => if moving r then some (e.1, r) else none | none => none)
    let s := run.foldl (fun a e =>
      let r := e.2
      let rule := r.rule.map (Ramp.pass ms)
      let isOver := match rule with | some x => r.ending && x.len ≤ x.at_ | none => false
      let r := { r with sched := r.sched.pass ms, tgt := r.tgt.map (Ramp.pass ms), rule := if isOver then none else rule, ending := r.ending && !isOver }
      let a := a.setGroup e.1 r
      { a.gmStore e.1 (a.groupEntry r) with gmDirty := true }) s
    s.groupSwap

/-- The time between ramp ticks, ms: CFG.RAMP_TICK (R388, R396). -/
def rampMs (s : State) : Nat := 10 * clampN 2 100 (fld (s.rd Reg.SCH.CFG) 8 8)

/-! Traffic rules (R390). -/

/-- A word of a rule. -/
def rulew (s : State) (i w : Nat) : Word := Sparse.get (fun _ => 0) s.rules (8 * i + w)

/-- The rules of a group that are in hold at a UTC second (R390). -/
def rulesHeld (s : State) (g utc : Nat) : List Nat :=
  (s.ruleEnds.filter (fun e => utc < e.2 && bit (s.rulew e.1 0) 0 && fld (s.rulew e.1 0) 16 12 == g)).map (fun e => e.1)

/-- The largest LEVEL of rules. -/
def ruleMax (s : State) (l : List Nat) : Nat := (l.map (fun i => fld (s.rulew i 2) 0 16)).foldl Nat.max 0

/-- It is night: from the day's dusk to the next dawn (R390). -/
def isNight (s : State) (utc : Nat) : Bool :=
  let l := s.localSec utc
  let d := l / 86400
  [d - 1, d].any (fun x =>
    match s.sunOf true utc x with
    | none => false
    | some k =>
      let dusk := x * 86400 + k
      let dawn := match s.sunOf false utc x, s.sunOf false utc (x + 1) with
        | some a, n => if k < a then some (x * 86400 + a) else n.map (fun b => (x + 1) * 86400 + b)
        | none, n => n.map (fun b => (x + 1) * 86400 + b)
      dusk ≤ l && (match dawn with | some a => l < a | none => false))

/-- A rule is triggered at a UTC second (R390). -/
def ruleTrigger (utc i : Nat) (s : State) : State :=
  if !s.schRuns || (bit (s.rulew i 0) 3 && !s.isNight utc) then s
  else
    let g := fld (s.rulew i 0) 16 12
    let inHold := utc < Sparse.get (fun _ => 0) s.ruleEnds i
    let s := (s.bumpWrap Reg.SCH.TRIGGERS).raise 29 1
    let s := { s with ruleEnds := Sparse.set (fun _ => 0) s.ruleEnds i (utc + fld (s.rulew i 3) 0 16) }
    let r := s.group g
    let lvl := s.ruleMax (s.rulesHeld g utc)
    let same := match r.rule with | some x => !r.ending && x.stop == lvl | none => false
    if inHold || same then s
    else
      let x : Ramp := { start := s.outNow r, stop := lvl, len := 100 * fld (s.rulew i 2) 16 16, at_ := 0 }
      ((s.setGroup g { r with rule := some x, ending := false }).groupOut g).groupSwap

/-- The rules that a trigger starts. -/
def triggered (s : State) (kind source : Nat) : List Nat :=
  (s.rules.filter (fun e => e.1 % 8 == 0 && bit e.2 0 && fld e.2 1 2 == kind && fld (s.rulew (e.1 / 8) 1) 0 17 == source)).map (fun e => e.1 / 8)

/-- The hold of a rule ends (R390; DESIGN CHOICE, log entry 47 for a hold that is not the last). -/
def ruleEnd (i utc : Nat) (s : State) : State :=
  let e := Sparse.get (fun _ => 0) s.ruleEnds i
  if !s.schRuns || e == 0 || utc < e then s
  else
    let g := fld (s.rulew i 0) 16 12
    let s := { s with ruleEnds := Sparse.drop s.ruleEnds i }
    let r := s.group g
    let left := s.rulesHeld g utc
    let len := 100 * fld (s.rulew i 3) 16 16
    let lvl := if left.isEmpty then s.schedNow r else s.ruleMax left
    match r.rule with
    | none => s
    | some x =>
      if !left.isEmpty && x.stop == lvl then s
      else
        let x : Ramp := { start := s.outNow r, stop := lvl, len := len, at_ := 0 }
        ((s.setGroup g { r with rule := some x, ending := left.isEmpty }).groupOut g).groupSwap

/-! Up records. -/

/-- A record is refused (R377, R395). -/
def recRefuse (s : State) : State := (s.bump Reg.FLT.REFUSED).raise 28 3

/-- An image takes a state; each change raises FLT event bit 2 (R394). -/
def imgState (i st : Nat) (s : State) : State :=
  { s with images := Sparse.upd (fun _ => NodeImg.init) s.images i (fun x => { x with state := st }) }.journal s |>.raise 28 2

/-- An image. -/
def img (s : State) (i : Nat) : NodeImg := Sparse.get (fun _ => NodeImg.init) s.images i

/-- The registers of the campaign follow it (R395). -/
def campRegs (s : State) : State :=
  let c := s.camp
  (((s.wr Reg.FLT.IMG_ROUND (W (c.round % 16))).wr Reg.FLT.IMG_TARGETS (W c.targets.length)).wr Reg.FLT.IMG_ACKED (W c.acked.length)).wr Reg.FLT.IMG_FAILED
    (W c.failed.length)

/-- The targets that have neither finished nor failed. -/
def campLeft (s : State) : List Nat := s.camp.targets.filter (fun f => !s.camp.acked.contains f && !s.camp.failed.contains f)

/-- A record goes to every target, on each port and network where targets lie (R380, R394). -/
def campSend (type : Nat) (body : List Byte) (s : State) : State :=
  let ts := s.camp.targets
  let kind := fun (f : Nat) => fld (s.regw f 0) 1 3
  let ports := ((ts.filter (fun f => kind f == 0 && bit (s.regw f 16) 0)).map (fun f => fld (s.regw f 21) 4 5)).eraseDups
  let gws := ((ts.filter (fun f => kind f == 4)).map (fun f => fld (s.regw f 10) 0 17)).eraseDups
  s.fleetSign 0 type 4 body (fun r a =>
    let a := ports.foldl (fun b p => b.gzMgmt p true 0 1 r) a
    let a := if ts.any (fun f => kind f == 3) then { a with radio := { a.radio with bcast := a.radio.bcast ++ [2 :: r] } } else a
    gws.foldl (fun b g => b.gateway g r) a)

/-- The chunks that some target still misses: all of them for a target that has reported nothing (R394). -/
def campMissing (s : State) : List Nat :=
  let n := ((s.img s.camp.image).size + 31) / 32
  let left := s.campLeft
  if left.any (fun f => !s.camp.miss.any (fun e => e.1 == f)) then List.range n
  else (List.range n).filter (fun c => s.camp.miss.any (fun e => left.contains e.1 && e.2.contains c))

/-- A round: IMG_OFFER, then the chunks (R378, R394). -/
def campRound (s : State) : State :=
  let i := s.camp.image
  let x := s.img i
  let offer := leBytes 1 i ++ [0, 0, 0] ++ leBytes 4 x.version.toNat ++ leBytes 4 x.size ++ leBytes 4 x.target.toNat ++ fitBytes 16 x.digest
  let chunks := s.campMissing
  chunks.foldl (fun a c =>
    a.campSend 8 (leBytes 1 i ++ leBytes 3 c ++ fitBytes 32 (Sparse.get (fun _ => []) x.chunks c))) (s.campSend 7 offer)

/-- The targets of an image (R394; DESIGN CHOICE, log entry 48 for nodes whose IDENT holds no VENDOR and MODEL). -/
def campTargets (s : State) (i : Nat) : List Nat :=
  let sc := s.rd Reg.FLT.IMG_SCOPE
  (s.registry.filter (fun e => e.1 % 64 == 0 && bit e.2 0 && bit e.2 6 && (fld e.2 1 3 == 3 || s.regw (e.1 / 64) 2 == (s.img i).target) &&
    (bit sc 12 || fld (s.regw (e.1 / 64) 1) 16 12 == fld sc 0 12))).map (fun e => e.1 / 64)

/-- A campaign begins (R394). -/
def campStart (i : Nat) (s : State) : State :=
  let s := { s.imgState i 4 with camp := { Campaign.init with image := i, round := 1, targets := s.campTargets i } }
  s.campRound.campRegs

/-- The next queued image is distributed (R394). -/
def campNext (s : State) : State :=
  match s.imgQueue with
  | i :: t => { s with imgQueue := t }.campStart i
  | [] => s

/-- The campaign ends COMPLETE once every target has finished or failed (R394). -/
def campCheck (s : State) : State :=
  if (s.img s.camp.image).state == 4 && s.campLeft.isEmpty then (s.campRegs.imgState s.camp.image 5).campNext else s.campRegs

/-- A target fails (R391, R394). -/
def campFail (f res : Nat) (s : State) : State :=
  { s with camp := { s.camp with failed := s.camp.failed ++ [f] } }.fault f 7 true (W (s.camp.image + 0x100 * res))

/-- A node that sends is bound and heard (R382, R384, R391): through a gateway at its first record. -/
def nodeSends (f : Nat) (s : State) : State :=
  let kind := fld (s.regw f 0) 1 3
  if (kind == 4 || kind == 5) && !bit (s.regw f 16) 0 then
    if kind == 4 then s.bindNode f 4 (fld (s.regw f 10) 0 16) else (s.setReg f 21 5).nodeHeard f
  else s.nodeHeard f

/-- STATUS (R232, R234, R378, R382, R391). -/
def statusRec (f : Nat) (b : List Byte) (s : State) : State :=
  let fl := byteAt b 2
  let s := s.setReg f 20 (W (leAt b 4 2 + 0x10000 * leAt b 0 2))
  let s := { s with energyLog := Sparse.upd (fun _ => []) s.energyLog f (fun l => l ++ [(s.utcNow, leAt b 8 4)]) }
  let s := ((s.setReg f 18 (bodyWord b 8)).setReg f 19 (W s.utcNow)).setReg f 22 (bodyWord b 20) |>.setReg f 23 (bodyWord b 16)
  let s := if leAt b 0 2 == 0x8000 then s else s.heatReport f (sleAt b 0 2)
  let s := if fl.testBit 0 then s.otReport f else s
  let s := (s.faultIs f 3 (fl.testBit 1) 0).faultIs f 4 (fl.testBit 2) 0
  if fl.testBit 3 then s.fault f 9 true 0 else s

/-- PRESENCE triggers its rules (R390). -/
def presenceRec (f : Nat) (s : State) : State := (s.triggered 0 f).foldl (fun a i => a.ruleTrigger s.utcNow i) s

/-- SENSOR (R389, R391). -/
def sensorRec (f : Nat) (b : List Byte) (s : State) : State :=
  { s with sensors := Sparse.set (fun _ => SensorRead.init) s.sensors (16 * f + byteAt b 0) { value := sleAt b 4 4, utc := s.utcNow, has := true } }.faultIs f 8 false 0

/-- IMG_NACK (R394). -/
def nackRec (f : Nat) (b : List Byte) (s : State) : State :=
  let base := leAt b 1 3
  if (s.img s.camp.image).state != 4 || byteAt b 0 != s.camp.image || !s.campLeft.contains f then s
  else
    let got := ((s.camp.miss.find? (fun e => e.1 == f)).map (fun e => e.2)).getD []
    let new := (bitsOf (leAt b 4 32) 256).map (fun i => base + i)
    let all := got.filter (fun c => c < base || base + 256 ≤ c) ++ new
    { s with camp := { s.camp with miss := s.camp.miss.filter (fun e => e.1 != f) ++ [(f, all)] } }

/-- IMG_DONE (R394). -/
def doneRec (f : Nat) (b : List Byte) (s : State) : State :=
  if (s.img s.camp.image).state != 4 || byteAt b 0 != s.camp.image || !s.campLeft.contains f then s
  else if byteAt b 1 == 0 then { s with camp := { s.camp with acked := s.camp.acked ++ [f] } }.campCheck
  else (s.campFail f (byteAt b 1)).campCheck

/-- An up record that has been accepted (R378, R381): in HOLD only STATUS, PRESENCE and SENSOR are taken, into the status words. -/
def upRecord (type f : Nat) (b : List Byte) (s : State) : State :=
  let hold := s.mode == .hold
  let s := if hold && 9 ≤ type then s else s.nodeSends f
  if type == 2 then s.statusRec f b
  else if type == 5 then s.presenceRec f
  else if type == 6 then s.sensorRec f b
  else if hold then s
  else if type == 9 then s.nackRec f b else s.doneRec f b

/-! Host records: each answers with its RESULT (R379). -/

/-- IMG_OFFER (R393). -/
def offerRec (b : List Byte) (s : State) : State × Nat :=
  let i := byteAt b 0
  let size := leAt b 8 4
  if size < 1 || 8388608 < size then (s, 2)
  else if (s.img i).state == 4 then (s, 6)
  else
    let x : NodeImg := { state := (s.img i).state, version := bodyWord b 4, size := size, target := bodyWord b 12, digest := (b.drop 16).take 16, chunks := [] }
    let old := s
    let s := { s with images := Sparse.set (fun _ => NodeImg.init) s.images i x, imgQueue := s.imgQueue.filter (fun k => k != i) }
    (if x.state == 1 then s.journal old else s.imgState i 1, 0)

/-- IMG_CHUNK (R393). -/
def chunkRec (b : List Byte) (s : State) : State × Nat :=
  let i := byteAt b 0
  let c := leAt b 1 3
  let x := s.img i
  if x.state != 1 then (s, 6)
  else if x.size ≤ 32 * c then (s, 2)
  else ({ s with images := Sparse.set (fun _ => NodeImg.init) s.images i { x with chunks := Sparse.set (fun _ => []) x.chunks c ((b.drop 4).take 32) } }, 0)

/-- IMG_SEAL (R393): bytes of a chunk that was not sent are free (DESIGN CHOICE, log entry 48). -/
def sealRec (b : List Byte) (s : State) : State × Nat :=
  let i := byteAt b 0
  let x := s.img i
  if x.state != 1 then (s, 6)
  else
    let lost := s.freeBytes 32
    let data := ((List.range ((x.size + 31) / 32)).map (fun c => let d := Sparse.get (fun _ => []) x.chunks c; if d.isEmpty then lost else d)).flatten
    if Crypto.sha256 (data.take x.size) == (b.drop 4).take 32 then (s.useFree.imgState i 2, 0) else (s.useFree, 7)

/-- The current record, as the first write after a commit stages it (R383). -/
def stagedOf (s : State) (key f : Nat) : List Word :=
  let l := Sparse.get (fun _ => []) s.stageReg key
  if l.isEmpty then (List.range 64).map (s.regw f) else l

/-- REG_WRITE (R378, R383). -/
def regWriteRec (sender f : Nat) (b : List Byte) (s : State) : State × Nat :=
  let blk := byteAt b 0
  if blk == 2 || blk == 3 || 7 < blk then (s, 2)
  else
    let key := 131072 * sender + f
    let l := s.stagedOf key f
    let new := (List.range 64).map (fun w => if w / 8 == blk then bodyWord b (4 + 4 * (w % 8)) else l.getD w 0)
    ({ s with stageReg := Sparse.set (fun _ => []) s.stageReg key new }, 0)

/-- What the check of REG_COMMIT finds in a staged record, 0 if it passes (R382, R383). -/
def regCheck (s : State) (f : Nat) (l : List Word) : Nat :=
  let w := fun i => l.getD i 0
  let kind := fld (w 0) 1 3
  let pr := fld (w 1) 0 12
  let trim := fun (e : Nat) => fld (w (4 + e / 2)) (16 * (e % 2)) 16
  if 512 ≤ (w 0).toNat || kind == 7 || (w 1 &&& 0xE000F000) != 0 || 2 ^ 17 ≤ (w 10).toNat || 2 ^ 16 ≤ (w 11).toNat then 2
  else if !bit (w 0) 0 then 0
  else if bit (s.plan.pw pr 0) 0 && (List.range (s.plan.emitters pr)).any (fun e => !trimOk (trim e)) then 2
  else if kind == 4 && !(bit (s.regw (fld (w 10) 0 17) 0) 0 && fld (s.regw (fld (w 10) 0 17) 0) 1 3 == 5) then 2
  else if s.registry.any (fun e => e.1 % 64 == 0 && e.1 / 64 != f && bit e.2 0 && fld e.2 1 3 == kind && s.regw (e.1 / 64) 2 == w 2 && s.regw (e.1 / 64) 3 == w 3) then 4
  else 0

/-- A record leaves the registry: the campaign's targets too (R394). -/
def regGone (f : Nat) (s : State) : State :=
  let c := s.camp
  let no := fun (l : List Nat) => l.filter (fun x => x != f)
  { s with reports := Sparse.drop s.reports f, energyLog := Sparse.drop s.energyLog f, camp := { c with targets := no c.targets, acked := no c.acked, failed := no c.failed } }.campCheck

/-- REG_COMMIT (R383): status words stay, and are cleared when the record is removed. -/
def regCommitRec (sender f : Nat) (s : State) : State × Nat :=
  let key := 131072 * sender + f
  let l := Sparse.get (fun _ => []) s.stageReg key
  if l.isEmpty then (s, 3)
  else
    let c := s.regCheck f l
    if c != 0 then (s, c)
    else
      let keep := bit (l.getD 0 0) 0
      let old := s
      let s := { s with stageReg := Sparse.drop s.stageReg key }
      let s := (List.range 64).foldl (fun a i =>
        if 16 ≤ i && i < 32 then (if keep then a else a.setReg f i 0) else a.setReg f i (l.getD i 0)) s
      ((if keep then s else s.regGone f).journal old, 0)

/-- What the check of a schedule entry finds (R385). -/
def schOk (l : List Word) : Bool :=
  let w := fun i => l.getD i 0
  let rng := fun (ref : Nat) (v : Int) => if ref == 0 then 0 ≤ v && v ≤ 86399 else -43200 ≤ v && v ≤ 43200
  (w 0).toNat < 2 ^ 28 && fld (w 0) 1 2 != 3 && fld (w 0) 3 2 != 3 && fld (w 0) 5 7 != 0 && (w 7).toNat < 64 &&
    rng (fld (w 0) 1 2) (w 1).toInt && rng (fld (w 0) 3 2) (w 2).toInt

/-- What the check of a traffic rule finds (R390). -/
def ruleOk (l : List Word) : Bool :=
  let w := fun i => l.getD i 0
  (w 0 &&& 0xF000FFF0) == 0 && fld (w 0) 1 2 < 2 && (w 1).toNat < (if fld (w 0) 1 2 == 1 then 8 else 2 ^ 17) && fld (w 3) 0 16 != 0 &&
    (List.range 4).all (fun i => w (4 + i) == 0)

/-- SCHED_SET and RULE_SET (R385, R390, R396). -/
def tableRec (rule : Bool) (b : List Byte) (s : State) : State × Nat :=
  let i := leAt b 0 2
  let l := (List.range 8).map (fun w => bodyWord b (4 + 4 * w))
  if (if rule then 4096 ≤ i || !ruleOk l else 16384 ≤ i || !schOk l) then (s.raise 29 3, 2)
  else
    let put := fun (t : Sparse Word) => (List.range 8).foldl (fun t w => Sparse.set (fun _ => 0) t (8 * i + w) (l.getD w 0)) t
    ((if rule then { s with rules := put s.rules } else { s with sched := put s.sched }).journal s, 0)

/-- A host record (R378-R381, R383-R394): the state and its RESULT; `sender` 0 the host client, 1 the mailbox. -/
def hostRecord (type sender : Nat) (r : FleetRec) (s : State) : State × Nat :=
  let b := fitBytes 40 r.body
  let f := r.id.toNat % 131072
  if !isHost type then (s, 1)
  else if recReserved type r then (s, 2)
  else if s.mode == .hold then (s, 5)
  else if type == 7 then s.offerRec b
  else if type == 8 then s.chunkRec b
  else if type == 20 then s.sealRec b
  else if type == 16 then s.regWriteRec sender f b
  else if type == 17 then s.regCommitRec sender f
  else s.tableRec (type == 19) b

/-- A record is answered with an ACK, its INFO free (R378, R379; DESIGN CHOICE, log entry 48). -/
def ackBody (s : State) (r : FleetRec) (res : Nat) : List Byte := leBytes 4 r.seq.toNat ++ leBytes 1 res ++ [0, 0, 0] ++ s.freeBytes 4

/-! Reception (R377, R380, R381). -/

/-- The checks of R377 beside TAG and SEQ: nothing reserved, a type of the sender's direction, a sender that may send. -/
def recSender (s : State) (type : Nat) (via : FleetVia) (r : FleetRec) : Bool :=
  !recReserved type r &&
    (match via with
     | .node => isUp type && r.flags.toNat % 8 < 2 && bit (s.regw (r.id.toNat % 131072) 0) 0
     | .hostClient => isHost type && bit (s.rd Reg.FLT.HOST_CFG) 0)

/-- A record comes to FP over Gyzor, Tulle or UDP (R377-R381); while FP is not at work it waits (R13). -/
def fleetIn (type : Nat) (via : FleetVia) (r : FleetRec) (s : State) : State :=
  if !s.fpUp then { s with fpWait := s.fpWait ++ [.record type via r] }
  else
    let f := r.id.toNat % 131072
    let seqOld := match via with | .node => s.regw f 24 | .hostClient => s.rd Reg.FLT.HOST_SEQ
    let okTag := match s.fleetKey (r.key == 1) with
      | some key => fleetTag key ((recBytes type r).take 52) == fitBytes 12 r.tag
      | none => false
    if 2 ≤ r.key.toNat then s.recRefuse
    else if !okTag then (s.bump Reg.FLT.AUTH_FAIL).raise 28 3
    else if r.seq.toNat ≤ seqOld.toNat then (s.bump Reg.FLT.REPLAY).raise 28 3
    else if !s.recSender type via r then s.recRefuse
    else
      let s := s.bumpWrap Reg.FLT.RX_OK
      let ack := bit (W r.flags.toNat) 0
      match via with
      | .node =>
        let s := (s.setReg f 24 r.seq).upRecord type f (fitBytes 40 r.body)
        if ack then s.useFree.fleetSend f 32 0 (s.ackBody r 0) else s
      | .hostClient =>
        let p := (s.wr Reg.FLT.HOST_SEQ r.seq).hostRecord type 0 r
        let s := if p.2 == 0 then p.1 else p.1.recRefuse
        if ack then s.useFree.fleetHostSend r.id.toNat 32 (s.ackBody r p.2) else s

/-- The sender of the records of a datagram (R380): none unless it comes from the host client's address or from a gateway in the registry, on a port of PORT_EN, to UDP_PORT, with the header of 8 bytes
and as many records as it says. -/
def dgramSender (s : State) (d : FleetDgram) : Option FleetVia :=
  let c := s.rd Reg.FLT.HOST_CFG
  if !bit (s.rd Reg.FLT.NET_CFG) d.eth || d.port.toNat != fld (s.rd Reg.FLT.NET_CFG) 16 16 then none
  else if d.head != [0x50, 0x46, 0x52, 1] ++ leBytes 1 d.records ++ [0, 0, 0] || d.records < 1 || 16 < d.records then none
  else if bit c 0 && bit c 1 == d.v6 && s.hostAddr == d.src then some .hostClient
  else if s.registry.any (fun e => e.1 % 64 == 0 && bit e.2 0 && fld e.2 1 3 == 5 && bit e.2 8 == d.v6 && s.gwAddr (e.1 / 64) == d.src) then some .node
  else none

/-- The sender of a record by the way it came (R377, R380). -/
def pathSender (s : State) (path : FleetPath) : Option FleetVia :=
  match path with
  | .gyzor => some .node
  | .udp d => s.dgramSender d

/-- A record comes to FP by a Gyzor port or in a datagram (R380). -/
def fleetRx (type : Nat) (path : FleetPath) (r : FleetRec) (s : State) : State :=
  match s.pathSender path with
  | some via => s.fleetIn type via r
  | none => s

/-- The mailbox (R377, R380, R395). -/
def mailbox (s : State) : State :=
  let b := ((List.range 16).map (fun w => leBytes 4 (s.rd (Reg.FLT.MB_IN w)).toNat)).flatten
  let p := s.hostRecord (recOf b).1 1 (recOf b).2
  let s := if p.2 == 0 then p.1.bumpWrap Reg.FLT.RX_OK else p.1.recRefuse
  s.wr Reg.FLT.MB_STATUS (W (2 + 0x100 * p.2))

/-- MB_GO (R380, R395). -/
def mbGo (s : State) : State :=
  if fld (s.rd Reg.FLT.MB_STATUS) 0 2 == 1 then s
  else if s.fpUp then s.mailbox
  else { s.wr Reg.FLT.MB_STATUS 1 with fpWait := s.fpWait ++ [.mailbox] }

/-- An enabled SIO edge triggers its rules (R304, R390). -/
def edgeRules (j : Nat) (s : State) : State :=
  if s.fpUp then (s.triggered 1 j).foldl (fun a i => a.ruleTrigger s.utcNow i) s else { s with fpWait := s.fpWait ++ [.edge j] }

/-- A FLEET uplink (R54, R360, R370). -/
def tulleRx (h : RadHead) (k : Nat) (event phase sfd : Word) (type : Nat) (r : FleetRec) (room : Bool) (s : State) : State :=
  let p := s.uplink k 2 73 h event phase sfd room
  if !p.2 then p.1
  else
    let s := if p.1.mode == .doze then (p.1.fleetIn type .node r).wakeSource 3 else p.1.fleetIn type .node r
    s.uplinkReply k event sfd

/-- A node has not been heard for a time, s, that reaches 3 x its REPORT interval (R382, R391): one behind a gateway is lost. -/
def reportTimeout (f seconds : Nat) (s : State) : State :=
  let kind := fld (s.regw f 0) 1 3
  if !s.fpUp || !bit (s.regw f 0) 0 || !bit (s.regw f 16) 0 || seconds < 3 * Sparse.get (fun _ => 0) s.reports f then s
  else if kind == 4 then s.nodeGone f
  else if kind == 3 || kind == 5 then s.setReg f 16 (setBit (s.regw f 16) 0 false)
  else s

/-! Feeder energy (R392). -/

/-- An energy in signed Wh, rounded down (DESIGN CHOICE, log entry 48). -/
def whOf (v : Rat) : Word := BitVec.ofInt 32 v.floor

end State

/-- A node's energy at a UTC second, Wh above that of its first report in the list, interpolated between the two reports that bracket it (R392); ENERGY wraps at 2^32. -/
def energyAt (t base : Nat) : List (Nat × Nat) → Option Rat
  | a :: b :: l =>
    let d : Nat := (b.2 + 2 ^ 32 - a.2) % 2 ^ 32
    if a.1 ≤ t && t ≤ b.1 then some (if a.1 == b.1 then (base : Rat) else (base : Rat) + (d : Rat) * ((t - a.1 : Nat) : Rat) / ((b.1 - a.1 : Nat) : Rat))
    else energyAt t (base + d) (b :: l)
  | _ => none

/-- The reports that a later period may need: from the last one at or before a UTC second. -/
def energyKeep (t : Nat) : List (Nat × Nat) → List (Nat × Nat)
  | a :: b :: l => if b.1 ≤ t then energyKeep t (b :: l) else a :: b :: l
  | l => l

namespace State

/-- A node's energy from `a` to `e`, if reports bracket both ends (R392). -/
def nodeEnergy (s : State) (a e f : Nat) : Option Rat :=
  let l := Sparse.get (fun _ => []) s.energyLog f
  match energyAt a 0 l, energyAt e 0 l with
  | some x, some y => some (y - x)
  | _, _ => none

/-- FP compares the loss period that ended last, once (R392): the feeder against the nodes, those without bracketing reports at their energy of the period before; a period that overlaps a metering gap
or that FP has not followed from its start is skipped. -/
def lossEnd (s : State) : State :=
  let period := s.lossPeriod
  let e := s.periodEnd
  let a := e - period
  if !s.fpUp || e ≤ s.lossLast then s
  else
    let all := (s.registry.filter (fun x => x.1 % 64 == 0 && bit x.2 0 && bit x.2 7)).map (fun x => x.1 / 64)
    let rep := (all.filter (fun f => (s.nodeEnergy a e f).isSome)).length
    let energy := fun (f : Nat) => (s.nodeEnergy a e f).getD (Sparse.get (fun _ => 0) s.lossPrev f)
    let eN : Rat := (all.map energy).foldl (· + ·) 0
    let m0 := s.feedAt a
    let m1 := s.feedAt e
    let followed := match s.lossFrom with | some t => decide (t ≤ a) | none => false
    let s := { s with lossLast := e, lossPrev := all.foldl (fun m f => Sparse.set (fun _ => 0) m f (energy f)) []
                      energyLog := s.energyLog.map (fun (x : Nat × List (Nat × Nat)) => (x.1, energyKeep e x.2))
                      feedMarks := if s.feedMarks.any (fun m => e ≤ m.at_) then s.feedMarks.filter (fun m => e ≤ m.at_) else [m1] }
    if !followed || m0.gap || m1.gap || m0.gaps != m1.gaps || 20 * rep < 19 * all.length then s.bump Reg.FLT.LOSS_SKIPPED
    else
      let cfg := s.rd Reg.FLT.LOSS_CFG
      let eF : Rat := (((m1.total + 2 ^ 64 - m0.total) % 2 ^ 64 : Nat) : Rat) / 1000
      let loss : Rat := eF - eN - ((fld (s.rd Reg.FLT.LOSS_FIXED) 0 16 * period : Nat) : Rat) / 36000
      let isOver := (fld cfg 16 8 : Nat) * eF / 1000 < loss && ((fld (s.rd Reg.FLT.LOSS_MIN) 0 16 : Nat) : Rat) < loss
      let run := if isOver then Nat.min 255 (fld (s.rd Reg.FLT.LOSS_STATUS) 24 8 + 1) else 0
      let was := bit (s.rd Reg.FLT.LOSS_STATUS) 16
      let alarm := isOver && (was || clampN 1 255 (fld cfg 24 8) ≤ run)
      let cover := if all.isEmpty then 1000 else 1000 * rep / all.length
      let s := ((s.wr Reg.FLT.FEEDER_E (whOf eF)).wr Reg.FLT.NODES_E (whOf eN)).wr Reg.FLT.LOSS_LAST (whOf loss)
      let s := s.wr Reg.FLT.LOSS_STATUS (W (cover + 0x10000 * b2n alarm + 0x1000000 * run))
      if alarm && !was then (s.fault 0x800000 6 true (whOf loss)).raise 28 1 else if was && !alarm then s.fault 0x800000 6 false (whOf loss) else s

/-! Image commands (R394, R395). -/

/-- IMG_SEL. -/
def imgSel (s : State) : Nat := fld (s.rd Reg.FLT.IMG_SEL) 0 5

/-- START (R394). -/
def imgStart (i : Nat) (s : State) : State :=
  let st := (s.img i).state
  if !s.fpUp then s
  else if st != 2 && st != 5 && st != 6 then s.err 28
  else if s.images.any (fun e => e.2.state == 4) then { s.imgState i 3 with imgQueue := s.imgQueue ++ [i] }
  else (s.campStart i).campCheck

/-- STOP (R394). -/
def imgStop (i : Nat) (s : State) : State :=
  let st := (s.img i).state
  if !s.fpUp then s
  else if st == 3 then { s.imgState i 6 with imgQueue := s.imgQueue.filter (fun k => k != i) }
  else if st == 4 then (s.imgState i 6).campNext
  else s.err 28

/-- DELETE (R394, R395; DESIGN CHOICE, log entry 48): not while the image is queued or distributing. -/
def imgDelete (i : Nat) (s : State) : State :=
  let st := (s.img i).state
  if !s.fpUp then s
  else if st == 0 || st == 3 || st == 4 then s.err 28
  else { s.imgState i 0 with images := Sparse.drop s.images i }

/-- ACTIVATE (R378, R394; DESIGN CHOICE, log entry 48): to every target that has acknowledged the campaign's image. -/
def imgActivate (i : Nat) (s : State) : State :=
  if !s.fpUp then s
  else if (s.img i).state < 4 || s.camp.image != i then s.err 28
  else
    let body := leBytes 1 i ++ [0, 0, 0] ++ leBytes 4 (s.rd Reg.FLT.IMG_ACT_AT).toNat
    s.camp.acked.foldl (fun a f => a.fleetSend f 11 0 body) s

/-- IMG_CMD for an image as a whole: its bits in the order START, STOP, DELETE, ACTIVATE (R395; DESIGN CHOICE, log entry 12). -/
def imgCmdFor (i : Nat) (v : Word) (s : State) : State :=
  let s := if bit v 0 then s.imgStart i else s
  let s := if bit v 1 then s.imgStop i else s
  let s := if bit v 2 then s.imgDelete i else s
  if bit v 3 then s.imgActivate i else s

/-- IMG_CMD for the selected image; while FP restarts it waits (R13, R395). -/
def imgCmd (v : Word) (s : State) : State := s.fpDue (.image s.imgSel v) (State.imgCmdFor s.imgSel v)

/-- A round ends (R394): the next begins, or after the last every target without IMG_DONE fails, its RESULT free. -/
def imgRound (s : State) : State :=
  if !s.fpUp || s.mode == .hold || (s.img s.camp.image).state != 4 then s
  else if Nat.max 1 (fld (s.rd Reg.FLT.IMG_CFG) 0 4) ≤ s.camp.round then
    (s.campLeft.foldl (fun a f => (a.useFree.campFail f (fld a.freeW 0 8))) s).campCheck
  else ({ s with camp := { s.camp with round := s.camp.round + 1 } }.campRound).campRegs

/-- FP takes the work that waited for it: fault records, then the rest in order of arrival (R13, R381). -/
def fpFlush (s : State) : State :=
  if !s.fpUp then s
  else
    s.fpWait.foldl (fun a w =>
      match w with
      | .join ext sample => a.joinCheck ext sample
      | .record type via r => a.fleetIn type via r
      | .mailbox => a.mailbox
      | .edge j => a.edgeRules j
      | .schedule => a.schedule a.utcNow
      | .ramp => a.rampTick a.rampMs
      | .ruleEnd i => a.ruleEnd i a.utcNow
      | .silent f n => a.reportTimeout f n
      | .loss => a.lossEnd
      | .image i v => a.imgCmdFor i v
      | .imgRound => a.imgRound) { s.flushFaults with fpWait := [] }

/-! Selections. -/

/-- LOG_SEL copies a record (R395; DESIGN CHOICE, log entry 49 for the layout of LOG_REC). -/
def logSel (v : Word) (s : State) : State :=
  let ws : List Word := match s.faults.find? (fun r => r.seq == v) with
    | some r => [r.seq, r.time, W r.id, W (r.code + 0x100 * b2n r.raised), r.detail]
    | none => []
  (List.range 8).foldl (fun a w => a.wr (Reg.FLT.LOG_REC w) (ws.getD w 0)) (s.wr Reg.FLT.LOG_SEL v)

/-- GROUP_SEL copies GROUP_WIN and GROUP_OUT (R396). -/
def groupSel (v : Word) (s : State) : State :=
  let g := fld v 0 12
  let r := s.group g
  let hold := !(s.rulesHeld g s.utcNow).isEmpty
  let win := match r.win with | some i => i | none => 0x8000
  ((s.wr Reg.SCH.GROUP_SEL (W g)).wr Reg.SCH.GROUP_WIN (W (win + 0x10000 * b2n hold))).wr Reg.SCH.GROUP_OUT (W (s.schedNow r + 0x10000 * s.outNow r))

/-- The word of the acknowledgement bitmap that IMG_MAP_INDEX selects (R395). -/
def imgMapWord (s : State) : Word :=
  let i := fld (s.rd Reg.FLT.IMG_MAP_INDEX) 0 12
  W ((s.camp.acked.filter (fun f => f / 32 == i)).foldl (fun m f => m ||| 2 ^ (f % 32)) 0)

/-- A read of IMG_MAP_DATA advances the index (R395). -/
def imgMapNext (s : State) : State := s.wr Reg.FLT.IMG_MAP_INDEX (W ((fld (s.rd Reg.FLT.IMG_MAP_INDEX) 0 12 + 1) % 4096))

end State

/-- TULLE_FLEET_RX (R360). -/
def execTulleFleetRx (h : RadHead) (k : Fin 1024) (event phase sfd : Word) (type : Byte) (rec_ : FleetRec) (room : Bool) (s : State) : Out :=
  .next (s.tulleRx h k event phase sfd type.toNat rec_ room)

/-- DIN_EDGE (R304, R390). -/
def execDinEdge (j : Fin 8) (mv : Int) (ua : Nat) (s : State) : Out :=
  .next (
    let on := match s.dinLevel j mv ua with | some level => s.dinEnabled j level | none => false
    let s := s.dinEdge j mv ua
    if on then s.edgeRules j else s)

/-- STATUS_RECORD (R378). -/
def execStatusRecord (path : FleetPath) (r : FleetRec) (s : State) : Out := .next (s.fleetRx 2 path r)

/-- PRESENCE_RECORD (R390). -/
def execPresenceRecord (path : FleetPath) (r : FleetRec) (s : State) : Out := .next (s.fleetRx 5 path r)

/-- SENSOR_RECORD (R389). -/
def execSensorRecord (path : FleetPath) (r : FleetRec) (s : State) : Out := .next (s.fleetRx 6 path r)

/-- IMG_NACK (R394). -/
def execImgNack (path : FleetPath) (r : FleetRec) (s : State) : Out := .next (s.fleetRx 9 path r)

/-- IMG_DONE (R394). -/
def execImgDone (path : FleetPath) (r : FleetRec) (s : State) : Out := .next (s.fleetRx 10 path r)

/-- IMG_OFFER (R393). -/
def execImgOffer (path : FleetPath) (r : FleetRec) (s : State) : Out := .next (s.fleetRx 7 path r)

/-- IMG_CHUNK (R393). -/
def execImgChunk (path : FleetPath) (r : FleetRec) (s : State) : Out := .next (s.fleetRx 8 path r)

/-- IMG_SEAL (R393). -/
def execImgSeal (path : FleetPath) (r : FleetRec) (s : State) : Out := .next (s.fleetRx 20 path r)

/-- REG_WRITE (R383). -/
def execRegWrite (path : FleetPath) (r : FleetRec) (s : State) : Out := .next (s.fleetRx 16 path r)

/-- REG_COMMIT (R383). -/
def execRegCommit (path : FleetPath) (r : FleetRec) (s : State) : Out := .next (s.fleetRx 17 path r)

/-- SCHED_SET (R385). -/
def execSchedSet (path : FleetPath) (r : FleetRec) (s : State) : Out := .next (s.fleetRx 18 path r)

/-- RULE_SET (R390). -/
def execRuleSet (path : FleetPath) (r : FleetRec) (s : State) : Out := .next (s.fleetRx 19 path r)

/-- MB_GO (R380). -/
def execMbGo (r : Requester) (s : State) : Out := .next (s.access r Reg.FLT.MB_GO 1 State.mbGo)

/-- NODE_REPORT_TIMEOUT (R391). -/
def execNodeReportTimeout (f : Fin 131072) (seconds : Nat) (s : State) : Out :=
  .next (s.fpDue (.silent f seconds) (State.reportTimeout f seconds))

/-- SCHEDULE_EVAL (R386). -/
def execScheduleEval (s : State) : Out := .next (s.fpDue .schedule (State.schedule s.utcNow))

/-- RAMP_TICK (R388). -/
def execRampTick (s : State) : Out := .next (s.fpDue .ramp (State.rampTick s.rampMs))

/-- RULE_HOLD_END (R390). -/
def execRuleHoldEnd (rule : Fin 4096) (s : State) : Out := .next (s.fpDue (.ruleEnd rule) (State.ruleEnd rule s.utcNow))

/-- LOSS_PERIOD_END (R392). -/
def execLossPeriodEnd (s : State) : Out := .next (s.fpDue .loss State.lossEnd)

/-- IMG_START (R394). -/
def execImgStart (r : Requester) (s : State) : Out := .next (s.access r Reg.FLT.IMG_CMD 1 (State.imgCmd 1))

/-- IMG_STOP (R394). -/
def execImgStop (r : Requester) (s : State) : Out := .next (s.access r Reg.FLT.IMG_CMD 2 (State.imgCmd 2))

/-- IMG_DELETE (R394). -/
def execImgDelete (r : Requester) (s : State) : Out := .next (s.access r Reg.FLT.IMG_CMD 4 (State.imgCmd 4))

/-- IMG_ACTIVATE (R394). -/
def execImgActivate (r : Requester) (s : State) : Out := .next (s.access r Reg.FLT.IMG_CMD 8 (State.imgCmd 8))

/-- IMG_ROUND (R394). -/
def execImgRound (s : State) : Out := .next (s.fpDue .imgRound State.imgRound)

/-- LOG_SEL (R395). -/
def execLogSel (r : Requester) (v : Word) (s : State) : Out := .next (s.access r Reg.FLT.LOG_SEL v (State.logSel v))

/-- GROUP_SEL (R396). -/
def execGroupSel (r : Requester) (v : Word) (s : State) : Out := .next (s.access r Reg.SCH.GROUP_SEL v (State.groupSel v))

/-- IMG_MAP_READ (R395). -/
def execImgMapRead (r : Requester) (s : State) : Out := .next (s.readAccess r Reg.FLT.IMG_MAP_DATA s.imgMapWord State.imgMapNext)

end Sys2Proof.Machine
end

