-- ==== Sys2Proof/Machine/Update.lean ====
section
/-!
DEFINITION. Firmware update (R438-R449): loading, the check of an image, activation, trial, commit and revert; and the restart of a processor, which the
watchdog of R13 shares.
-/
namespace Sys2Proof.Machine

/-- Whether the header of a loaded image matches R438 for image `i`. -/
def headerOk (i : Nat) (b : List Byte) : Bool :=
  256 ≤ b.length && b.take 4 == [0x4D, 0x46, 0x57, 0x31] && byteAt b 4 == i && byteAt b 5 == 1 && leAt b 6 2 == 0 && leAt b 16 2 != 0 && leAt b 18 2 == 0 &&
    leAt b (20 + 4 * i) 4 == 0 && 1 ≤ leAt b 40 4 && leAt b 40 4 ≤ 16776960 && leAt b 44 4 == 0 && ((b.drop 144).take 48).all (fun x => x == 0)

namespace State

/-! Processors (R13, R70). -/

/-- Bits of processors in ROUTE order: SC 0, PP 1, FP 2, RP 3. A processor stops, with its PROC_STATE code. What RP had begun is abandoned (R369). -/
def procStop (p code : Nat) (s : State) : State :=
  let s := s.setProc p code
  if p != 3 then s
  else
    { s with children := s.children.map (fun e => (e.1, e.2.map (fun c => { c with fly := 0, failed := c.failed || (c.sched && c.fly != 0) }))) }

/-- A processor runs again: deliveries and work that waited for it follow (R13, R95). -/
def procStart (p : Nat) (s : State) : State :=
  let s := (s.setProc p 2).flushDeferred.rxDrainAll
  if p == 2 then s.fpFlush.fpSync
  else if p == 3 && s.up 112 then s.raise 112 11
  else s

/-! Loading (R440, R441). -/

/-- LOAD_STATUS takes STATE, IMAGE and RESULT (R448). -/
def loadStatus (st i res : Nat) (s : State) : State := s.wr Reg.UPD.LOAD_STATUS (W (st + 0x10 * i + 0x100 * res))

/-- LOAD_STATUS.STATE. -/
def loadState (s : State) : Nat := fld (s.rd Reg.UPD.LOAD_STATUS) 0 2

/-- SEL.IMAGE. -/
def updSel (s : State) : Nat := fld (s.rd Reg.UPD.SEL) 0 3

/-- The inactive slot of an image, as 2 x image + slot. -/
def spareSlot (s : State) (i : Nat) : Nat := 2 * i + b2n (!s.upd.activeB.testBit i)

/-- A slot takes a value. -/
def setImgSlot (k : Nat) (x : ImgSlot) (s : State) : State := { s with upd := { s.upd with slots := Sparse.set imgFactory s.upd.slots k x } }

/-- An image is in trial, or is being activated or reverted. -/
def inTrial (s : State) (i : Nat) : Bool := s.upd.trial == some i || (match s.upd.pause with | some (j, _) => j == i | none => false)

/-- LOAD_CMD.BEGIN (R440, R441). -/
def loadBegin (s : State) : State :=
  let i := s.updSel
  if s.upd.load.isSome then s.wrFld Reg.UPD.LOAD_STATUS 8 8 14
  else if s.inTrial i then s.loadStatus 3 i 8
  else ((({ s with upd := { s.upd with load := some i } }).setImgSlot (s.spareSlot i) ImgSlot.init).loadStatus 1 i 0).wr Reg.UPD.LOAD_OFFSET 0

/-- The bytes of LOAD_WIN. -/
def loadBytes (s : State) (n : Nat) : List Byte :=
  (List.range n).map (fun k => BitVec.ofNat 8 ((Sparse.get (fun _ => 0) s.upd.loadWin (k / 4) : Word).toNat / 256 ^ (k % 4)))

/-- LOAD_PUSH (R440, R441). -/
def loadPush (v : Word) (s : State) : State :=
  let n := fld v 0 12
  match s.upd.load with
  | some i =>
    if s.loadState != 1 || n == 0 || 2048 < n then s.err 8
    else
      let k := s.spareSlot i
      let x := s.imgSlot k
      if 16 * 2 ^ 20 < x.bytes.length + n then ({ s with upd := { s.upd with load := none } }.loadStatus 3 i 2).raise 8 0
      else (s.setImgSlot k { x with bytes := x.bytes ++ s.loadBytes n }).wr Reg.UPD.LOAD_OFFSET (W (x.bytes.length + n))
  | none => s.err 8

/-- LOAD_CMD.END starts the check (R440). -/
def loadEnd (s : State) : State :=
  match s.upd.load with
  | some i => if s.loadState == 1 then s.loadStatus 2 i 0 else s
  | none => s

/-- LOAD_CMD.ABORT (R440). -/
def loadAbort (s : State) : State :=
  match s.upd.load with
  | some i => ({ s with upd := { s.upd with load := none } }.setImgSlot (s.spareSlot i) ImgSlot.init).loadStatus 0 i 0
  | none => s

/-- LOAD_CMD as a whole: BEGIN, END, ABORT (R448; DESIGN CHOICE, log entry 12). -/
def loadCmd (v : Word) (s : State) : State :=
  let s := if bit v 0 then s.loadBegin else s
  let s := if bit v 1 then s.loadEnd else s
  if bit v 2 then s.loadAbort else s

/-- FUSE.BOOT_KEY_HASH (R434). -/
def bootKeyHash (s : State) : List Byte := ((List.range 8).map (fun w => leBytes 4 (s.rd (Reg.FUSE.BOOT_KEY_HASH w)).toNat)).flatten

/-- The first check of R439 that a loaded image fails, as RESULT; 1 if none does (R440, R449). -/
def imageCheck (s : State) (i : Nat) (b : List Byte) : Nat :=
  let key := (b.drop 80).take 64
  let body := (b.drop 256).take (leAt b 40 4)
  if !headerOk i b then 2
  else if Crypto.sha256 key != s.bootKeyHash || !Crypto.ecVerify key (Crypto.sha256 (b.take 192)) ((b.drop 192).take 64) then 3
  else if Crypto.sha256 body != (b.drop 48).take 32 then 4
  else if leAt b 8 4 < s.arbOf i then 5
  else 1

/-- The check completes (R439, R440). -/
def loadChecked (s : State) : State :=
  match s.upd.load with
  | some i =>
    if s.loadState != 2 then s
    else
      let k := s.spareSlot i
      let b := (s.imgSlot k).bytes
      let res := s.imageCheck i b
      let s := { s with upd := { s.upd with load := none } }
      let s := if res != 1 then s
        else s.setImgSlot k { valid := true, sec := leAt b 8 4, gen := leAt b 16 2,
                              lims := (List.range 5).map (fun p => (leAt b (20 + 4 * p) 2, leAt b (22 + 4 * p) 2)), bytes := b }
      (s.loadStatus 3 i res).raise 8 0
  | none => s

/-! Activation, trial, commit, revert (R442-R447). -/

/-- ACT_STATUS takes STATE, IMAGE, RESULT and a conflict (R448). -/
def actStatus (st i res x y : Nat) (s : State) : State := s.wr Reg.UPD.ACT_STATUS (W (st + 0x10 * i + 0x100 * res + 0x10000 * x + 0x100000 * y))

/-- The pause limit of LNK at a port, ns: twice the longest frame period among its zones, or 20 ms (R447). -/
def pauseLimitNs (s : State) (n : Nat) : Nat :=
  let zs := ((s.gzPages n).map s.plan.portZones).flatten
  if zs.isEmpty then 20000000 else (zs.map (fun z => periodsNs (s.plan.zRate z) 2)).foldl Nat.max 0

/-- The cause for which ACTIVATE is refused, 0 for none, with X and Y of a conflict (R442, R449). -/
def actRefusal (s : State) (i : Nat) : Nat × Nat × Nat :=
  let slotOf := fun (x : Nat) => if x == i then s.spareSlot x else s.activeSlot x
  if !(modeLive s.mode || s.mode == .service) then (10, 0, 0)
  else if i < 2 && s.mode != .service then (7, 0, 0)
  else if s.upd.trial.isSome || s.upd.pause.isSome then (8, 0, 0)
  else if !(s.imgSlot (s.spareSlot i)).valid then (13, 0, 0)
  else
    match s.genConflict slotOf with
    | some (x, y) => (6, x, y)
    | none =>
      if i == 4 && (List.range 32).any (fun n => (s.blk (32 + n)).enable && clampN 20 1000 (fld (s.rd (Reg.GZP.SYNC_CFG n)) 16 16) * 1000000 ≤ s.pauseLimitNs n) then (11, 0, 0)
      else (0, 0, 0)

/-- The stale look of a chain's port end in a LNK pause, or its end; the nodes of a ring castle to its other end and stay live (R38, R447). -/
def lnkStale (n : Nat) (on : Bool) (s : State) : State :=
  if s.up (32 + n) && !s.ringOn (n / 2) then s.updBlk (32 + n) (fun b => { b with stale := on && !b.hold }) else s

/-- A LNK pause moves to the first enabled port end from `k` (R447: one at a time, ascending, end A of a ring before its end B), if there is one. -/
def lnkNext (k : Nat) (s : State) : State :=
  match (List.range 32).find? (fun n => k ≤ n && (s.blk (32 + n)).enable && s.up (32 + n)) with
  | some n => { s with upd := { s.upd with port := some n } }.lnkStale n true
  | none => { s with upd := { s.upd with port := none } }

/-- A pause begins: the processor of the image stops, to start from a slot that it verifies (R70, R447). -/
def pauseStart (i : Nat) (revert : Bool) (s : State) : State :=
  let s := { s with upd := { s.upd with pause := some (i, revert) } }.actStatus 1 i 0 0 0
  if i < 4 then s.procStop i 1 else s.lnkNext 0

/-- ACT_CMD.ACTIVATE (R442). -/
def activate (s : State) : State :=
  let i := s.updSel
  let c := s.actRefusal i
  if s.failSeq then s
  else if c.1 != 0 then
    let st := fld (s.rd Reg.UPD.ACT_STATUS) 0 2
    (s.actStatus st i c.1 c.2.1 c.2.2).raise 8 1
  else s.pauseStart i false

/-- ACT_CMD.REVERT, expiry and a watchdog reset of the trial processor (R444); a pause or a commit that runs goes first. -/
def revertStart (s : State) : State :=
  match s.upd.trial with
  | some i => if s.upd.pause.isSome || s.upd.committing then s else s.pauseStart i true
  | none => s

/-- The whole of an image runs from the slot that was inactive (R442, R444). -/
def imageStarted (i : Nat) (revert : Bool) (s : State) : State :=
    let s := { s with upd := { s.upd with pause := none, activeB := s.upd.activeB ^^^ 2 ^ i, trial := if revert then none else some i } }
    let s := if i < 4 then s.procStart i else s
    if revert then
      let s := { s with upd := { s.upd with reverts := Sparse.upd (fun _ => 0) s.upd.reverts i (fun n => (n + 1) % 65536) } }.wr Reg.UPD.TRIAL_LEFT 0
      ((s.actStatus 0 i 1 0 0).raise 8 1).raise 8 2
    else ((s.wr Reg.UPD.TRIAL_LEFT (W (clampN 60 65535 (fld (s.rd Reg.UPD.TRIAL_CFG) 0 16)))).actStatus 2 i 1 0 0).raise 8 1

/-- A pause ends, of a processor or of one port end: PAUSE_LAST shows its length, and LNK pauses its next port end (R447). -/
def pauseEnd (us : Word) (s : State) : State :=
  match s.upd.pause with
  | none => s
  | some (i, revert) =>
    let s := s.wr Reg.UPD.PAUSE_LAST us
    match s.upd.port with
    | some n =>
      let s := (s.lnkStale n false).lnkNext (n + 1)
      if s.upd.port.isSome then s else s.imageStarted i revert
    | none => s.imageStarted i revert

/-- The next unburned FW_EPOCH fuse is burned (R443). -/
def burnEpoch (s : State) : State :=
  let n := fld (s.rd Reg.UPD.EPOCHS_USED) 0 7
  (s.wrBit (if n < 32 then Reg.FUSE.FW_EPOCH_LO else Reg.FUSE.FW_EPOCH_HI) (n % 32) true).wr Reg.UPD.EPOCHS_USED (W (n + 1))

/-- ACT_CMD.COMMIT (R47, R443, R446): with no trial, or one that a revert is ending, it is refused with NO_TRIAL. -/
def commitTrial (s : State) : State :=
  let st := fld (s.rd Reg.UPD.ACT_STATUS) 0 2
  if s.mode == .hold then (s.wr Reg.UPD.ACT_STATUS (setFld (s.rd Reg.UPD.ACT_STATUS) 8 8 10)).raise 8 1
  else
    match s.upd.trial with
    | none => (s.actStatus st s.updSel 9 0 0).raise 8 1
    | some i =>
      if s.upd.committing then s
      else if s.upd.pause.isSome then (s.actStatus st i 9 0 0).raise 8 1
      else
        let raiseArb := s.arbOf i < (s.imgSlot (s.activeSlot i)).sec
        if raiseArb && 64 ≤ fld (s.rd Reg.UPD.EPOCHS_USED) 0 7 then (s.actStatus 2 i 12 0 0).raise 8 1
        else { (if raiseArb then s.burnEpoch else s) with upd := { s.upd with committing := true } }.actStatus 3 i 0 0 0

/-- The counter record is durable: COMMIT reports OK (R35, R443). -/
def commitDone (s : State) : State :=
  match s.upd.trial with
  | some i =>
    if !s.upd.committing then s
    else
      let sec := (s.imgSlot (s.activeSlot i)).sec
      let old := s
      let s := { s with upd := { s.upd with trial := none, committing := false, arb := Sparse.set (fun _ => 0) s.upd.arb i (Nat.max (s.arbOf i) sec) } }
      (((s.wr Reg.UPD.TRIAL_LEFT 0).actStatus 0 i 1 0 0).journal old).raise 8 1
  | none => s

/-- The trial timer expires (R444, R446). -/
def trialExpire (s : State) : State := if s.upd.trial.isSome then (s.wr Reg.UPD.TRIAL_LEFT 0).revertStart else s

/-- ACT_CMD.REVERT; with no trial it is refused with NO_TRIAL (R444; DESIGN CHOICE, log entry 50). -/
def revertCmd (s : State) : State :=
  if s.upd.trial.isSome then s.revertStart
  else (s.actStatus (fld (s.rd Reg.UPD.ACT_STATUS) 0 2) s.updSel 9 0 0).raise 8 1

/-- ACT_CMD as a whole: ACTIVATE, COMMIT, REVERT (R448; DESIGN CHOICE, log entry 12). -/
def actCmd (v : Word) (s : State) : State :=
  let s := if bit v 0 then s.activate else s
  let s := if bit v 1 then s.commitTrial else s
  if bit v 2 then s.revertCmd else s

/-- SEL (R448). -/
def updSelWrite (v : Word) (s : State) : State := if fld v 0 3 < 5 then s.wr Reg.UPD.SEL (W (fld v 0 3)) else s.err 8

/-- A word of IMG_INFO (R448). -/
def imgInfo (s : State) (i w : Nat) : Word :=
  let a := s.imgSlot (s.activeSlot i)
  let b := s.imgSlot (s.spareSlot i)
  let trial := s.upd.trial == some i
  if w == 0 then W (b2n (s.upd.activeB.testBit i) + 2 * b2n trial + 16 * b2n (s.imgSlot (2 * i)).valid + 32 * b2n (s.imgSlot (2 * i + 1)).valid)
  else if w == 1 then W a.sec else if w == 2 then W a.gen else if w == 3 then W b.sec else if w == 4 then W b.gen
  else if w == 5 then W (s.arbOf i) else if w == 6 then W (Sparse.get (fun _ => 0) s.upd.reverts i) else 0

end State

/-- LOAD_BEGIN (R440). -/
def execLoadBegin (r : Requester) (s : State) : Out := .next (s.access r Reg.UPD.LOAD_CMD 1 (State.loadCmd 1))

/-- LOAD_PUSH (R440). -/
def execLoadPush (r : Requester) (v : Word) (s : State) : Out := .next (s.access r Reg.UPD.LOAD_PUSH v (State.loadPush v))

/-- LOAD_END (R440). -/
def execLoadEnd (r : Requester) (s : State) : Out := .next (s.access r Reg.UPD.LOAD_CMD 2 (State.loadCmd 2))

/-- LOAD_ABORT (R440). -/
def execLoadAbort (r : Requester) (s : State) : Out := .next (s.access r Reg.UPD.LOAD_CMD 4 (State.loadCmd 4))

/-- LOAD_CHECK_DONE (R440). -/
def execLoadCheckDone (s : State) : Out := .next s.loadChecked

/-- ACTIVATE (R442). -/
def execActivate (r : Requester) (s : State) : Out := .next (s.access r Reg.UPD.ACT_CMD 1 (State.actCmd 1))

/-- ACTIVATION_PAUSE_END (R447). -/
def execActivationPauseEnd (us : Word) (s : State) : Out := .next (s.pauseEnd us)

/-- COMMIT (R443). -/
def execCommit (r : Requester) (s : State) : Out := .next (s.access r Reg.UPD.ACT_CMD 2 (State.actCmd 2))

/-- UPD_COMMIT_DONE (R443). -/
def execUpdCommitDone (s : State) : Out := .next s.commitDone

/-- REVERT (R444). -/
def execRevert (r : Requester) (s : State) : Out := .next (s.access r Reg.UPD.ACT_CMD 4 (State.actCmd 4))

/-- TRIAL_EXPIRE (R444). -/
def execTrialExpire (s : State) : Out := .next s.trialExpire

end Sys2Proof.Machine
end

