-- ==== Sys2Proof/Machine/Recovery.lean ====
section
/-!
DEFINITION. Watchdog resets, recovery windows, memory errors and reloads (R13-R15, R30-R33, R49, R159, R209, R228).
-/
namespace Sys2Proof.Machine

namespace State

/-- A watchdog expires (R13, R14, R49, R70, R444): that processor alone restarts; a second reset of SC within 10 s leads to HOLD
(SC_DOUBLE). -/
def procWatchdog (p : Nat) (s : State) : State :=
  if s.proc p != 2 then s
  else
    let double := p == 0 && (match s.scReset with | some t => decide (s.clock < t + 10000000000) | none => false)
    let s := s.wr Reg.SYS.WDOG_CNT (satIncFld (s.rd Reg.SYS.WDOG_CNT) (8 * p) 8)
    let s := if p == 0 then { s with scReset := some s.clock } else s
    let s := (s.procStop p 3).raise 0 3
    let s := if s.upd.trial == some p then s.revertStart else s
    if double then s.holdFrom 5 else s

/-- A processor that was reset runs again and replays the journal, in which `journalBad` names a damaged record (R31, R34, R64). -/
def procRestarted (p : Nat) (journalBad : Option Word) (s : State) : State :=
  if s.proc p == 3 then (s.procStart p).replay journalBad else s

/-- The recovery window of a page expires (R31). -/
def windowEnd (pg : Nat) (s : State) : State :=
  (if pg == 112 then { s with radio := { s.radio with lost := [] } } else s).closeWindow pg

/-- Where a corrected word is counted (R31, R78, R209; DESIGN CHOICE, log entry 53). -/
def eccCorrected (x : EccSite) (s : State) : State :=
  if s.up (sitePage x) then (match x with | .mapEntry _ => s.bump Reg.MAP.ECC_CORR | _ => s.err (sitePage x)) else s

/-- A frame's tiles that lanes have still to finish read the site: all of them one of the reloadable tables of the engine. -/
def eccReads (s : State) (x : EccSite) (f : Frame) : Bool :=
  let tiles := f.queued ++ f.todo ++ f.busy
  match x with
  | .mapEntry e => tiles.contains (e.val / 256)
  | .solver q => tiles.any (fun t => ((s.planOf f.epoch).tileEntries t).any (fun e => (s.planOf f.epoch).eProfile e == q.val))
  | .table pg => frameTable pg.val && !tiles.isEmpty
  | _ => false

/-- An uncorrectable error (R31, R33, R159, R209, R228): frames that read the damage are dropped with cause FAULT, and the reload begins. The clip
cache, the frame stores and the ingest buffers are not journalled: a clip is reloaded without a recovery window, and what else is lost is refilled by what arrives (DESIGN CHOICE, log
entry 53: a stream loses the pictures that it holds). -/
def eccUncorrectable (x : EccSite) (s : State) : State :=
  if !s.up (sitePage x) then s
  else
    match x with
    | .clipCache c =>
      if s.clipCache.contains c.toNat then
        { s with clipCache := s.clipCache.filter (fun y => y != c.toNat), reloads := s.reloads ++ [x] }
      else s
    | .frameStore n => s.setVin n { s.vin n with done := [] }
    | .ingest n => if n.val == 8 then { s with audBuf := [] } else s.setVin n { s.vin n with cur := [] }
    | _ =>
      let s := (s.frames.filter (s.eccReads x)).foldl (fun a f => a.dropFrame f.zone f.k 3 f.ps) s
      let second := s.windows.contains (sitePage x)
      let s := s.blockFault (sitePage x)
      if second then { s with reloads := s.reloads.filter (fun y => sitePage y != sitePage x) } else { s with reloads := s.reloads ++ [x] }

/-- A reload of a table or a cached clip completes (R31, R159, R209). -/
def reloadDone (x : EccSite) (s : State) : State :=
  if !s.reloads.contains x then s
  else
    match x with
    | .solver _ => s
    | .clipCache c =>
      let s := { s with reloads := s.reloads.filter (fun y => y != x) }
      match s.cacheFit c.toNat with
      | some kept => if s.clipStored c.toNat then { s with clipCache := kept ++ [c.toNat] } else s
      | none => s
    | .mapEntry _ => (({ s with reloads := s.reloads.filter (fun y => y != x) }.bump Reg.MAP.RELOADS).raise 18 1).closeWindow 18
    | .frameStore _ => s
    | .ingest _ => s
    | .table pg => { s with reloads := s.reloads.filter (fun y => y != x) }.closeWindow pg

/-- A rebuild of a profile's solver tables completes (R228, R237). -/
def solverDone (p : Fin 4096) (s : State) : State :=
  if s.reloads.contains (EccSite.solver p) then
    (({ s with reloads := s.reloads.filter (fun y => y != EccSite.solver p) }.bump Reg.CLR.RELOADS).raise 19 2).closeWindow 19
  else s

end State

/-- Bits of processors in ROUTE order. -/
def procIdx : Proc → Nat
  | .sc => 0 | .pp => 1 | .fp => 2 | .rp => 3

/-- PROC_WATCHDOG_RESET (R14). -/
def execProcWatchdogReset (p : Proc) (s : State) : Out := .next (s.procWatchdog (procIdx p))

/-- PROC_RESTARTED (R31). -/
def execProcRestarted (p : Proc) (journalBad : Option Word) (s : State) : Out := .next (s.procRestarted (procIdx p) journalBad)

/-- RECOVERY_WINDOW_END (R31). -/
def execRecoveryWindowEnd (pg : Fin 256) (s : State) : Out := .next (s.windowEnd pg)

/-- CORRECTED_ERROR (R31). -/
def execCorrectedError (site : EccSite) (s : State) : Out := .next (s.eccCorrected site)

/-- UNCORRECTABLE_ERROR (R31). -/
def execUncorrectableError (site : EccSite) (s : State) : Out := .next (s.eccUncorrectable site)

/-- TABLE_RELOAD_DONE (R31). -/
def execTableReloadDone (site : EccSite) (s : State) : Out := .next (s.reloadDone site)

/-- SOLVER_REBUILD_DONE (R228). -/
def execSolverRebuildDone (p : Fin 4096) (s : State) : Out := .next (s.solverDone p)

end Sys2Proof.Machine
end

