-- ==== Sys2Proof/Machine/Secure.lean ====
section
/-!
DEFINITION. The commands of the KEY, TAMP and FUSE pages (R414-R437, R457).
-/
namespace Sys2Proof.Machine

/-! KEY. -/

/-- A word of OP_CMD (R435). -/
def opWord (op : Nat) (slot aux : BitVec 6) : Word := W (op + 0x100 * slot.toNat + 0x10000 * aux.toNat)

/-- OP_CMD written with an operation (R419). -/
def keyRow (r : Requester) (op : Nat) (slot aux : BitVec 6) (s : State) : Out :=
  .next (s.access r Reg.KEY.OP_CMD (opWord op slot aux) (State.keyCommand r op slot.toNat aux.toNat))

/-- KEY_GENERATE (R415). -/
def execKeyGenerate (r : Requester) (slot aux : BitVec 6) (s : State) : Out := keyRow r 0x01 slot aux s
/-- KEY_DERIVE (R416). -/
def execKeyDerive (r : Requester) (slot aux : BitVec 6) (s : State) : Out := keyRow r 0x02 slot aux s
/-- KEY_IMPORT (R419). -/
def execKeyImport (r : Requester) (slot aux : BitVec 6) (s : State) : Out := keyRow r 0x03 slot aux s
/-- KEY_REVOKE (R421). -/
def execKeyRevoke (r : Requester) (slot aux : BitVec 6) (s : State) : Out := keyRow r 0x04 slot aux s
/-- KEY_FREE (R419). -/
def execKeyFree (r : Requester) (slot aux : BitVec 6) (s : State) : Out := keyRow r 0x05 slot aux s
/-- GCM_ENCRYPT (R419). -/
def execGcmEncrypt (r : Requester) (slot aux : BitVec 6) (s : State) : Out := keyRow r 0x10 slot aux s
/-- GCM_DECRYPT (R419). -/
def execGcmDecrypt (r : Requester) (slot aux : BitVec 6) (s : State) : Out := keyRow r 0x11 slot aux s
/-- HMAC (R419). -/
def execHmac (r : Requester) (slot aux : BitVec 6) (s : State) : Out := keyRow r 0x12 slot aux s
/-- HMAC_VERIFY (R419). -/
def execHmacVerify (r : Requester) (slot aux : BitVec 6) (s : State) : Out := keyRow r 0x13 slot aux s
/-- SHA_256 (R419). -/
def execSha256 (r : Requester) (slot aux : BitVec 6) (s : State) : Out := keyRow r 0x14 slot aux s
/-- ECDSA_SIGN (R419). -/
def execEcdsaSign (r : Requester) (slot aux : BitVec 6) (s : State) : Out := keyRow r 0x15 slot aux s
/-- ECDSA_VERIFY (R419). -/
def execEcdsaVerify (r : Requester) (slot aux : BitVec 6) (s : State) : Out := keyRow r 0x16 slot aux s
/-- PUBKEY (R419). -/
def execPubkey (r : Requester) (slot aux : BitVec 6) (s : State) : Out := keyRow r 0x17 slot aux s
/-- ATTEST (R425). -/
def execAttest (r : Requester) (slot aux : BitVec 6) (s : State) : Out := keyRow r 0x18 slot aux s
/-- RANDOM (R419). -/
def execRandom (r : Requester) (slot aux : BitVec 6) (s : State) : Out := keyRow r 0x19 slot aux s

/-- KEY_OP_DONE (R419). -/
def execKeyOpDone (s : State) : Out := .next s.keyDone

/-- KEY_REMASK (R423, R435): once CFG.REMASK ms have passed; a pass changes no value, and REMASKS counts it. -/
def execKeyRemask (ms : Nat) (s : State) : Out :=
  .next (if ms < Nat.max 1 (fld (s.rd Reg.KEY.CFG) 0 8) then s else s.bumpWrap Reg.KEY.REMASKS)

namespace State

/-- The four words of SLOT_INFO (R435). -/
def slotInfo (s : State) (i : Nat) : List Word :=
  let k := s.slot i
  let key := (s.keyOf i).getD []
  let shown := if k.state == 1 then
      ofLE ((if isEcc k.attr then Crypto.ecPublic (ofBE key) else Crypto.hmac key [0x4B, 0x49, 0x44]).take 4)
    else 0
  [W (k.state + 0x10 * k.origin + 0x100 * k.depth + 0x10000 * k.parent), k.attr, W k.useLeft, W shown]

/-- A write to SLOT_SEL copies the slot into SLOT_INFO at one tick (R435). -/
def slotSelect (v : Word) (s : State) : State :=
  let s := s.wr Reg.KEY.SLOT_SEL (v &&& 0x3F)
  let l := s.slotInfo (fld v 0 6)
  (List.range 4).foldl (fun a w => a.wr (Reg.KEY.SLOT_INFO w) (l.getD w 0)) s

/-! TAMP. -/

/-- The staged level of an index, starting from the sealed record (R430, R436). -/
def safeLevel (s : State) (i : Nat) : Nat :=
  Sparse.get (fun k => match s.safe with | some r => Sparse.get (fun _ => 0) r.levels k | none => 0) s.safeStage i

/-- SAFE_INDEX advances, from 415 to 0 (R436). -/
def safeAdvance (s : State) : State :=
  let i := fld (s.rd Reg.TAMP.SAFE_INDEX) 0 9
  s.wr Reg.TAMP.SAFE_INDEX (W (if i ≥ 415 then 0 else i + 1))

/-- A write to SAFE_DATA stages a level (R430). -/
def safeStore (v : Word) (s : State) : State :=
  { s with safeStage := Sparse.put s.safeStage (fld (s.rd Reg.TAMP.SAFE_INDEX) 0 9) (fld v 0 16) }.safeAdvance

/-- SAFE_CMD.SEAL (R430): refused and counted while KEY is locked or a seal runs, and after a power-fail warning. The tag covers the
SAFE_SEQ that the seal will have (DEDUCED, log entry 19). -/
def safeSeal (s : State) : State :=
  match s.rootDerived [0x53, 0x41, 0x46, 0x45] with
  | none => s.err 7
  | some k =>
    if s.keyLocked || s.sealing.isSome || s.failSeq then s.err 7
    else
      let levels := (List.range 416).foldl (fun m i => Sparse.set (fun _ => 0) m i (s.safeLevel i)) []
      let r : SafeRec := { levels := levels, seq := s.rd Reg.TAMP.SAFE_SEQ + 1, tag := [] }
      { s with sealing := some { r with tag := Crypto.hmac k (safeBytes r) } }.wrFld Reg.TAMP.SAFE_STATUS 0 2 3

/-- The sealed record is durable and pinned (R430). -/
def safeSealed (s : State) : State :=
  match s.sealing with
  | none => s
  | some r =>
    ({ s with sealing := none, safe := some r, safeStage := [], safePin := safeDigest r }.wr Reg.TAMP.SAFE_SEQ r.seq
      |>.wr Reg.TAMP.SAFE_STATUS 0x11).raise 7 1

/-! FUSE. -/

/-- ROW_FUSE of a row (R437). -/
def rowFuse (s : State) (i : Nat) : Word :=
  let f := Sparse.get (fun _ => FuseRow.init) s.fuseRows i
  if hasRow i then W (f.row.toNat % 0x10000 + 0x10000 * f.copies + 0x40000 * b2n f.valid) else 0

/-- A write to ROW_SEL copies the burned row and the row in force (R437). -/
def rowSelect (v : Word) (s : State) : State :=
  let i := fld v 0 9
  ((s.wr Reg.FUSE.ROW_SEL (W i)).wr Reg.FUSE.ROW_FUSE (s.rowFuse i)).wr Reg.FUSE.ROW_EFFECT (s.accessRow i)

/-- The 118 rows in ROW_SEL order (R433). -/
def rowList : List Nat := allPages ++ (List.range 9).map (fun t => 256 + t)

/-- MATRIX_CRC: the CRC-32 of the rows that sealing would fix (R433). -/
def matrixCrc (s : State) : Word := Crypto.crc32 ((rowList.map (fun i => leBytes 4 (s.burnedRow i).toNat)).flatten)

/-- BURN_STATUS (R437). -/
def burnStatus (st res : Nat) (s : State) : State := s.wr Reg.FUSE.BURN_STATUS (W (st + 0x10 * res))

/-- A staged row keeps read and write for SC, the owner and the further writers (R433; DEDUCED, log entry 20). -/
def rowFair (i : Nat) (row : Word) : Bool :=
  256 ≤ i || (row.toNat &&& (ownWriters i + 0x100 * ownWriters i)) == ownWriters i + 0x100 * ownWriters i

/-- The reason a burn is refused, 0 if it is accepted (R433, R437). -/
def burnRefusal (s : State) (kind : Nat) : Nat :=
  let i := fld (s.rd Reg.FUSE.ROW_SEL) 0 9
  let f := Sparse.get (fun _ => FuseRow.init) s.fuseRows i
  if s.failSeq then 8
  else if s.mode != .service then 1
  else if !s.burnArmed || s.burn.isSome then 2
  else if kind ≤ 1 && bit (s.rd Reg.FUSE.LIFECYCLE) 0 then 3
  else if kind == 0 && (!hasRow i || !rowFair i (s.rd Reg.FUSE.ROW_STAGE)) then 4
  else if kind == 0 && 2 ≤ f.copies then 5
  else if kind == 1 && s.rd Reg.FUSE.SEAL_CRC != s.matrixCrc then 6
  else 0

/-- A burn is requested (R433): the arm is used up. -/
def burnStart (kind : Nat) (s : State) : State :=
  let c := s.burnRefusal kind
  let s := { s with burnArmed := false }
  if c != 0 then s.burnStatus 3 c
  else
    let b : Burn := { kind := kind, row := fld (s.rd Reg.FUSE.ROW_SEL) 0 9, stage := s.rd Reg.FUSE.ROW_STAGE &&& 0x3F3F }
    { s with burn := some b }.burnStatus 1 0

/-- BURN_CMD: one bit per write, else refused (R437). -/
def burnCommand (v : Word) (s : State) : State :=
  match bitsOf v.toNat 6 with
  | [] => s
  | [k] => s.burnStart k
  | _ => { s with burnArmed := false }.burnStatus 3 0

/-- A burn completes (R432, R433, R437, R457). -/
def burnDone (ok : Bool) (s : State) : State :=
  match s.burn with
  | none => s
  | some b => ({ s with burn := none }.burnApply b ok).burnStatus 2 (if ok then 0 else 7)

/-- The external sources at a sample (R426): a loop outside 5 to 50 kohm, a pattern that does not return unchanged. -/
def externalTamper (loopA loopB : Nat) (mesh : BitVec 16) : Nat :=
  let loop := fun (r : Nat) => r < 5000 || 50000 < r
  b2n (loop loopA) + 2 * b2n (loop loopB) + 4 * b2n (mesh != 0)

/-- The internal sources (R426). -/
def internalTamper (x : TamperInputs) : Nat :=
  8 * b2n (x.mv < 1800 || 3700 < x.mv || 50 < x.glitch) + 16 * b2n (x.temp.toInt < -440 || 1040 < x.temp.toInt) + 32 * b2n (1000 ≤ x.still) + 64 * b2n x.shield

/-- A sample of the external sources, once PERIOD ms have passed (R426, R436); the internal ones stand as they were. -/
def tamperSample (ms loopA loopB : Nat) (mesh : BitVec 16) (s : State) : State :=
  if ms < clampN 1 125 (fld (s.rd Reg.TAMP.CFG) 8 8) then s
  else s.tamperSeen (externalTamper loopA loopB mesh + (s.rd Reg.TAMP.NOW).toNat % 128 / 8 * 8)

/-- What the internal sources see (R426): the external ones stand as they were. -/
def tamperDetect (x : TamperInputs) (s : State) : State :=
  (s.wrFld Reg.PWR.AON_TEMP 0 16 x.temp.toNat).tamperSeen (internalTamper x + (s.rd Reg.TAMP.NOW).toNat % 8)

end State

/-- SLOT_SEL (R435). -/
def execSlotSel (r : Requester) (v : Word) (s : State) : Out := .next (s.access r Reg.KEY.SLOT_SEL v (State.slotSelect v))

/-- TAMPER_SAMPLE (R426). -/
def execTamperSample (ms loopA loopB : Nat) (mesh : BitVec 16) (s : State) : Out := .next (s.tamperSample ms loopA loopB mesh)

/-- TAMPER_DETECT (R426, R428). -/
def execTamperDetect (x : TamperInputs) (s : State) : Out := .next (s.tamperDetect x)

/-- SAFE_DATA_ACCESS (R436). -/
def execSafeDataAccess (r : Requester) (w : Option Word) (s : State) : Out :=
  .next (match w with
    | some v => s.access r Reg.TAMP.SAFE_DATA v (State.safeStore v)
    | none => s.readAccess r Reg.TAMP.SAFE_DATA (W (s.safeLevel (fld (s.rd Reg.TAMP.SAFE_INDEX) 0 9))) State.safeAdvance)

/-- SAFE_SEAL (R430). -/
def execSafeSeal (r : Requester) (s : State) : Out := .next (s.access r Reg.TAMP.SAFE_CMD 1 State.safeSeal)

/-- SAFE_SEAL_DONE (R430). -/
def execSafeSealDone (s : State) : Out := .next s.safeSealed

/-- ROW_SEL (R437). -/
def execRowSel (r : Requester) (v : Word) (s : State) : Out := .next (s.access r Reg.FUSE.ROW_SEL v (State.rowSelect v))

/-- BURN_ARM (R433): the key value arms one burn; a power-fail warning stops it. -/
def execBurnArm (r : Requester) (v : Word) (s : State) : Out :=
  .next (s.access r Reg.FUSE.BURN_ARM v (fun s => if v = 0x46555345 && !s.failSeq then { s with burnArmed := true } else s))

/-- BURN_ARM_EXPIRE (R433). -/
def execBurnArmExpire (s : State) : Out := .next { s with burnArmed := false }

/-- BURN_ROW (R433). -/
def execBurnRow (r : Requester) (s : State) : Out := .next (s.access r Reg.FUSE.BURN_CMD 1 (State.burnCommand 1))
/-- BURN_SEAL (R433). -/
def execBurnSeal (r : Requester) (s : State) : Out := .next (s.access r Reg.FUSE.BURN_CMD 2 (State.burnCommand 2))
/-- BURN_TAMP_WIPE (R433). -/
def execBurnTampWipe (r : Requester) (s : State) : Out := .next (s.access r Reg.FUSE.BURN_CMD 4 (State.burnCommand 4))
/-- BURN_TAMP_FORCE (R433). -/
def execBurnTampForce (r : Requester) (s : State) : Out := .next (s.access r Reg.FUSE.BURN_CMD 8 (State.burnCommand 8))
/-- BURN_JTAG_LOCK (R433). -/
def execBurnJtagLock (r : Requester) (s : State) : Out := .next (s.access r Reg.FUSE.BURN_CMD 16 (State.burnCommand 16))
/-- BURN_CONSOLE_LOCK (R433). -/
def execBurnConsoleLock (r : Requester) (s : State) : Out := .next (s.access r Reg.FUSE.BURN_CMD 32 (State.burnCommand 32))

/-- BURN_DONE (R437). -/
def execBurnDone (ok : Bool) (s : State) : Out := .next (s.burnDone ok)

end Sys2Proof.Machine
end

