-- ==== Sys2Proof/Machine/Supply.lean ====
section
/-!
DEFINITION. Brown-out, VBAT, the auxiliary rails, the meter, and the loss of AON's state (R43, R467, R470-R473, R484, R485).
-/
namespace Sys2Proof.Machine

namespace State

/-! Supply. -/

/-- CFG.BROWNOUT, in 0.1 V (R485). -/
def brownoutAt (s : State) : Nat := 10 * clampN 70 180 (fld (s.rd Reg.PSU.CFG) 0 8)

/-- The input has been at an RMS, in 0.1 V, for 100 ms (R467): below the threshold it is a brown-out, which changes nothing but its own report; one more is found only after the input has risen 5 V
above it. -/
def brownout (rms : Nat) (s : State) : State :=
  if bit (s.rd Reg.PSU.STATUS) 2 then (if s.brownoutAt + 50 < rms then s.wrBit Reg.PSU.STATUS 2 false else s)
  else if s.mainsOn && rms < s.brownoutAt then ((s.wrBit Reg.PSU.STATUS 2 true).bump Reg.PSU.BROWNOUT_CNT).raise 31 1 else s

/-- VBAT is sampled (R485): below 2.2 V it is low. -/
def vbatSample (mv : Nat) (s : State) : State :=
  let s := (s.wr Reg.PSU.VBAT (W mv)).wrBit Reg.PSU.STATUS 7 (decide (mv < 2200))
  if mv < 2200 && s.mainsOn then s.raise 31 3 else s

/-- The current above which a rail is in overload, mA (R470, R485; DEDUCED, log entry 52): AUX12 by AUX12_LIMIT, in 10 mA. -/
def auxLimit (s : State) (b : Nat) : Nat := if b == 0 then 10 * clampN 1 125 (fld (s.rd Reg.PSU.CFG) 16 8) else 750

/-- An auxiliary rail carries a current for 2 ms (R470): in overload it switches off and latches it; `b` is 0 for AUX12, 1 for AUX3V3. -/
def auxOverload (b ma : Nat) (s : State) : State :=
  if bit (s.rd Reg.PSU.STATUS) (3 + b) && s.auxLimit b < ma then ((s.wrBit Reg.PSU.STATUS (5 + b) true).auxUpdate).raise 31 2 else s

/-- AUX_CLEAR (R470, R485). -/
def auxClear (v : Word) (s : State) : State :=
  let s := if bit v 0 then s.wrBit Reg.PSU.STATUS 5 false else s
  (if bit v 1 then s.wrBit Reg.PSU.STATUS 6 false else s).auxUpdate

/-! Meter. -/

/-- The meter measures (R473): mains is good, MTR is at work, and no calibration run holds it. -/
def metering (s : State) : Bool := s.mainsOn && s.up 30 && !bit (s.rd Reg.MTR.STATUS) 5

/-- Phases measured: CFG.PHASES (R484). -/
def mtrPhases (s : State) : Nat := if fld (s.rd Reg.MTR.CFG) 16 2 == 1 then 1 else 3

/-- MTR event `n` occurs; an enabled one wakes the module from DOZE (R54, R484). -/
def mtrEvent (n : Nat) (s : State) : State :=
  let s := s.raise 30 n
  if bit (s.blk 30).evtEn n then s.wakeSource 8 else s

/-- The readings of a phase (R484). -/
def mtrPhase (p : Nat) (x : PhaseReading) (s : State) : State :=
  ((((((s.wr (Reg.MTR.V_RMS p) x.vRms).wr (Reg.MTR.I_RMS p) x.iRms).wr (Reg.MTR.P p) x.p).wr (Reg.MTR.Q p) x.q).wr (Reg.MTR.S p) x.s).wr
    (Reg.MTR.PF p) (W x.pf.toNat)).wrBit Reg.MTR.STATUS p (decide (40000 ≤ x.vRms.toNat))

/-- The readings of a phase as corrected at a temperature of the MTR die (R458). -/
def mtrReadingOf (s : State) (p : Nat) (x : PhaseReading) (die : Int) : PhaseReading :=
  match s.mtrCal p die with
  | some c => Config.mtrCorrect c x
  | none => x

/-- Those of the measured phases. -/
def mtrCorrected (s : State) (l : List PhaseReading) (die : Int) : List PhaseReading :=
  (l.take s.mtrPhases).zipIdx.map (fun e => s.mtrReadingOf e.2 e.1 die)

/-- The readings are updated and checked (R458, R471, R484; DESIGN CHOICE, log entry 52). -/
def mtrReadings (l : List PhaseReading) (freq : Nat) (rotation : Bool) (die : Int) (s : State) : State :=
  if !s.metering then s
  else
    let l := s.mtrCorrected l die
    let was := fld (s.rd Reg.MTR.STATUS) 0 3
    let s := (List.range l.length).foldl (fun a p => match l[p]? with | some x => a.mtrPhase p x | none => a) s
    let s := (s.wr Reg.MTR.FREQ (W freq)).wrBit Reg.MTR.STATUS 3 rotation
    let s := if l.any (fun x => (s.rd Reg.MTR.OC_THRESH).toNat < x.iRms.toNat) then s.mtrEvent 0 else s
    let s := if fld (s.rd Reg.MTR.STATUS) 0 3 != was then s.mtrEvent 1 else s
    if l.any (fun x => x.p.toInt < 0) then s.mtrEvent 2 else s

/-- A 64-bit energy counter, its low word at `a`, gains `n` and wraps (R484). -/
def energyAdd (a n : Nat) (s : State) : State :=
  let v := (s.rd a).toNat + 2 ^ 32 * (s.rd (a + 4)).toNat + n
  (s.wr a (W v)).wr (a + 4) (W (v / 2 ^ 32))

/-- A phase gains the energy of 10 ms: import where positive, export where negative (R484). -/
def energyPhase (p : Nat) (active reactive : Int) (s : State) : State :=
  let s := if 0 ≤ active then (s.energyAdd (Reg.MTR.IMP_LO p) active.toNat).energyAdd Reg.MTR.TOTAL_LO active.toNat
    else s.energyAdd (Reg.MTR.EXP_LO p) active.natAbs
  s.energyAdd (if 0 ≤ reactive then Reg.MTR.QIMP_LO p else Reg.MTR.QEXP_LO p) reactive.natAbs

/-- The energies of an interval of a phase as corrected at a temperature of the MTR die (R458). -/
def mtrEnergyOf (s : State) (p : Nat) (active reactive : List Int) (die : Int) : Int × Int :=
  let e := (active.getD p 0, reactive.getD p 0)
  match s.mtrCal p die with
  | some c => Config.mtrEnergy c e
  | none => e

/-- Energy accumulates; an interval in which it does not is a gap (R471, R473). -/
def mtrEnergy (active reactive : List Int) (die : Int) (s : State) : State :=
  let s := s.feedMark
  if s.metering then
    (List.range s.mtrPhases).foldl (fun a p => let e := s.mtrEnergyOf p active reactive die; a.energyPhase p e.1 e.2) (s.wrBit Reg.MTR.STATUS 4 false)
  else if bit (s.rd Reg.MTR.STATUS) 4 then s
  else ((s.wrBit Reg.MTR.STATUS 4 true).bump Reg.MTR.GAPS).mtrEvent 3

/-- A read of IMP_LO latches every energy word for the requester (R473). -/
def mtrLatchFor (r : Requester) (s : State) : State :=
  { s with mtrLatch := (List.range 26).foldl (fun m k => Sparse.set (fun _ => 0) m (64 * reqIdx r + k) (s.rd (Reg.MTR.IMP_LO 0 + 4 * k))) s.mtrLatch }

/-- What a read of an energy word gives (R473): IMP_LO the value, which it latches; the others the latched value. -/
def mtrEnergyRead (r : Requester) (addr : Nat) (s : State) : Word :=
  if addr % 32 == 0 && addr < Reg.MTR.TOTAL_LO then s.rd addr
  else Sparse.get (fun _ => 0) s.mtrLatch (64 * reqIdx r + (addr - Reg.MTR.IMP_LO 0) / 4)

/-- AON loses its state while mains is absent (R43). -/
def aonLoss (s : State) : State := if s.mainsOn then s else s.aonReset

end State

/-- BROWNOUT (R467). -/
def execBrownout (rms : BitVec 16) (s : State) : Out := .next (s.brownout rms.toNat)

/-- VBAT_SAMPLE (R485). -/
def execVbatSample (mv : BitVec 16) (s : State) : Out := .next (s.vbatSample mv.toNat)

/-- AUX_OVERLOAD (R470). -/
def execAuxOverload (aux3v3 : Bool) (ma : Nat) (s : State) : Out := .next (s.auxOverload (b2n aux3v3) ma)

/-- AUX_CLEAR (R470, R485). -/
def execAuxClear (r : Requester) (v : Word) (s : State) : Out := .next (s.access r Reg.PSU.AUX_CLEAR v (State.auxClear v))

/-- MTR_READING_UPDATE (R471). -/
def execMtrReadingUpdate (p0 p1 p2 : PhaseReading) (freq : BitVec 16) (rotation : Bool) (die : BitVec 16) (s : State) : Out :=
  .next (s.mtrReadings [p0, p1, p2] freq.toNat rotation die.toInt)

/-- MTR_ENERGY_UPDATE (R471, R473). -/
def execMtrEnergyUpdate (active reactive : List Int) (die : BitVec 16) (s : State) : Out := .next (s.mtrEnergy active reactive die.toInt)

/-- MTR_ENERGY_PERSIST (R35, R473). -/
def execMtrEnergyPersist (s : State) : Out := .next (s.journal s)

/-- IMP_LO_READ (R473). -/
def execImpLoRead (r : Requester) (p : Fin 3) (s : State) : Out :=
  .next (s.readAccess r (Reg.MTR.IMP_LO p) (s.mtrEnergyRead r (Reg.MTR.IMP_LO p)) (State.mtrLatchFor r))

/-- AON_STATE_LOSS (R43). -/
def execAonStateLoss (s : State) : Out := .next s.aonLoss

end Sys2Proof.Machine
end

