-- ==== Sys2Proof/Machine/Test.lean ====
section
/-!
DEFINITION. Self-test, the online lane test, fuse repair (R450-R457, R463) and calibration (R458-R464).
-/
namespace Sys2Proof.Machine

namespace State

/-! Self-test and repair. -/

/-- CMD.REPAIR_BURN (R433, R437, R457): NO_FUSES once nothing of R437 refuses it. -/
def repairBurn (s : State) : State :=
  if s.burnRefusal 6 == 0 && fld (s.rd Reg.BIST.FUSE_LEFT) 0 16 == 0 then
    ({ s with burnArmed := false }.wrFld Reg.BIST.STATUS 16 8 7).raise 9 1
  else s.burnStart 6

/-- BIST.CMD as a whole: RUN, REPAIR_BURN (R463; DESIGN CHOICE, log entry 12). -/
def bistCmd (v : Word) (s : State) : State :=
  let s := if bit v 0 then s.bistRequest (fld (s.rd Reg.BIST.TARGET) 0 8) true else s
  if bit v 1 then s.repairBurn else s

/-- A full test ends (R453, R463): RESULT 1 PASS, 2 PASS_REPAIRED, 3 FAIL. -/
def bistDone (res coverage : Nat) (us : Word) (s : State) : State :=
  let st := s.rd Reg.BIST.STATUS
  let pg := fld st 8 8
  if fld st 0 2 != 1 || s.code pg != 4 then s
  else
    let s := ((s.wr Reg.BIST.STATUS (W (2 + 0x100 * pg + 0x10000 * res))).wr Reg.BIST.COVERAGE (W coverage)).wr Reg.BIST.DURATION us
    let s := (s.wr (Reg.BIST.LAST pg) (W (res + 0x100 * coverage))).raise 9 0
    let s := s.loadReset pg
    if res == 3 then (s.faultBlock pg).raise 9 1
    else if (s.blk pg).enable then s.enterStarting pg else s.offBlock pg

/-- PERIOD of LANE.ONLINE_CFG, s (R192). -/
def lanePeriod (s : State) : Nat := Nat.max 1 (fld (s.rd Reg.LANE.ONLINE_CFG) 16 16)

/-- The PERIOD of the online lane test is over: one begins (R186, R455), of the next working primary lane, on the lowest free spare. -/
def laneTestStart (seconds : Nat) (s : State) : State :=
  if seconds < s.lanePeriod || s.code 17 != 2 || !s.reach 17 || !bit (s.rd Reg.LANE.ONLINE_CFG) 0 || bit (s.rd Reg.LANE.TESTING) 7 then s
  else
    let from_ := match s.laneLast with | some l => l + 1 | none => 0
    match s.freeSpare, ((List.range 64).map (fun k => (from_ + k) % 64)).find? (fun l => !s.laneFailed l) with
    | some i, some l =>
      ({ s with laneLast := some l }.wr Reg.LANE.TESTING (W (l + 0x80))).wrFld Reg.LANE.SPARE_MAP (8 * i) 8 l |>.updBlk 17 (fun b => { b with spared := true })
    | _, _ => s

/-- An online lane test ends (R186, R455). -/
def laneTestDone (pass : Bool) (s : State) : State :=
  let t := s.rd Reg.LANE.TESTING
  let l := fld t 0 7
  if !bit t 7 then s
  else if pass then s.laneTestEnd
  else (((s.wr Reg.LANE.TESTING (W l)).wrBit (Reg.LANE.FAILED (l / 32)) (l % 32) true).assignSpares).raise 9 1

/-! Calibration sets. -/

/-- The fixed points of GZ_EQ, 0.125 degC (R458). -/
def calFixed (p : Nat) : Int := [-320, 0, 320, 680].getD p 0

/-- Fields of CAL.SEL (R464). -/
def calKind (s : State) : Nat := fld (s.rd Reg.CAL.SEL) 0 2
def calInst (s : State) : Nat := fld (s.rd Reg.CAL.SEL) 8 5
def calPoint (s : State) : Nat := fld (s.rd Reg.CAL.SEL) 16 4

/-- An instance of the sets of a kind (R458). -/
def calInstOk (kind inst : Nat) : Bool := (kind == 0 && inst < 4) || (kind == 1 && inst < 3) || (kind == 2 && inst == 0)

/-- STATUS.POINTS shows SEL's kind and instance; 16 points, which its 4 bits cannot show, leave it free (R464; DESIGN CHOICE, log entry 51). -/
def calCount (s : State) : State :=
  let n := (s.calPoints s.calKind s.calInst).length
  if n < 16 then s.wrFld Reg.CAL.STATUS 16 4 n else (s.wrFld Reg.CAL.STATUS 16 4 (fld s.freeW 0 4)).useFree

/-- A write to SEL copies the set into SET_DATA (R460, R464). -/
def calSelect (v : Word) (s : State) : State :=
  let s := s.wr Reg.CAL.SEL (v &&& 0x000F1F03)
  let l := s.calSet s.calKind s.calInst s.calPoint
  ((List.range 16).foldl (fun a w => a.wr (Reg.CAL.SET_DATA w) (l.getD w 0)) s).calCount

/-- A command ends: RESULT, and its event (R460, R461, R464). STATE stays 1 while a run goes on. -/
def calResult (res : Nat) (s : State) : State :=
  let s := s.wrFld Reg.CAL.STATUS 8 8 res
  let s := if s.calRun.isSome then s else s.wrFld Reg.CAL.STATUS 0 2 2
  s.raise 10 (if res == 1 then 0 else 1)

/-- A calibration of the sets of a kind and instance runs (R460): those of a GZ_EQ run are its port's rate. -/
def calBusy (s : State) (kind inst : Nat) : Bool :=
  match s.calRun with
  | some j => j.kind == kind && (if kind == 0 then s.gzRate j.inst == inst else j.inst == inst)
  | none => false

/-- The reserved bits of a set are 0 and its values are in range (R459, R460). -/
def calSetOk (s : State) (kind inst point : Nat) (l : List Word) : Bool :=
  let w := fun i => l.getD i 0
  let t := calTemp l
  (w 0).toNat < 2 ^ 19 && fld (w 0) 17 2 != 3 && -440 ≤ t && t ≤ 1040 && point < calMax kind &&
    (if kind == 0 then t == calFixed point
     else if kind == 1 then (w 1).toNat < 2 ^ 24 && (w 2).toNat < 2 ^ 24 && (List.range 9).all (fun i => w (4 + i) == 0)
     else (List.range 11).all (fun i => w (2 + i) == 0)) &&
    (s.calPoints kind inst).all (fun p => p == point || 40 < (calTemp (s.calSet kind inst p) - t).natAbs)

/-- The 15 words of a set with their CHECK (R459). -/
def calSealed (l : List Word) : List Word :=
  let l := (List.range 15).map (fun w => l.getD w 0)
  l ++ [Crypto.crc32 ((l.map (fun w => leBytes 4 w.toNat)).flatten)]

/-- A set is stored, and SC asks for an MTR swap (R35, R458, R460). -/
def calStore (kind inst point : Nat) (l : List Word) (s : State) : State :=
  let s := { s with cal := Sparse.set (fun _ => []) s.cal (calKey kind inst point) l }.journal s
  let s := if kind == 1 then s.updBlk 30 (fun b => { b with swapPend := true }) else s
  s.calCount

/-- CMD.WRITE (R460). -/
def calWrite (s : State) : State :=
  let l := (List.range 15).map (fun w => s.rd (Reg.CAL.SET_DATA w))
  if s.mode == .hold then s.calResult 10
  else if s.calBusy s.calKind s.calInst then s.calResult 2
  else if !calInstOk s.calKind s.calInst || !s.calSetOk s.calKind s.calInst s.calPoint l then s.calResult 8
  else (s.calStore s.calKind s.calInst s.calPoint (calSealed l)).calResult 1

/-- CMD.CLEAR (R460). -/
def calClear (s : State) : State :=
  if s.mode == .hold then s.calResult 10
  else if s.calBusy s.calKind s.calInst then s.calResult 2
  else if !calInstOk s.calKind s.calInst then s.calResult 8
  else (s.calStore s.calKind s.calInst s.calPoint []).calResult 1

/-- The point nearest a temperature, if it lies within 5 degC (R461). -/
def calNear (s : State) (kind inst : Nat) (t : Int) : Option Nat :=
  let l := if kind == 0 then [0, 1, 2, 3].map (fun p => (p, (calFixed p - t).natAbs))
    else (s.calPoints kind inst).map (fun p => (p, (calTemp (s.calSet kind inst p) - t).natAbs))
  ((l.filter (fun e => e.2 ≤ 40)).foldl (fun (b : Option (Nat × Nat)) e => match b with | some x => if e.2 < x.2 then some e else b | none => some e) none).map
    (fun e => e.1)

/-- The RESULT with which RUN is refused, 0 if it is accepted (R461, R462, R464; DESIGN CHOICE, log entry 51). -/
def calRefusal (s : State) (t : Int) (reference : Bool) : Nat :=
  let kind := s.calKind
  let inst := s.calInst
  let full := (s.calNear kind inst t).isNone && calMax kind ≤ (s.calPoints kind inst).length
  if s.mode == .hold then 10
  else if kind == 3 || (kind != 0 && !calInstOk kind inst) then 8
  else if s.calRun.isSome then 2
  else if kind == 0 then
    if s.code (32 + inst) == 4 then 2
    else if s.mode != .service then 3
    else if !(s.code (32 + inst) == 2 || s.code (32 + inst) == 6) then 2
    else if (s.calNear 0 (s.gzRate inst) t).isNone then 4 else 0
  else if kind == 1 then
    if s.mode != .service then 3 else if s.code 30 != 2 then 2 else if full then 5 else 0
  else if !(fld (s.rd (Reg.TB.LOCK 2)) 0 2 == 2 || reference) then 6
  else if full then 5 else 0

/-- CMD.RUN (R461, R473). -/
def calStart (temp : BitVec 16) (reference : Bool) (s : State) : State :=
  let c := s.calRefusal temp.toInt reference
  if c != 0 then s.calResult c
  else
    let kind := s.calKind
    let inst := s.calInst
    let s := ({ s with calRun := some { kind := kind, inst := inst, temp := temp } }.wrFld Reg.CAL.STATUS 0 2 1).wrFld Reg.CAL.STATUS 8 8 0
    if kind == 0 then
      (s.setCode (32 + inst) 5).updBlk (32 + inst) (fun b => { b with stale := !s.ringOn (inst / 2) && !b.hold })
    else if kind == 1 then
      (((s.setCode 30 5).updBlk 30 (fun b => { b with stale := true })).wrFld Reg.MTR.STATUS 4 2 3).bump Reg.MTR.GAPS |>.raise 30 3
    else s

/-- The quality limit of a run (R461). -/
def calGood (s : State) (j : CalJob) (q : Int) : Bool :=
  if j.kind == 0 then ((s.eyeMin j.inst : Nat) : Int) ≤ q else if j.kind == 1 then q.natAbs ≤ 20 else q.natAbs ≤ 50

/-- A gain, 2.22 in 24 bits, that takes what was measured to the reference; one that no 24 bits hold is free (R459, R461; DESIGN CHOICE, log entry 125). -/
def calGain (s : State) (ref meas : Nat) : Word :=
  let g := roundQ (mkRat (ref * 4194304) meas)
  if meas == 0 || 2 ^ 24 ≤ g then s.freeW &&& 0xFFFFFF else W g.toNat

/-- Words 1 to 12 of a measured set (R459, R461): those of GZ_EQ as measured; of MTR the gains and the phase that take the measured values to REF_V, REF_I and REF_PHI (DEDUCED, log
entry 125); of RTC the error. -/
def calCoef (s : State) (kind : Nat) (m : List Word) : List Word :=
  let w := fun i => m.getD i 0
  if kind == 0 then (List.range 12).map w
  else
    (if kind == 1 then
      [s.calGain (fld (s.rd Reg.CAL.REF_V) 0 24) (w 0).toNat, s.useFree.calGain (fld (s.rd Reg.CAL.REF_I) 0 24) (w 1).toNat, s.rd Reg.CAL.REF_PHI - w 2]
     else [w 0]) ++ List.replicate (if kind == 1 then 9 else 11) 0

/-- A run completes (R461, R462): the set goes to the nearest point within 5 degC, or to the lowest free one. -/
def calDone (coef : List Word) (quality when_ : Word) (s : State) : State :=
  match s.calRun with
  | none => s
  | some j =>
    let inst := if j.kind == 0 then s.gzRate j.inst else j.inst
    let near := s.calNear j.kind inst j.temp.toInt
    let point := near.orElse (fun _ => (List.range (calMax j.kind)).find? (fun p => !(s.calPoints j.kind inst).contains p))
    let good := s.calGood j quality.toInt
    let s := (({ s with calRun := none }.calLeave j).bumpWrap Reg.CAL.RUNS).wr Reg.CAL.QUALITY quality
    let t := match j.kind, point with
      | 0, some p => encS 16 (calFixed p)
      | _, _ => j.temp.toNat
    if !good then s.calResult 9
    else
      match point with
      | none => s.calResult (if j.kind == 0 then 4 else 5)
      | some p =>
        let l := W (t + 0x10000 + 0x20000) :: s.calCoef j.kind coef ++ [quality, when_]
        (if j.kind == 1 then s.useFree.useFree else s).calStore j.kind inst p (calSealed l) |>.calResult 1

/-- CMD as a whole (R464; DESIGN CHOICE, log entry 12): WRITE, CLEAR, RUN. A RUN through a plain register write has a temperature and a reference that are free. -/
def calCmd (v : Word) (temp : BitVec 16) (reference : Bool) (s : State) : State :=
  let s := if bit v 0 then s.calWrite else s
  let s := if bit v 1 then s.calClear else s
  if bit v 2 then s.calStart temp reference else s

end State

/-- BIST_RUN (R450). -/
def execBistRun (r : Requester) (s : State) : Out := .next (s.access r Reg.BIST.CMD 1 (State.bistCmd 1))

/-- BIST_DONE (R453). -/
def execBistDone (outcome : Fin 3) (coverage : BitVec 14) (us : Word) (s : State) : Out := .next (s.bistDone (outcome + 1) coverage.toNat us)

/-- REPAIR_BURN (R457). -/
def execRepairBurn (r : Requester) (s : State) : Out := .next (s.access r Reg.BIST.CMD 2 (State.bistCmd 2))

/-- LANE_TEST_START (R455). -/
def execLaneTestStart (seconds : Nat) (s : State) : Out := .next (s.laneTestStart seconds)

/-- LANE_TEST_DONE (R455). -/
def execLaneTestDone (pass : Bool) (s : State) : Out := .next (s.laneTestDone pass)

/-- CAL_SEL (R460). -/
def execCalSel (r : Requester) (v : Word) (s : State) : Out := .next (s.access r Reg.CAL.SEL v (State.calSelect v))

/-- CAL_WRITE (R460). -/
def execCalWrite (r : Requester) (s : State) : Out := .next (s.access r Reg.CAL.CMD 1 (State.calCmd 1 0 false))

/-- CAL_CLEAR (R460). -/
def execCalClear (r : Requester) (s : State) : Out := .next (s.access r Reg.CAL.CMD 2 (State.calCmd 2 0 false))

/-- CAL_RUN (R461). -/
def execCalRun (r : Requester) (temp : BitVec 16) (reference : Bool) (s : State) : Out :=
  .next (s.access r Reg.CAL.CMD 4 (State.calCmd 4 temp reference))

/-- CAL_RUN_DONE (R461, R462). -/
def execCalRunDone (coef : List Word) (quality when_ : Word) (aborted : Bool) (s : State) : Out :=
  .next (if aborted then s.abortCal else s.calDone coef quality when_)

end Sys2Proof.Machine
end

