-- ==== Sys2Proof/Machine/Route.lean ====
section
/-!
DEFINITION. A register write as each page takes it (R8, R9, R66-R484): the plain effect of the access code, and page by page the
registers whose write does more or is dropped under a condition. The rows that name a single register call the same operations.
-/
namespace Sys2Proof.Machine

namespace State

/-- The effect of a write by its access code alone (R8, R9, R86). -/
def plainWrite (addr : Nat) (v : Word) (s : State) : State :=
  match regRow addr with
  | none => s
  | some r =>
    match r.acc with
    | .rw => s.wr addr (v &&& r.mask)
    | .w1c => s.wr addr (s.rd addr &&& ~~~(v &&& r.mask))
    | .rws =>
      if (s.blk (addr / 0x1000)).swapPend then s.err (addr / 0x1000)
      else { s with shadow := Sparse.put s.shadow addr (v &&& r.mask) }
    | _ => s

/-- Fields of a register that may not change while CTL.ENABLE is 1: a write that changes them is dropped and counted. -/
def plainIfSame (mask : Word) (addr : Nat) (v : Word) (s : State) : State :=
  if (s.blk (addr / 0x1000)).enable && (v &&& mask) != (s.rd addr &&& mask) then s.err (addr / 0x1000) else s.plainWrite addr v

/-- SYS (R68, R71). -/
def writeSYS (off : Nat) (v : Word) (s : State) : State :=
  if off == 0x44 then s.requestMode (fld v 0 4)
  else if off == 0x4C then
    let m := fld v 0 4
    let s' := s.plainWrite Reg.SYS.BOOT_CFG v
    if m == 2 || m == 3 || m == 4 || m == 6 then s' else s'.wrFld Reg.SYS.BOOT_CFG 0 4 (fld (s.rd Reg.SYS.BOOT_CFG) 0 4)
  else if off == 0x60 then (if bit v 0 then s.resetRequest s.goodStart else s)
  else s.plainWrite off v

/-- EVR (R96, R99, R100). -/
def writeEVR (off : Nat) (v : Word) (s : State) : State :=
  if off == 0x40 then s.swgenWrite v
  else if 0x400 ≤ off && off < 0x800 then s.wr (0x2000 + off) (v &&& 0x1F7F ||| ownerBit ((off - 0x400) / 4))
  else s.plainWrite (0x2000 + off) v

/-- A vector is unmasked: its pending message is sent once the link is up (R97). -/
def msixCtrl (k : Nat) (v : Word) (s : State) : State :=
  let s := s.wr (Reg.HIF.MSIX_CTRL k) v
  if !bit v 0 && bit (s.rd (Reg.HIF.MSIX_PBA 0)) k && bit (s.rd Reg.HIF.LINK_STATUS) 10 then
    (s.wrBit (Reg.HIF.MSIX_PBA 0) k false).msixSend k
  else s

/-- HIF (R97, R101). -/
def writeHIF (off : Nat) (v : Word) (s : State) : State :=
  if 0x800 ≤ off && off < 0xA00 && off % 16 == 12 then s.msixCtrl ((off - 0x800) / 16) v else s.plainWrite (0x3000 + off) v

/-- PRT.CLIENT_CFG (R106): a change of KEY_SLOT resets LAST_SEQ and forgets the stored response; any change is the cause of EV199. -/
def clientCfg (c : Nat) (v : Word) (s : State) : State :=
  let a := Reg.PRT.CLIENT_CFG c
  let old := s.rd a
  let s := s.plainWrite a v
  let s := if fld old 8 6 != fld v 8 6 then
      ({ s with prtLast := Sparse.drop s.prtLast c }.wr (Reg.PRT.LAST_SEQ_LO c) 0).wr (Reg.PRT.LAST_SEQ_HI c) 0
    else s
  if s.rd a != old then s.raise 4 3 else s

/-- PRT (R106). -/
def writePRT (off : Nat) (v : Word) (s : State) : State :=
  if 0x60 ≤ off && off < 0x80 then s.clientCfg ((off - 0x60) / 4) v else s.plainWrite (0x4000 + off) v

/-- FUSE.BURN_ARM (R433). -/
def burnArm (v : Word) (s : State) : State := if v = 0x46555345 && !s.failSeq then { s with burnArmed := true } else s

/-- FUSE (R433, R435). -/
def writeFUSE (off : Nat) (v : Word) (s : State) : State :=
  if off == 0x80 then s.rowSelect v
  else if off == 0x90 then s.burnArm v
  else if off == 0x94 then s.burnCommand v
  else s.plainWrite (0x5000 + off) v

/-- KEY (R419, R422): each requester has its own operation registers. -/
def writeKEY (r : Requester) (off : Nat) (v : Word) (s : State) : State :=
  if off == 0x4C then s.slotSelect v
  else if off == 0x60 then s.keyCommand r (fld v 0 8) (fld v 8 6) (fld v 16 6)
  else if off == 0x64 then s.setKreg r off (v &&& 0x7FF)
  else if off == 0x68 then s.setKreg r off (v &&& 0x3F0F1F)
  else if 0x400 ≤ off && off < 0x800 then s.setKreg r off v
  else s.plainWrite (0x6000 + off) v

/-- TAMP (R427, R436): after sealing, EN bits can be set and not cleared. -/
def writeTAMP (off : Nat) (v : Word) (s : State) : State :=
  if off == 0x40 then
    let keep := if bit (s.rd Reg.FUSE.LIFECYCLE) 0 then s.rd Reg.TAMP.CFG &&& 0x3F else 0
    s.plainWrite Reg.TAMP.CFG (v ||| keep)
  else if off == 0x60 then (if fld v 0 9 ≤ 415 then s.plainWrite Reg.TAMP.SAFE_INDEX v else s.err 7)
  else if off == 0x64 then s.safeStore v
  else if off == 0x68 then (if bit v 0 then s.safeSeal else s)
  else s.plainWrite (0x7000 + off) v

/-- UPD (R441-R446). -/
def writeUPD (off : Nat) (v : Word) (s : State) : State :=
  if off == 0x40 then s.updSelWrite v
  else if off == 0x44 then s.loadCmd v
  else if off == 0x48 then s.loadPush v
  else if off == 0x54 then s.actCmd v
  else if 0x800 ≤ off then { s with upd := { s.upd with loadWin := Sparse.set (fun _ => 0) s.upd.loadWin ((off - 0x800) / 4) v } }
  else s.plainWrite (0x8000 + off) v

/-- CAL (R458-R462): the temperature and the reference of a run that no command of its own names are free. -/
def writeCAL (off : Nat) (v : Word) (s : State) : State :=
  if off == 0x40 then s.calSelect v
  else if off == 0x44 then s.useFree.calCmd v (BitVec.ofNat 16 (fld s.freeW 0 16)) (bit s.freeW 16)
  else if off == 0x13C then s
  else s.plainWrite (0xA000 + off) v

/-- A calendar staging register: a reserved bit written 1 makes its value impossible until it is written again (R402, R413). -/
def rtcStage (addr : Nat) (v : Word) (s : State) : State :=
  let stray := match regRow addr with | some r => (v &&& ~~~r.mask) != 0 | none => false
  let l := s.rtc.stray.filter (fun a => a != addr)
  (s.plainWrite addr v).setRtc { s.rtc with stray := if stray then l ++ [addr] else l }

/-- An alarm's registers (R406, R407, R412). -/
def alarmWrite (r : Requester) (a off : Nat) (v : Word) (s : State) : State :=
  s.alarmOwned r a (fun s =>
    if off % 16 == 8 then
      let s := if bit v 0 then s.alarmArm a else s
      if bit v 1 then s.alarmDisarm a else s
    else if off % 16 == 12 then s
    else if s.almArmed a then s.err 11
    else s.rtcStage (0xB000 + off) v)

/-- RTC (R402-R412). -/
def writeRTC (r : Requester) (off : Nat) (v : Word) (s : State) : State :=
  if off == 0x60 || off == 0x64 || off == 0x68 then s.rtcStage (0xB000 + off) v
  else if off == 0x6C then (if bit v 0 then s.rtcGo else s)
  else if off == 0x70 then s.rtcShift [sfld v 0 16]
  else if 0x80 ≤ off && off < 0xA0 then s.alarmWrite r ((off - 0x80) / 16) off v
  else if off == 0xA0 then s.wakeCfgWrite false v
  else if off == 0xA4 then s.wakeCfgWrite true v
  else s.plainWrite (0xB000 + off) v

/-- TB (R111-R119, R128). -/
def writeTB (r : Requester) (n off : Nat) (v : Word) (s : State) : State :=
  if off == 0x4C then s.incrFrac r n v
  else if off == 0x50 then s.incrInt r n v
  else if off == 0x54 then s.adj r n v
  else if off == 0x58 then s.srcWrite n v
  else if off == 0x60 then s.followOffset n v
  else if off == 0x6C then s.outCfg n v
  else if off == 0x70 then (if bit v 0 then { s with snapPend := true } else s)
  else s.plainWrite (0xC000 + 0x1000 * n + off) v

/-- FE (R16, R18, R204-R208). -/
def writeFE (off : Nat) (v : Word) (s : State) : State :=
  if off == 0x58 then (if bit v 0 then s.feCommit s.candidate (s.rd Reg.FE.COMMIT_PT) else s)
  else if off == 0x7C then s.zcmd (fld v 0 8) (fld v 8 4) (bit v 12)
  else s.plainWrite (0x10000 + off) v

/-- LANE (R187, R208): ENABLE at 0 ends the online test. -/
def writeLANE (off : Nat) (v : Word) (s : State) : State :=
  let s := s.plainWrite (0x11000 + off) v
  if off == 0x54 && !bit v 0 then s.laneTestEnd else s

/-- CLR (R215, R216, R225). -/
def writeCLR (r : Requester) (off : Nat) (v : Word) (s : State) : State :=
  if off == 0x4C then s.residSel (fld v 0 8)
  else if off == 0x64 then s.setGm r { s.gm r with index := v &&& 0x1FFF7 }
  else if off == 0x68 then s.gmWrite r v
  else if off == 0x70 then (if bit v 0 then s.gmGo (bit v 1) else s)
  else s.plainWrite (0x13000 + off) v

/-- THM (R236, R238). -/
def writeTHM (off : Nat) (v : Word) (s : State) : State :=
  if off == 0x48 then s.rearm (fld v 0 17) false else s.plainWrite (0x14000 + off) v

/-- VIN (R172, R173). -/
def writeVIN (off : Nat) (v : Word) (s : State) : State :=
  if 0x100 ≤ off && off < 0x300 && off % 64 == 0 then s.sCtl ((off - 0x100) / 64) v else s.plainWrite (0x15000 + off) v

/-- CLIP (R157-R161, R174): PRELOAD, GO and STOP of one write in that order (DESIGN CHOICE, log entry 12). -/
def writeCLIP (off : Nat) (v : Word) (s : State) : State :=
  if off == 0x50 then s.clipDelete (fld v 0 16)
  else if 0x100 ≤ off && off < 0x300 && off % 64 == 0x14 then
    let p := (off - 0x100) / 64
    let s := if bit v 0 then s.clipPreload p else s
    let s := if bit v 1 then s.clipGo p else s
    if bit v 2 then s.clipStop p else s
  else s.plainWrite (0x16000 + off) v

/-- DMK (R143, R176). -/
def writeDMK (off : Nat) (v : Word) (s : State) : State :=
  if off == 0x4C then s.cueWrite v else if off == 0x54 then s.cueGo v else s.plainWrite (0x17000 + off) v

/-- UNI (R164, R177): a change of PORT_EN or IPV6 changes the groups joined. -/
def writeUNI (off : Nat) (v : Word) (s : State) : State :=
  if off == 0x48 then s.inDataWrite v
  else if off == 0x40 then
    let t := s.plainWrite Reg.UNI.CFG v
    if s.up 24 then s.sacnReport t else t
  else s.plainWrite (0x18000 + off) v

/-- AUD (R169, R178). -/
def writeAUD (off : Nat) (v : Word) (s : State) : State := if off == 0x40 then s.audCfg v else s.plainWrite (0x19000 + off) v

/-- QM (R340, R346, R348). -/
def writeQM (off : Nat) (v : Word) (s : State) : State :=
  if off == 0x74 then s.queueCfg 0 v
  else if off == 0x78 then s.queueCfg 1 v
  else if off == 0x7C then s.queueCfg 2 v
  else if off == 0x88 then (if bit v 0 then s.flushReq (fld (s.rd Reg.QM.Q_SEL) 0 14) else s)
  else if 0x100 ≤ off && off < 0x180 && off % 32 == 8 then s.ringSizeWrite ((off - 0x100) / 32) v
  else if 0x100 ≤ off && off < 0x180 && off % 32 == 16 then (s.plainWrite (0x1A000 + off) v).rxFill ((off - 0x100) / 32)
  else s.plainWrite (0x1A000 + off) v

/-- DSP (R210): a write that takes the sum of the level capacities above 8,192 is ignored. -/
def writeDSP (off : Nat) (v : Word) (s : State) : State :=
  if 0x40 ≤ off && off < 0x60 then
    let sum := (List.range 8).foldl (fun a k =>
      a + clampN 16 4096 (fld (if off == 0x40 + 4 * k then v else s.rd (Reg.DSP.LEVEL_CAP k)) 0 13)) 0
    if 8192 < sum then s else s.plainWrite (0x1B000 + off) v
  else s.plainWrite (0x1B000 + off) v

/-- FLT (R380, R391, R393, R395). -/
def writeFLT (off : Nat) (v : Word) (s : State) : State :=
  if off == 0xC0 then (if bit v 0 then s.mbGo else s)
  else if off == 0xD4 then s.logSel v
  else if off == 0x154 then s.imgCmd v
  else s.plainWrite (0x1C000 + off) v

/-- SCH (R396): word 0 of a loop with TARGET 6 or a reserved bit keeps its value and is counted. -/
def writeSCH (off : Nat) (v : Word) (s : State) : State :=
  if off == 0x78 then s.groupSel v
  else if 0x410 ≤ off && off < 0x800 && off % 16 == 0 && (fld v 24 3 == 6 || (v &&& 0x780C0000) != 0) then s.err 29
  else s.plainWrite (0x1D000 + off) v

/-- PSU (R470, R475). -/
def writePSU (off : Nat) (v : Word) (s : State) : State :=
  if off == 0x40 then (s.plainWrite Reg.PSU.CFG v).auxUpdate
  else if off == 0x8C then s.auxClear v
  else s.plainWrite (0x1F000 + off) v

/-- GZP (R255, R257, R285): end B of a ring takes its protocol configuration from end A, which carries its own writes over. -/
def writeGZP (n off : Nat) (v : Word) (s : State) : State :=
  let a := 0x20000 + 0x1000 * n + off
  if off == 0x40 then s.plainIfSame 0x7F3 a v
  else if off == 0x50 then s.lineCmd n v
  else if off == 0x130 then s.protoCmd n v
  else if ringConfig.contains off && s.ringOn (n / 2) then
    if n % 2 == 1 then s.err (32 + n)
    else
      let s := s.plainWrite a v
      s.wr (a + 0x1000) (s.rd a)
  else s.plainWrite a v

/-- GZR (R286). -/
def writeGZR (k off : Nat) (v : Word) (s : State) : State := if off == 0x40 then s.ringCtl k v else s

/-- DOM (R307). -/
def writeDOM (n off : Nat) (v : Word) (s : State) : State :=
  let a := 0x50000 + 0x1000 * n + off
  if off == 0x40 then s.plainIfSame 0xFFFF0017 a v else if off == 0x54 then (if bit v 0 then s.domRecount n else s) else s.plainWrite a v

/-- DMX (R308). -/
def writeDMX (n off : Nat) (v : Word) (s : State) : State :=
  let a := 0x60000 + 0x1000 * n + off
  if off == 0x40 then s.plainIfSame 7 a v
  else if off == 0x44 then s.plainIfSame 0xFFFFFFFF a v
  else if off == 0x48 then s.plainIfSame 0x3FF a v
  else if off == 0x78 then s.rdmCmd n v
  else s.plainWrite a v

/-- SIO (R305, R309). -/
def writeSIO (off : Nat) (v : Word) (s : State) : State :=
  if off == 0xF4 then s.actGo v else if off == 0xFC then s.actClear v else s.plainWrite (0x64000 + off) v

/-- ETH (R313, R322, R324, R330, R331): MATCH entries 0 to 11 belong to FP; gates exist on ETH0 and ETH1 only. -/
def writeETH (r : Requester) (n off : Nat) (v : Word) (s : State) : State :=
  let a := 0x68000 + 0x1000 * n + off
  if off == 0x40 then s.plainIfSame 0xC4 a v
  else if 0x80 ≤ off && off < 0xE0 then
    if r == .fp then s.wr a (if off % 8 == 0 then v else v &&& 0x1FFFF) else s.err (104 + n)
  else if 2 ≤ n && ((0x120 ≤ off && off ≤ 0x140) || (0x400 ≤ off && off < 0x600)) then s.err (104 + n)
  else if off == 0x100 then (s.plainWrite a v).preemptStart n
  else if off == 0x124 then (if bit v 0 then s.gateApply n else s)
  else s.plainWrite a v

/-- RAD (R357, R358, R366, R373). -/
def writeRAD (off : Nat) (v : Word) (s : State) : State :=
  let a := 0x70000 + off
  if off == 0x40 then s.netCfg v
  else if off == 0x4C then (if fld v 0 10 == 0 && fld v 0 16 ≤ 0xF800 then s.plainIfSame 0xFFFF a v else s)
  else if off == 0x54 then (s.plainWrite a v).beaconGrid
  else if off == 0x58 then s.plainIfSame 0x3F a v
  else if off == 0x5C then s.chmapWrite false v
  else if off == 0x60 then s.chmapWrite true v
  else if off == 0x78 || off == 0x7C then
    let lo := if off == 0x78 then v else s.rd Reg.RAD.MEMBER_CHMAP_LO
    let hi := if off == 0x7C then v else s.rd Reg.RAD.MEMBER_CHMAP_HI
    if s.mapRefused lo hi then (s.err 112).raise 113 1 else s.plainWrite a v
  else if off == 0x110 then s.childSel v
  else s.plainWrite a v

/-- RFE (R375). -/
def writeRFE (off : Nat) (v : Word) (s : State) : State :=
  if off == 0x40 then s.rfeConfig 0 v
  else if off == 0x44 then s.rfeConfig 1 v
  else if off == 0x48 then s.rfeConfig 2 v
  else s.plainWrite (0x71000 + off) v

/-- A block register of a page is written. -/
def pageWrite (r : Requester) (pg off : Nat) (v : Word) (s : State) : State :=
  if pg == 0 then s.writeSYS off v
  else if pg == 2 then s.writeEVR off v
  else if pg == 3 then s.writeHIF off v
  else if pg == 4 then s.writePRT off v
  else if pg == 5 then s.writeFUSE off v
  else if pg == 6 then s.writeKEY r off v
  else if pg == 7 then s.writeTAMP off v
  else if pg == 8 then s.writeUPD off v
  else if pg == 9 then (if off == 0x44 then s.bistCmd v else s.plainWrite (0x9000 + off) v)
  else if pg == 10 then s.writeCAL off v
  else if pg == 11 then s.writeRTC r off v
  else if 12 ≤ pg && pg < 16 then s.writeTB r (pg - 12) off v
  else if pg == 16 then s.writeFE off v
  else if pg == 17 then s.writeLANE off v
  else if pg == 19 then s.writeCLR r off v
  else if pg == 20 then s.writeTHM off v
  else if pg == 21 then s.writeVIN off v
  else if pg == 22 then s.writeCLIP off v
  else if pg == 23 then s.writeDMK off v
  else if pg == 24 then s.writeUNI off v
  else if pg == 25 then s.writeAUD off v
  else if pg == 26 then s.writeQM off v
  else if pg == 27 then s.writeDSP off v
  else if pg == 28 then s.writeFLT off v
  else if pg == 29 then s.writeSCH off v
  else if pg == 31 then s.writePSU off v
  else if 32 ≤ pg && pg < 64 then s.writeGZP (pg - 32) off v
  else if 64 ≤ pg && pg < 80 then s.writeGZR (pg - 64) off v
  else if 80 ≤ pg && pg < 96 then s.writeDOM (pg - 80) off v
  else if 96 ≤ pg && pg < 100 then s.writeDMX (pg - 96) off v
  else if pg == 100 then s.writeSIO off v
  else if 104 ≤ pg && pg < 108 then s.writeETH r (pg - 104) off v
  else if pg == 112 then s.writeRAD off v
  else if pg == 113 then s.writeRFE off v
  else s.plainWrite (0x1000 * pg + off) v

/-- A W1C register that hardware sets in the cycle of the write: the bits `sets` stay 1 (R77). -/
def keepSet (old : Word) (addr : Nat) (v sets : Word) (s : State) : State :=
  match regRow addr with
  | some r => if r.acc == .w1c then s.wr addr (s.rd addr ||| (old &&& v &&& sets &&& r.mask)) else s
  | none => s

/-- The groups that the module joins follow the registers that name them (R313). -/
def groupsAfter (pg : Nat) (s : State) : State := if pg == 12 || pg == 13 || pg == 21 || pg == 25 || pg == 28 || (104 ≤ pg && pg < 108) then s.fpSync else s

/-- The effect of a register write that nothing stops (R8, R78); `sets` are bits that hardware sets in the same cycle (R77, R95). -/
def routeWrite (r : Requester) (addr : Nat) (v sets : Word) (s : State) : State :=
  let pg := addr / 0x1000
  let off := addr % 0x1000
  if off == 8 then s.ctlWrite pg v
  else if off == 0x14 then s.evtEnWrite pg v
  else if off == 0x1C then s.evtClear pg v sets
  else if off < 0x40 then s
  else ((s.pageWrite r pg off v).keepSet (s.rd addr) addr v sets).groupsAfter pg

/-- Whether a register is GZP.LINE_CMD, whose write passes the gate of the header (DEDUCED, log entry 34). -/
def liveCmd (addr : Nat) : Bool := 0x20000 ≤ addr && addr < 0x40000 && addr % 0x1000 == 0x50

/-- An aligned register write of 32 bits. -/
def registerWrite (r : Requester) (addr : Nat) (v sets : Word) (s : State) : State :=
  if liveCmd addr then s.accessLive r addr v (fun s => s.routeWrite r addr v sets)
  else s.access r addr v (fun s => s.routeWrite r addr v sets)

/-- A bad access is counted and reported (R75). -/
def badCount (s : State) : State := (s.bump Reg.HIF.BAD_ACCESS_CNT).raise 3 3

/-- A bad access of a requester (R75, R76): HOST's waits in DOZE and is lost while HIF does not answer; a processor's is counted where HIF can be reached; a PRT request
never comes to it, because PRT refuses it whole. A read returns zero. -/
def badAccess (r : Requester) (wr : Bool) (addr : Nat) (s : State) : State :=
  let zero := fun (s : State) => if wr then s else s.emit (.read r addr 0)
  match r with
  | .host =>
    if s.mode == .doze then { s with hostWait := s.hostWait ++ [HostAccess.badAccess wr addr] }.hostWake
    else if s.hostUp then zero s.badCount else s
  | .prt => s
  | _ => zero (if s.reach 3 then s.badCount else s)

/-- A register write as it comes: an address that is not a multiple of 4 is a bad access; one of 64 bits writes the lower address first (R75). -/
def writeAsCome (r : Requester) (addr : Nat) (v : Word) (hi : Option Word) (sets : Word) (s : State) : State :=
  if addr % 4 != 0 then s.badAccess r true addr
  else
    let s := s.registerWrite r addr v sets
    match hi with
    | some w => s.registerWrite r (addr + 4) w 0
    | none => s

end State

/-- REGISTER_WRITE (R8, R75, R77): writes to the page that arrive in the same cycle take effect in the order of their requesters. -/
def execRegisterWrite (r : Requester) (addr v : Word) (hi : Option Word) (sets : Word) (same : List (Requester × Word × Word)) (s : State) : Out :=
  let others := (same.filter (fun e => e.1 != r && e.2.1.toNat / 0x1000 == addr.toNat / 0x1000)).map (fun e => (e.1, e.2.1.toNat, e.2.2, (none : Option Word), (0 : Word)))
  .next ((arrivalOrder ((r, addr.toNat, v, hi, sets) :: others)).foldl (fun a e => a.writeAsCome e.1 e.2.1 e.2.2.1 e.2.2.2.1 e.2.2.2.2) s)

/-- CLIENT_CFG_WRITE (R106). -/
def execClientCfgWrite (r : Requester) (c : Fin 8) (v : Word) (s : State) : Out :=
  .next (s.access r (Reg.PRT.CLIENT_CFG c) v (State.clientCfg c v))

end Sys2Proof.Machine
end

