-- ==== Sys2Proof/Machine/Readback.lean ====
section
/-!
DEFINITION. What each register reads, and the reads that change state (R8, R66-R484): the common header, the registers that show a
present condition, and the index and latch registers that a read advances. Every other register reads its value in the register file.
-/
namespace Sys2Proof.Machine

namespace State

/-- STATE of a page (R80). -/
def stateWord (b : Block) : Word :=
  W (b.code + 16 * b2n b.pendEnable + 32 * b2n b.stale + 64 * b2n b.swapPend + 128 * b2n b.spared)

/-- The instance index of a page (R78). -/
def instanceOf (pg : Nat) : Nat :=
  if 12 ≤ pg && pg < 16 then pg - 12
  else if 32 ≤ pg && pg < 64 then pg - 32
  else if 64 ≤ pg && pg < 80 then pg - 64
  else if 80 ≤ pg && pg < 96 then pg - 80
  else if 96 ≤ pg && pg < 100 then pg - 96
  else if 104 ≤ pg && pg < 108 then pg - 104
  else 0

/-- A header register (R78-R80, R85, R87), live in every state of the block (R84); ID.TYPE and CAP are open (DESIGN CHOICE, log entry 7). A page that drives no event source has no causes (R94); DSP shows no
BANK, ERR_CNT or FAULT, in place of which it reads OFF (R191; DESIGN CHOICE, log entry 100). -/
def headerRead (s : State) (pg off : Nat) : Word :=
  let b := s.blk pg
  if off == 0 then W (1 + 0x100 * instanceOf pg + 0x10000 * (Config.idType pg).toNat)
  else if off == 4 then Config.cap pg
  else if off == 8 then ctlValue b
  else if off == 0xC then stateWord (if pg == 27 && b.code == 7 then { b with code := 0 } else b)
  else if (evtBase pg).isNone && (off == 0x10 || off == 0x14 || off == 0x18) then 0
  else if pg == 27 && (off == 0x20 || off == 0x28) then 0
  else if off == 0x10 then b.evtRaw
  else if off == 0x14 then b.evtEn
  else if off == 0x18 then b.evtRaw &&& b.evtEn
  else if off == 0x20 then b.errCnt
  else if off == 0x24 then s.accessRow pg
  else if off == 0x28 then W (b2n b.bank + 0x10000 * b.swapCount.toNat)
  else 0

/-- A word whose bit m is `f m`. -/
def wordOf (f : Nat → Bool) : Word := W ((List.range 32).foldl (fun a m => a + 2 ^ m * b2n (f m)) 0)

/-- SYS (R66, R67). -/
def readSYS (s : State) (off : Nat) : Word :=
  if off == 0x40 then W (modeCode s.mode + 16 * modeCode s.prevMode + 256 * b2n s.trans.isSome)
  else if 0x80 ≤ off && off < 0x90 then wordOf (fun m => s.isReady (8 * (off - 0x80) + m))
  else s.rd off

/-- EVR (R98, R100). -/
def readEVR (s : State) (off : Nat) : Word :=
  if 0x80 ≤ off && off < 0xA0 then wordOf (fun m => s.srcActive (8 * (off - 0x80) + m))
  else if 0x400 ≤ off && off < 0x800 then s.route ((off - 0x400) / 4)
  else s.rd (0x2000 + off)

/-- The size of a table in bytes (R90, R131, R179, R217, R221, R229, R382, R385, R390). -/
def tableSize (t : Nat) : Nat := [0, 268435456, 524288, 8388608, 134217728, 2097152, 33554432, 524288, 131072].getD t 0

/-- HIF (R101). -/
def readHIF (s : State) (off : Nat) : Word :=
  let t := fld (s.rd Reg.HIF.WIN_SEL) 0 8
  if off == 0x4C then W (tableSize t / 1024) else if off == 0x50 then s.accessRow (256 + t) else s.rd (0x3000 + off)

/-- KEY (R419, R435). -/
def readKEY (s : State) (r : Requester) (off : Nat) : Word :=
  if off == 0x44 then
    let live := ((List.range 64).filter (fun i => (s.slot i).state == 1)).length
    W (fld (s.rd Reg.KEY.STATUS) 0 2 + 0x100 * live + 0x10000 * (s.keyJobs.length - 1))
  else if off == 0x64 || off == 0x68 || off == 0x6C || (0x400 ≤ off && off < 0xC00) then s.kreg r off
  else s.rd (0x6000 + off)

/-- TAMP (R427, R436). -/
def readTAMP (s : State) (off : Nat) : Word :=
  if off == 0x40 && bit (s.rd Reg.FUSE.LIFECYCLE) 2 then s.rd Reg.TAMP.CFG ||| 0x3F
  else if off == 0x64 then W (s.safeLevel (fld (s.rd Reg.TAMP.SAFE_INDEX) 0 9))
  else s.rd (0x7000 + off)

/-- UPD (R446). -/
def readUPD (s : State) (off : Nat) : Word :=
  if 0x80 ≤ off && off < 0x120 then s.imgInfo ((off - 0x80) / 32) ((off - 0x80) / 4 % 8) else s.rd (0x8000 + off)

/-- RTC (R399, R412): TIME, DATE and SECONDS as the requester's last read of SUBSEC latched them. -/
def readRTC (s : State) (r : Requester) (off : Nat) : Word :=
  let l := fun (k : Nat) => Sparse.get (fun _ => 0) s.rtc.latch (4 * reqIdx r + k)
  if off == 0x48 then W (s.rtc.time % 32768)
  else if off == 0x4C then l 0
  else if off == 0x50 then (if l 1 == 0 then 0x7D00101 else l 1)
  else if off == 0x54 then l 2
  else if off == 0x58 then l 3
  else s.rd (0xB000 + off)

/-- TB (R109, R114, R129). -/
def readTB (s : State) (r : Requester) (n off : Nat) : Word :=
  let t := s.tb n
  if off == 0x40 then t.count
  else if off == 0x44 then Sparse.get (fun _ => 0) t.latch (reqIdx r)
  else if off == 0x48 then W t.phase
  else s.rd (0xC000 + 0x1000 * n + off)

/-- FE (R196, R208): a zone's link lead is the largest of its ports now. -/
def readFE (s : State) (off : Nat) : Word :=
  let v := s.rd (0x10000 + off)
  if 0x500 ≤ off && off < 0x900 && bit v 2 then setFld v 16 16 (s.zoneLead s.plan ((off - 0x500) / 4)) else v

/-- A stream is locked to TB1 (R151; DESIGN CHOICE, log entry 54). -/
def genlock (s : State) (st : Nat) : Bool := st == 2 && s.locked 1

/-- VIN (R172). -/
def readVIN (s : State) (off : Nat) : Word :=
  let v := s.rd (0x15000 + off)
  if 0x100 ≤ off && off < 0x300 && off % 64 == 0x1C then setBit v 2 (s.genlock (fld v 0 2)) else v

/-- CLIP (R159, R174; DESIGN CHOICE, log entry 54). -/
def readCLIP (s : State) (off : Nat) : Word :=
  if off == 0x44 then W (s.clipBytes s.clipCache / 2 ^ 20)
  else if off == 0x48 then 16264
  else if off == 0x54 then W (s.clipUnits 8)
  else if off == 0x58 then W (s.clipFree / 2 ^ 20)
  else
    let v := s.rd (0x16000 + off)
    if 0x100 ≤ off && off < 0x300 && off % 64 == 0x18 then
      setBit v 4 (s.clipCache.contains (fld (s.rd (Reg.CLIP.P_CLIP ((off - 0x100) / 64))) 0 16))
    else v

/-- UNI (R177). -/
def readUNI (s : State) (off : Nat) : Word :=
  let i := fld (s.rd Reg.UNI.IN_INDEX) 0 11
  if off == 0x48 then s.uniEntry i
  else if off == 0x4C then W ((s.uni i).sources.length + 16 * s.uniState i + 256 * topPrio (s.uni i).sources)
  else s.rd (0x18000 + off)

/-- AUD (R178). -/
def readAUD (s : State) (off : Nat) : Word :=
  let v := s.rd (0x19000 + off)
  if off == 0x58 then setBit v 2 (s.genlock (fld v 0 2)) else v

/-- QM (R344, R348). -/
def readQM (s : State) (off : Nat) : Word :=
  let q := fld (s.rd Reg.QM.Q_SEL) 0 14
  let x := s.pq q
  if off == 0x44 then W s.poolFree
  else if off == 0x74 then W (x.depth % 65536 + 0x10000 * (queueEnds q).1 + 0x100000 * (queueEnds q).2)
  else if off == 0x78 then W x.min
  else if off == 0x7C then W x.max
  else if off == 0x80 then
    W (Nat.min 65535 (x.items.length + (Sparse.get (fun _ => []) s.tileQ q).length) + 0x10000 * b2n x.flush + 0x20000 * b2n ((queueEnds q).1 != 0 || (queueEnds q).2 != 0))
  else if off == 0x84 then W (x.cells + tileCells (Sparse.get (fun _ => []) s.tileQ q))
  else s.rd (0x1A000 + off)

/-- Registry entries with a bit of a word set (R382, R395). -/
def regCount (s : State) (w n : Nat) : Nat := (s.registry.filter (fun e => e.1 % 64 == w && bit e.2 n)).length

/-- FLT (R393-R395). -/
def readFLT (s : State) (off : Nat) : Word :=
  let x := s.img s.imgSel
  if off == 0x144 then W x.state
  else if off == 0x148 then W x.size
  else if off == 0x14C then x.version
  else if off == 0x150 then x.target
  else if off == 0x174 then s.imgMapWord
  else if off == 0x180 then W (s.regCount 0 0)
  else if off == 0x184 then W (s.regCount 16 0)
  else s.rd (0x1C000 + off)

/-- SCH (R396). -/
def readSCH (s : State) (off : Nat) : Word :=
  if off == 0x6C then W s.schEntries.length
  else if off == 0x70 then W (s.rules.filter (fun e => e.1 % 8 == 0 && bit e.2 0)).length
  else s.rd (0x1D000 + off)

/-- GZP (R271, R273, R285): the registers of NODE_SEL show the node in the port end that enumerates the chain.
Both ends of a ring show the measurement of end A (R248). -/
def readGZP (s : State) (n off : Nat) : Word :=
  let o := s.gzOwner n
  let a := fld (s.rd (Reg.GZP.NODE_SEL n)) 0 12
  let x := s.gzNode o a
  let m := if s.ringOn (n / 2) then n / 2 * 2 else n
  if off == Reg.GZP.LEAK 0 % 0x1000 then s.rd (Reg.GZP.LEAK m)
  else if off == Reg.GZP.LINE_STATUS 0 % 0x1000 then setBit (s.rd (Reg.GZP.LINE_STATUS n)) 7 (bit (s.rd (Reg.GZP.LINE_STATUS m)) 7)
  else if 0x164 ≤ off && off < 0x180 then W (leAt (x.desc.getD []) (off - 0x164) 4)
  else if off == 0x180 then W (x.flags % 256 + 256 * b2n (s.gzCompat o a).isSome + 0x10000 * (if x.desc.isSome then fld x.tSink 0 16 else 0))
  else if off == 0x184 then W (x.miss % 65536 + 0x10000 * (x.castles % 65536))
  else s.rd (0x20000 + 0x1000 * n + off)

/-- DMX (R303, R308): LINK_LEAD is a packet's time and 1 us. -/
def readDMX (s : State) (n off : Nat) : Word :=
  if off == 0x58 then W ((s.dmxPacket n + 1) % 65536)
  else if off == 0x88 then W (s.uidAt n)
  else if off == 0x8C then W (s.uidAt n / 2 ^ 32)
  else s.rd (0x60000 + 0x1000 * n + off)

/-- MISC (R107, R432). -/
def readMISC (s : State) (off : Nat) : Word :=
  if off == 0x50 then
    let l := s.rd Reg.FUSE.LIFECYCLE
    W (b2n (!bit l 3 && !bit l 0) + 2 * b2n (!bit l 4 && !bit l 0))
  else s.rd (0x65000 + off)

/-- ETH (R126, R313, R319, R330). -/
def readETH (s : State) (n off : Nat) : Word :=
  let v := s.rd (0x68000 + 0x1000 * n + off)
  if 0x80 ≤ off && off < 0xE0 && off % 8 == 4 then setBit v 17 true
  else if off == 0x150 then W (s.tsqHead n)
  else if off == 0x154 then W (s.tsqHead n / 2 ^ 32)
  else if off == 0x158 then W (s.eth n).tsq.length
  else if off == 0x168 then W (16257 + 2 * n)
  else if off == 0x16C then W (16256 + 2 * n)
  else v

/-- Nominal voltage of a rail, mV (R485). -/
def railNominal (s : State) (r : Nat) : Nat := [800, if s.dom 1 == 3 then 600 else 750, 750, 750, 1100, 1050, 1800, 3300].getD r 0

/-- PSU (R485): what is measured is free, a rail's voltage within 3 % of its nominal value; it reads 0 while every domain that it serves is off, and what was measured at a fault
(DESIGN CHOICE, log entry 124). -/
def readPSU (s : State) (off : Nat) : Word :=
  let r := (off - 0x60) / 4
  let n := s.railNominal r
  let lo := (97 * n + 99) / 100
  if 0x60 ≤ off && off < 0x80 then
    if (railDomains r).all (fun d => s.dom d == 0) then s.rd (0x1F000 + off) &&& 0x10000
    else if bit (s.rd (0x1F000 + off)) 16 then s.rd (0x1F000 + off)
    else W (lo + s.freeW.toNat % (103 * n / 100 - lo + 1))
  else if off == 0x48 || off == 0x4C || off == 0x50 then W (fld s.freeW 0 16)
  else if off == 0x58 || off == 0x5C then s.freeW
  else s.rd (0x1F000 + off)

/-- A block register of a page is read. -/
def pageRead (s : State) (r : Requester) (pg off : Nat) : Word :=
  if pg == 0 then s.readSYS off
  else if pg == 2 then s.readEVR off
  else if pg == 3 then s.readHIF off
  else if pg == 5 then (if off == 0x9C then s.matrixCrc else s.rd (0x5000 + off))
  else if pg == 6 then s.readKEY r off
  else if pg == 7 then s.readTAMP off
  else if pg == 8 then s.readUPD off
  else if pg == 11 then s.readRTC r off
  else if 12 ≤ pg && pg < 16 then s.readTB r (pg - 12) off
  else if pg == 16 then s.readFE off
  else if pg == 19 then (if off == 0x64 then (s.gm r).index else if off == 0x68 then s.gmRead r else s.rd (0x13000 + off))
  else if pg == 21 then s.readVIN off
  else if pg == 22 then s.readCLIP off
  else if pg == 23 then (if off == 0x4C then s.cueRead else s.rd (0x17000 + off))
  else if pg == 24 then s.readUNI off
  else if pg == 25 then s.readAUD off
  else if pg == 26 then s.readQM off
  else if pg == 28 then s.readFLT off
  else if pg == 29 then s.readSCH off
  else if pg == 30 then (if 0x100 ≤ off && off < 0x168 then s.mtrEnergyRead r (0x1E000 + off) else s.rd (0x1E000 + off))
  else if pg == 31 then s.readPSU off
  else if 32 ≤ pg && pg < 64 then s.readGZP (pg - 32) off
  else if 96 ≤ pg && pg < 100 then s.readDMX (pg - 96) off
  else if pg == 101 then s.readMISC off
  else if 104 ≤ pg && pg < 108 then s.readETH (pg - 104) off
  else if pg == 113 then (if off == 0x68 then W s.dutyUsed else s.rd (0x71000 + off))
  else s.rd (0x1000 * pg + off)

/-- What a register reads when nothing stops the read (R8, R78): a write-only or command register reads zero. -/
def readValue (s : State) (r : Requester) (addr : Nat) : Word :=
  let pg := addr / 0x1000
  let off := addr % 0x1000
  if off < 0x40 then s.headerRead pg off
  else
    match regRow addr with
    | none => 0
    | some x => if x.acc == .wo || x.acc == .w1s then 0 else s.pageRead r pg off

/-- Whether a register shows what is measured at the moment of the read (R485). -/
def showsMeasured (addr : Nat) : Bool :=
  addr == Reg.PSU.MAINS_RMS || addr == Reg.PSU.MAINS_FREQ || addr == Reg.PSU.BULK || addr == Reg.PSU.AUX12 || addr == Reg.PSU.AUX3V3 || (0x1F060 ≤ addr && addr < 0x1F080)

/-- What a read does beside answering (R114, R126, R143, R177, R215, R303, R393, R399, R430, R473). -/
def readEffect (r : Requester) (addr : Nat) (s : State) : State :=
  let pg := addr / 0x1000
  let off := addr % 0x1000
  if showsMeasured addr then s.useFree
  else if addr == Reg.TAMP.SAFE_DATA then s.safeAdvance
  else if addr == Reg.RTC.SUBSEC then s.rtcLatch r
  else if 12 ≤ pg && pg < 16 && off == 0x40 then s.tbLatch r (pg - 12)
  else if addr == Reg.CLR.GM_DATA then s.gmReadEff r
  else if addr == Reg.DMK.CUE_DATA then s.cueAdvance
  else if addr == Reg.UNI.IN_DATA then s.inAdvance
  else if addr == Reg.FLT.IMG_MAP_DATA then s.imgMapNext
  else if addr == Reg.MTR.IMP_LO 0 || addr == Reg.MTR.IMP_LO 1 || addr == Reg.MTR.IMP_LO 2 then s.mtrLatchFor r
  else if 96 ≤ pg && pg < 100 && off == 0x8C then s.uidNext (pg - 96)
  else if 104 ≤ pg && pg < 108 && off == 0x154 then s.tsqPop (pg - 104)
  else s

/-- An aligned register read. -/
def registerRead (r : Requester) (addr : Nat) (s : State) : State := s.readAccess r addr (s.readValue r addr) (State.readEffect r addr)

/-- The word of doorbell `q` (R93): CREDITS and LAST. -/
def doorbellWord (s : State) (q : Nat) : DWord :=
  BitVec.ofNat 64 (s.hostCredits q % 65536 + 0x10000 * (Sparse.get (fun _ => 0) s.dbLast q % 4))

/-- A read of BAR4, from byte `off` (R75, R93): a 32-bit one returns its half of the word. -/
def doorbellNow (off : Nat) (wide : Bool) (s : State) : State :=
  let q := off / 8
  if off % 4 != 0 || (wide && off % 8 != 0) then s.badCount.emit (.doorbell q 0)
  else if wide then s.emit (.doorbell q (s.doorbellWord q))
  else s.emit (.doorbell q (s.doorbellWord q >>> (8 * (off % 8)) &&& 0xFFFFFFFF))

/-- A read of BAR4 by the host (R76, R93). -/
def doorbellRead (off : Nat) (wide : Bool) (s : State) : State :=
  if s.mode == .doze then { s with hostWait := s.hostWait ++ [HostAccess.doorbellRead off wide] }.hostWake
  else if s.hostUp then s.doorbellNow off wide else s

/-- A register read as it comes: an address that is not a multiple of 4 is a bad access; one of 64 bits reads the lower address first (R75). A HOST address from 0x0010_0000
is BAR4, beyond the 1 MiB of BAR0 (R89, R93; DESIGN CHOICE, log entry 101). -/
def readAsCome (r : Requester) (addr : Nat) (wide : Bool) (s : State) : State :=
  if r == .host && 0x100000 ≤ addr && addr < 0x120000 then s.doorbellRead (addr - 0x100000) wide
  else if addr % 4 != 0 then s.badAccess r false addr
  else
    let s := s.registerRead r addr
    if wide then s.registerRead r (addr + 4) else s

end State

/-- REGISTER_READ (R75, R88, R93). -/
def execRegisterRead (r : Requester) (addr : Word) (wide : Bool) (s : State) : Out := .next (s.readAsCome r addr.toNat wide)

/-- BAD_ACCESS (R75): accesses with an address that is not a multiple of 4, or with partial byte enables. A partial read returns the
whole register; an aligned access with every byte enabled is an ordinary one. -/
def execBadAccess (r : Requester) (write : Bool) (addr : Word) (strobe : BitVec 4) (v : Word) (s : State) : Out :=
  .next (
    if addr.toNat % 4 == 0 && !write then s.registerRead r addr.toNat
    else if addr.toNat % 4 == 0 && strobe == 15 then s.registerWrite r addr.toNat v 0
    else s.badAccess r write addr.toNat)

end Sys2Proof.Machine
end

