-- ==== Sys2Proof/Machine/Window.lean ====
section
/-!
DEFINITION. The tables and their windows on PCIe (R89-R93), the Pleano register transport (R102-R106), the end of a mode transition
with the host requests that waited for it (R46-R55, R76), and the end of a block's start-up (R57-R60, R81).
-/
namespace Sys2Proof.Machine

namespace State

/-! Tables (R90). -/

/-- The plan bank that a plan-coupled page shows as active: during a swap the old one until the page has flipped (R17, R19). -/
def activePlan (s : State) (pg : Nat) : Plan :=
  match s.planOld with
  | some p => if s.flipped.contains pg then s.plan else p
  | none => s.plan

/-- A word of the solver table (R221): profile, bin and word of the entry from the byte offset. -/
def solverWord (p : Plan) (i : Nat) : Word :=
  let pr := i / 8192
  let b := i / 128 % 64
  let w := i % 128
  let s24 := fun (q : Rat) => BitVec.ofInt 32 (roundQ (q * 16777216))
  if !bit (p.pw pr 0) 0 then 0
  else if w < 48 then s24 ((p.binP pr b).at (w / 6) (w % 6))
  else if w < 96 then s24 (p.binA pr b ((w - 48) / 8) ((w - 48) % 8))
  else if w < 104 then (if w - 96 < p.emitters pr then W (roundQ (p.binMax pr b (w - 96) * 65536)).toNat else 0)
  else if w == 104 then W (p.emitters pr + 16 * b2n (p.emitters pr ≤ 3))
  else 0

/-- A word of a thermal record (R229). -/
def thermalWord (s : State) (i : Nat) : Word :=
  let f := i / 4
  let t := s.thmRec f
  if i % 4 == 0 then W (encS 16 (s.tJ s.plan f) + 0x10000 * encS 16 (s.tSink s.plan f))
  else if i % 4 == 1 then W (t.u % 65536 + 0x10000 * (t.bin % 64))
  else if i % 4 == 2 then t.upd
  else W (b2n (s.heatOff.contains f) + 2 * b2n t.rearmOk + 4 * b2n t.stale + 8 * b2n t.sink.isSome + 256 * (t.trips % 256))

/-- Word `i` of a table; `sh` selects the shadow bank of a banked one. The solver tables of the shadow bank are those of its profiles
(DESIGN CHOICE, log entry 56). -/
def tableWord (s : State) (t : Nat) (sh : Bool) (i : Nat) : Word :=
  if t == 1 then Sparse.get (fun _ => 0) (if sh then s.mapSh else (s.activePlan 18).map) i
  else if t == 2 then Sparse.get (fun _ => 0) (if sh then s.zoneSh else (s.activePlan 23).zone) i
  else if t == 3 then Sparse.get (fun _ => 0) (if sh then s.profSh else (s.activePlan 19).prof) i
  else if t == 4 then solverWord (if sh then { s.plan with prof := s.profSh } else s.activePlan 19) i
  else if t == 5 then s.thermalWord i
  else if t == 6 then Sparse.get (fun _ => 0) s.registry i
  else if t == 7 then Sparse.get (fun _ => 0) s.sched i
  else if t == 8 then Sparse.get (fun _ => 0) s.rules i
  else 0

/-- Byte `o` of a table. -/
def tableByte (s : State) (t : Nat) (sh : Bool) (o : Nat) : Byte := BitVec.ofNat 8 (fld (s.tableWord t sh (o / 4)) (8 * (o % 4)) 8)

/-- A word of the shadow bank of the map, the zone table or the profiles. -/
def setShadow (t i : Nat) (v : Word) (s : State) : State :=
  if t == 1 then { s with mapSh := Sparse.set (fun _ => 0) s.mapSh i v }
  else if t == 2 then { s with zoneSh := Sparse.set (fun _ => 0) s.zoneSh i v }
  else if t == 3 then { s with profSh := Sparse.set (fun _ => 0) s.profSh i v }
  else s

/-- Bytes from byte `o` of a shadow bank. -/
def setShadowBytes (t : Nat) : Nat → List Byte → State → State
  | _, [], s => s
  | o, b :: l, s =>
    setShadowBytes t (o + 1) l (s.setShadow t (o / 4) (setFld (s.tableWord t true (o / 4)) (8 * (o % 4)) 8 b.toNat))

/-- The table that BAR2 shows, its bank, and the byte offset in it (R90, R91). -/
def winTable (s : State) : Nat := fld (s.rd Reg.HIF.WIN_SEL) 0 8
def winShadow (s : State) : Bool := bit (s.rd Reg.HIF.WIN_SEL) 8
def winBase (s : State) (off : Nat) : Nat := fld (s.rd Reg.HIF.WIN_OFFSET) 0 16 * 2 ^ 20 + off

/-- A BAR2 access that a table's row denies (R88). -/
def tableDenied (s : State) : State := (s.bump Reg.HIF.DENIED_CNT).raise 3 0

/-- A BAR2 read (R88, R90): zero beyond the table, where it is denied, and of a reserved table. -/
def barRead (off len : Nat) (s : State) : State :=
  let t := s.winTable
  let zero := Emission.tableRead (List.replicate len 0)
  if t == 0 then s.emit zero
  else if 9 ≤ t then s.badCount.emit zero
  else if !s.allowed .host (256 + t) false then s.tableDenied.emit zero
  else if tableSize t < s.winBase off + len then s.badCount.emit zero
  else s.emit (.tableRead ((List.range len).map (fun i => s.tableByte t s.winShadow (s.winBase off + i))))

/-- A BAR2 write (R88, R90, R91): to the shadow bank of a banked table, or dropped. -/
def barWrite (off : Nat) (l : List Byte) (s : State) : State :=
  let t := s.winTable
  if t == 0 then s
  else if 9 ≤ t then s.badCount
  else if !s.allowed .host (256 + t) true then s.tableDenied
  else if tableSize t < s.winBase off + l.length || 4 ≤ t || !s.winShadow || (s.blk 18).swapPend then s.badCount
  else s.setShadowBytes t (s.winBase off) l

/-! The Pleano register transport. -/

/-- PRT listens for a datagram: on the ETH ports of PORT_EN, on the addresses of their pages, at UDP_PORT (R102, R106). -/
def prtHears (s : State) (q : PrtReq) : Bool :=
  let cfg := s.rd Reg.PRT.CFG
  bit cfg q.eth && s.up (104 + q.eth) && fld cfg 16 16 == q.udpPort.toNat && s.ethHears q.eth q.v6 q.dst

/-- The bytes of a request before its TAG (R103). -/
def prtBytes (op : Byte) (q : PrtReq) : List Byte :=
  [q.version, op, BitVec.ofNat 8 (q.client.val + 8 * q.clientRsv.toNat), q.flags] ++ leBytes 2 q.count.toNat ++ leBytes 2 q.rsv1.toNat ++
    leBytes 8 q.seq.toNat ++ leBytes 4 q.addr.toNat ++ [q.table] ++ leBytes 3 q.rsv2.toNat ++ (q.data.map (fun w => leBytes 4 w.toNat)).flatten

/-- The key of a client, while it is enabled (R104): the label of client 3 is 0x50, 0x52, 0x54, 0x03 (16_keys_tamper_fuses.md). -/
def prtKey (s : State) (c : Nat) : Option (List Byte) :=
  let cfg := s.rd (Reg.PRT.CLIENT_CFG c)
  if bit cfg 0 then s.blockKey (fld cfg 8 6) 1 [0x50, 0x52, 0x54, BitVec.ofNat 8 c] else none

/-- The first 16 bytes of an HMAC (R104). -/
def prtTag (key body : List Byte) : List Byte := (Crypto.hmac key body).take 16

/-- The highest SEQ accepted from a client (R106). -/
def prtLastSeq (s : State) (c : Nat) : Nat := (s.rd (Reg.PRT.LAST_SEQ_LO c)).toNat + 2 ^ 32 * (s.rd (Reg.PRT.LAST_SEQ_HI c)).toNat

/-- A table opcode, a write opcode. -/
def prtTable (op : Nat) : Bool := op == 3 || op == 4
def prtWrites (op : Nat) : Bool := op == 2 || op == 4

/-- STATUS of a request, decided whole (R90, R103, R105; DESIGN CHOICE, log entry 55 for the order): 0 when it is carried out. -/
def prtStatus (s : State) (op : Nat) (q : PrtReq) : Nat :=
  let n := q.count.toNat
  let a := q.addr.toNat
  let pg := a / 0x1000
  let t := q.table.toNat
  if q.version != 1 then 1
  else if op == 0 || 5 < op then 2
  else if n == 0 || 256 < n || q.len != (if prtWrites op then 24 + 4 * n + 16 else 40) || (prtWrites op && q.data.length != n) then 3
  else if op == 5 then 0
  else if a % 4 != 0 then 6
  else if prtTable op then
    if 9 ≤ t || tableSize t < a + 4 * n then 6
    else if !s.allowed .prt (256 + t) (prtWrites op) || (prtWrites op && 4 ≤ t) then 4
    else 0
  else if (a + 4 * n - 1) / 0x1000 != pg then 6
  else if !populated pg then 0
  else if !s.reach pg then 5
  else if !s.allowed .prt pg (prtWrites op) &&
      !(op == 1 && (List.range n).all (fun i => let o := (a + 4 * i) % 0x1000; o == 0 || o == 0xC || o == 0x24)) then 4
  else if s.code pg == 4 then 7
  else 0

/-- One word of a READ. -/
def prtReadWord (a : Nat) (s : State) : State × Word :=
  let pg := a / 0x1000
  if !populated pg || (0x40 ≤ a % 0x1000 && s.code pg == 1) then (s, 0) else (s.readEffect .prt a, s.readValue .prt a)

/-- The words of a READ in ascending order. -/
def prtReadWords : Nat → Nat → State → State × List Word
  | 0, _, s => (s, [])
  | k + 1, a, s =>
    let r := s.prtReadWord a
    let x := prtReadWords k (a + 4) r.1
    (x.1, r.2 :: x.2)

/-- The words of a WRITE in ascending order (R105). -/
def prtWriteWords : Nat → List Word → State → State
  | _, [], s => s
  | a, w :: l, s => prtWriteWords (a + 4) l (s.registerWrite .prt a w 0)

/-- What an accepted request does, and the words that it returns. A WRITE_TABLE during a swap is dropped as one through BAR2 is (R91). -/
def prtCarry (op : Nat) (q : PrtReq) (s : State) : State × List Word :=
  let n := q.count.toNat
  let a := q.addr.toNat
  let t := q.table.toNat
  if op == 1 then prtReadWords n a s
  else if op == 2 then (prtWriteWords a q.data s, [])
  else if op == 3 then (s, (List.range n).map (fun i => s.tableWord t false (a / 4 + i)))
  else if op == 4 then
    (if (s.blk 18).swapPend then s.badCount else s.setShadowBytes t a ((q.data.map (fun w => leBytes 4 w.toNat)).flatten), [])
  else (s, [])

/-- The response to a request (R103, R104). -/
def prtResponse (op : Byte) (q : PrtReq) (status : Nat) (words : List Word) (key : List Byte) : List Byte :=
  let body : List Byte := [1, op ||| 0x80, BitVec.ofNat 8 q.client.val, BitVec.ofNat 8 status] ++ leBytes 2 words.length ++ [0, 0] ++
    leBytes 8 q.seq.toNat ++ leBytes 4 q.addr.toNat ++ [q.table, 0, 0, 0] ++ (words.map (fun w => leBytes 4 w.toNat)).flatten
  body ++ prtTag key body

/-- A request that was not answered (R104): it is counted, with its event. -/
def prtDrop (replay : Bool) (s : State) : State :=
  if replay then (s.bump Reg.PRT.REPLAY).raise 4 1 else (s.bump Reg.PRT.AUTH_FAIL).raise 4 0

/-- A denied request is reported as a denied access is (R88). -/
def prtDenied (op : Nat) (q : PrtReq) (s : State) : State :=
  if prtTable op then s.raise 4 2 else s.denied .prt (q.addr.toNat / 0x1000)

/-- A PRT datagram that comes in on an ETH port (R102-R105); the response enters egress queue 6 there, to the source address and port of the request (R320). -/
def prtRequest (op : Byte) (q : PrtReq) (s : State) : State :=
  let c := q.client.val
  let reply := fun (l : List Byte) (s : State) =>
    (s.ethHop q.eth q.v6 q.src).toList.foldl (fun a hop => a.ethOwn q.eth 6 (udpBytes q.v6 l.length) (.prt c q.eth q.src hop q.srcPort.toNat l)) s
  if !s.up 4 || !s.prtHears q then s
  else
    match s.prtKey c with
    | none => s.prtDrop false
    | some key =>
      if prtTag key (prtBytes op q) != q.tag then s.prtDrop false
      else if q.seq.toNat < s.prtLastSeq c then s.prtDrop true
      else if q.seq.toNat == s.prtLastSeq c then
        let l := Sparse.get (fun _ => []) s.prtLast c
        if l.isEmpty then s.prtDrop true else reply l s
      else
        let st := s.prtStatus op.toNat q
        let old := s
        let s := ((s.wr (Reg.PRT.LAST_SEQ_LO c) (W q.seq.toNat)).wr (Reg.PRT.LAST_SEQ_HI c) (W (q.seq.toNat / 2 ^ 32))).journal old
        let r := if st == 0 then s.prtCarry op.toNat q else (if st == 4 then s.prtDenied op.toNat q else s, [])
        let s := if st == 0 then r.1.bumpWrap Reg.PRT.RX_OK else r.1.bump Reg.PRT.REFUSED
        let out := prtResponse op q st (if st == 0 then r.2 else []) key
        reply out { s with prtLast := Sparse.set (fun _ => []) s.prtLast c out }

/-! Start-up. -/

/-- What a block shows and does as it reaches READY: its banks, its spares, its streams (R17, R58, R60, R149, R169, R186, R358). -/
def readyInner (pg : Nat) (s : State) : State :=
  if pg == 16 then
    (List.range 256).foldl (fun a z => if a.plan.zEn z then a.wrBit (Reg.FE.ZONE_STATE z) 2 true else a) (s.showBank 16)
  else if pg == 17 then s.assignSpares
  else if pg == 18 || pg == 19 then s.showBank pg
  else if pg == 21 then
    let s := (List.range 8).foldl (fun a n => if bit (a.rd (Reg.VIN.S_CTL n)) 0 then a.setVinState n 1 else a) s
    s.wrFld Reg.VIN.UNITS 0 4 s.vinUnits
  else if pg == 24 then { s with uniIn := [] }.sacnReport s
  else if pg == 25 then (if bit (s.rd Reg.AUD.CFG) 0 then s.setAudState 1 else s)
  else if pg == 112 then s.radReady
  else s

/-- Start-up completes, with what the block does at it, and what the last of a start does (R487). -/
def blockReady (pg : Nat) (s : State) : State :=
  let t := s.startupDone pg
  if s.code pg == 1 && t.code pg != 1 then (t.readyInner pg).fpSync.rxDrainAll.lastReady else t

/-! The end of a mode transition. -/

/-- Entry to DOZE (R46, R52, R306): the frames on their way are discarded as FE counts them, the ports stop, ENG goes off, NET keeps ETH2, ETH3, whose links renegotiate, and the digital
inputs, CTL goes to retention, and the actuators go off. A wake that has come during the entry begins at once (R51). LINK_STATUS.PM shows the power state of the endpoint; event "link
state changed" is that of PCIE_LINK_CHANGE alone (R101; DESIGN CHOICE, log entry 123). -/
def enterDoze (s : State) : State :=
  let s := s.abortTest.abortCal.laneTestEnd
  let s := s.frames.foldl (fun a f => a.dropFrame f.zone f.k 3 f.ps) s
  let ports := portPages.filter (fun pg => (s.blk pg).enable)
  let s := ports.foldl (fun a pg => (a.updBlk pg (fun b => { b with enable := false })).offBlock pg) { s with dozeFrom := s.mode, dozeOff := ports }
  let s := s.stopDomain 2
  let s := ((domainPages 3).filter (fun pg => pg != 106 && pg != 107 && pg != 100)).foldl (fun a pg => a.offBlock pg) s
  let s := { s with frames := [], lanes := [], zruns := [], planOld := none, flipped := [] }.setDom 1 3
  let s := (s.wr Reg.PWR.CLK_STATE (s.rd Reg.PWR.CLK_STATE &&& 2)).linkDrop 2 |>.linkDrop 3
  let s := (List.range 4).foldl (fun a m => a.wrFld Reg.SIO.ACT_STATUS (4 * m) 1 0) s
  let s := (s.wrFld Reg.HIF.LINK_STATUS 12 2 2).setMode .doze
  if s.wakeSeen then { s with wakeSeen := false }.wakeDoze none else s

/-- A host request that waited for a wake takes effect as if it had come now (R76). -/
def hostNow (h : HostAccess) (s : State) : State :=
  if !s.hostUp then s
  else
    match h with
    | .read a => s.registerRead .host a
    | .write a v => s.registerWrite .host a v 0
    | .doorbellRead off wide => s.doorbellNow off wide
    | .tableRead off len => s.barRead off len
    | .tableWrite off l => s.barWrite off l
    | .doorbell q d wide => s.doorbell q d wide
    | .badAccess w a => if w then s.badCount else s.badCount.emit (.read .host a 0)

/-- A wake completes once the SYS and DRAM PLLs are locked (R54, R55, R327): CTL leaves retention, ENG and the blocks of NET start, the ports that DOZE disabled
are enabled, the time bases start from the RTC, and what waited is done. -/
def wakeDone (m : Mode) (s : State) : State :=
  if !bit (s.rd Reg.PWR.CLK_STATE) 2 || !bit (s.rd Reg.PWR.CLK_STATE) 6 || s.dom 1 != 1 then s
  else
    let s := (s.setDom 1 2).setDom 2 2
    let start := fun (a : State) (pg : Nat) => if a.code pg == 0 && (a.blk pg).enable then a.startBlock pg else a
    let s := (domainPages 2).foldl start s
    let ports := s.dozeOff
    let s := (domainPages 3).foldl start { s with dozeOff := [] }
    let s := ((ports.foldl (fun a pg => a.enableOn pg) s).tbRestart.linkDrop 2).linkDrop 3
    let s := if s.mode == .doze then s.setMode m else { s with trans := none }
    let s := s.raise 0 5
    let l := s.hostWait
    let s := l.foldl (fun a h => a.hostNow h) { s with hostWait := [] }
    s.flushDeferred.fpFlush

/-- A requested transition is done (R50, R69): RESULT 1, and the entry to its mode. -/
def requestDone (m : Mode) (s : State) : State :=
  let s := { s with trans := none }.wrFld Reg.SYS.MODE_STATUS 4 2 1
  let was := s.mode
  match m with
  | .doze => s.enterDoze
  | .cold => { s.enterCold with coldCmd := true }
  | .hold => (s.wrFld Reg.SYS.MODE_STATUS 16 8 1).setMode .hold
  | m => let s := s.setMode m
         if was == .hold then s.flushFaults else s

/-- The transition in progress completes (R50): a wake, or a request. -/
def transitionDone (s : State) : State :=
  match s.trans with
  | none => s
  | some m => if s.mode == .doze || s.dom 1 == 1 then s.wakeDone m else s.requestDone m

end State

/-- MODE_TRANSITION_DONE (R50). -/
def execModeTransitionDone (s : State) : Out := .next s.transitionDone

/-- BLOCK_STARTUP_DONE (R81). -/
def execBlockStartupDone (pg : Fin 256) (s : State) : Out := .next (s.blockReady pg)

/-- TABLE_WINDOW_WRITE (R91). -/
def execTableWindowWrite (off : Nat) (bytes : List Byte) (s : State) : Out :=
  .next (
    if 2 ^ 28 < off + bytes.length then s
    else if s.mode == .doze then { s with hostWait := s.hostWait ++ [HostAccess.tableWrite off bytes] }.hostWake
    else if s.hostUp then s.barWrite off bytes else s)

/-- TABLE_WINDOW_READ (R90). -/
def execTableWindowRead (off len : Nat) (s : State) : Out :=
  .next (
    if 2 ^ 28 < off + len then s
    else if s.mode == .doze then { s with hostWait := s.hostWait ++ [HostAccess.tableRead off len] }.hostWake
    else if s.hostUp then s.barRead off len else s)

/-- DOORBELL_WRITE (R92). -/
def execDoorbellWrite (q : Fin 16384) (desc : DWord) (wide : Bool) (s : State) : Out :=
  .next (
    if s.mode == .doze then { s with hostWait := s.hostWait ++ [HostAccess.doorbell q desc wide] }.hostWake
    else if s.hostUp then s.doorbell q desc wide else s)

/-- PRT_READ (R103). -/
def execPrtRead (q : PrtReq) (s : State) : Out := .next (s.prtRequest 1 q)

/-- PRT_WRITE (R105). -/
def execPrtWrite (q : PrtReq) (s : State) : Out := .next (s.prtRequest 2 q)

/-- PRT_READ_TABLE (R103). -/
def execPrtReadTable (q : PrtReq) (s : State) : Out := .next (s.prtRequest 3 q)

/-- PRT_WRITE_TABLE (R103). -/
def execPrtWriteTable (q : PrtReq) (s : State) : Out := .next (s.prtRequest 4 q)

/-- PRT_NOP (R103). -/
def execPrtNop (q : PrtReq) (s : State) : Out := .next (s.prtRequest 5 q)

/-- PRT_BAD_OPCODE (R103). -/
def execPrtBadOpcode (op : Byte) (q : PrtReq) (s : State) : Out := .next (s.prtRequest op q)

end Sys2Proof.Machine
end

