-- ==== Sys2Proof/Machine/Dispatch.lean ====
section
/-!
DEFINITION. The dispatch: one arm for each constructor of Instr.
-/
namespace Sys2Proof.Machine

/-- The effect of a command on everything but the queue. -/
def exec (i : Instr) (s : State) : Host.Outcome State Fault Refusal :=
  match i with
  | .registerWrite r addr v hi sets same => Sys2Proof.Machine.execRegisterWrite r addr v hi sets same s
  | .badAccess r write addr strobe v => Sys2Proof.Machine.execBadAccess r write addr strobe v s
  | .enableSet r pg => Sys2Proof.Machine.execEnableSet r pg s
  | .enableClear r pg => Sys2Proof.Machine.execEnableClear r pg s
  | .softReset r pg => Sys2Proof.Machine.execSoftReset r pg s
  | .bistReq r pg => Sys2Proof.Machine.execBistReq r pg s
  | .swapReq r pg => Sys2Proof.Machine.execSwapReq r pg s
  | .bankSwap pg => Sys2Proof.Machine.execBankSwap pg s
  | .ctlHoldSet r pg => Sys2Proof.Machine.execCtlHoldSet r pg s
  | .ctlHoldClear r pg => Sys2Proof.Machine.execCtlHoldClear r pg s
  | .blockStartupDone pg => Sys2Proof.Machine.execBlockStartupDone pg s
  | .blockShutdownDone pg => Sys2Proof.Machine.execBlockShutdownDone pg s
  | .evtClr r pg mask causes => Sys2Proof.Machine.execEvtClr r pg mask causes s
  | .swgenSet r source => Sys2Proof.Machine.execSwgenSet r source s
  | .swgenClr r source => Sys2Proof.Machine.execSwgenClr r source s
  | .evtPulseEnd pin => Sys2Proof.Machine.execEvtPulseEnd pin s
  | .tableWindowWrite off bytes => Sys2Proof.Machine.execTableWindowWrite off bytes s
  | .doorbellWrite q desc wide => Sys2Proof.Machine.execDoorbellWrite q desc wide s
  | .prtRead q => Sys2Proof.Machine.execPrtRead q s
  | .prtWrite q => Sys2Proof.Machine.execPrtWrite q s
  | .prtReadTable q => Sys2Proof.Machine.execPrtReadTable q s
  | .prtWriteTable q => Sys2Proof.Machine.execPrtWriteTable q s
  | .prtNop q => Sys2Proof.Machine.execPrtNop q s
  | .prtBadOpcode op q => Sys2Proof.Machine.execPrtBadOpcode op q s
  | .clientCfgWrite r c v => Sys2Proof.Machine.execClientCfgWrite r c v s
  | .procWatchdogReset p => Sys2Proof.Machine.execProcWatchdogReset p s
  | .procRestarted p journalBad => Sys2Proof.Machine.execProcRestarted p journalBad s
  | .recoveryWindowEnd pg => Sys2Proof.Machine.execRecoveryWindowEnd pg s
  | .correctedError site => Sys2Proof.Machine.execCorrectedError site s
  | .uncorrectableError site => Sys2Proof.Machine.execUncorrectableError site s
  | .tableReloadDone site => Sys2Proof.Machine.execTableReloadDone site s
  | .solverRebuildDone p => Sys2Proof.Machine.execSolverRebuildDone p s
  | .aonPowerOn tamper => Sys2Proof.Machine.execAonPowerOn tamper s
  | .mainsGood info => Sys2Proof.Machine.execMainsGood info s
  | .dramTrainingDone ok => Sys2Proof.Machine.execDramTrainingDone ok s
  | .bringupEnd => Sys2Proof.Machine.execBringupEnd s
  | .modeReq r v => Sys2Proof.Machine.execModeReq r v s
  | .modeTransitionDone => Sys2Proof.Machine.execModeTransitionDone s
  | .dozeAutoRequest => Sys2Proof.Machine.execDozeAutoRequest s
  | .wake src => Sys2Proof.Machine.execWake src s
  | .powerFailWarning => Sys2Proof.Machine.execPowerFailWarning s
  | .vbatChangeover holdup => Sys2Proof.Machine.execVbatChangeover holdup s
  | .mrstAssert => Sys2Proof.Machine.execMrstAssert s
  | .mrstRelease info => Sys2Proof.Machine.execMrstRelease info s
  | .resetReqModule r info => Sys2Proof.Machine.execResetReqModule r info s
  | .dieTempWarning t => Sys2Proof.Machine.execDieTempWarning t s
  | .thermalStop t => Sys2Proof.Machine.execThermalStop t s
  | .thermalRestart t info => Sys2Proof.Machine.execThermalRestart t info s
  | .pllLockLoss p => Sys2Proof.Machine.execPllLockLoss p s
  | .pllLockTimeout p => Sys2Proof.Machine.execPllLockTimeout p s
  | .pllLock p => Sys2Proof.Machine.execPllLock p s
  | .hfOscFault inExchange => Sys2Proof.Machine.execHfOscFault inExchange s
  | .hfOscRetry stable => Sys2Proof.Machine.execHfOscRetry stable s
  | .xtal32kFault => Sys2Proof.Machine.execXtal32kFault s
  | .railFault rail mv => Sys2Proof.Machine.execRailFault rail mv s
  | .perstDeassert speed width cfg => Sys2Proof.Machine.execPerstDeassert speed width cfg s
  | .incrFracWrite r n v => Sys2Proof.Machine.execIncrFracWrite r n v s
  | .incrIntWrite r n v => Sys2Proof.Machine.execIncrIntWrite r n v s
  | .adjWrite r n v => Sys2Proof.Machine.execAdjWrite r n v s
  | .tbStep n => Sys2Proof.Machine.execTbStep n s
  | .tbWrap n => Sys2Proof.Machine.execTbWrap n s
  | .tbHalf n => Sys2Proof.Machine.execTbHalf n s
  | .secPhaseWrap n => Sys2Proof.Machine.execSecPhaseWrap n s
  | .ppsOutEnd => Sys2Proof.Machine.execPpsOutEnd s
  | .timeRead r n => Sys2Proof.Machine.execTimeRead r n s
  | .srcWrite r n v => Sys2Proof.Machine.execSrcWrite r n v s
  | .followOffsetWrite r n v => Sys2Proof.Machine.execFollowOffsetWrite r n v s
  | .servoMeasurement n m t => Sys2Proof.Machine.execServoMeasurement n m t s
  | .measurementTimeout n => Sys2Proof.Machine.execMeasurementTimeout n s
  | .leapSecond positive => Sys2Proof.Machine.execLeapSecond positive s
  | .refEdgeCapture k code user => Sys2Proof.Machine.execRefEdgeCapture k code user s
  | .snapReq r n v => Sys2Proof.Machine.execSnapReq r n v s
  | .snapCapture => Sys2Proof.Machine.execSnapCapture s
  | .ptpAnnounceRx instB a => Sys2Proof.Machine.execPtpAnnounceRx instB a s
  | .planCommit => Sys2Proof.Machine.execPlanCommit s
  | .commitGo r v => Sys2Proof.Machine.execCommitGo r v s
  | .bankFlip pg => Sys2Proof.Machine.execBankFlip pg s
  | .commitComplete => Sys2Proof.Machine.execCommitComplete s
  | .frameAdmit z k late => Sys2Proof.Machine.execFrameAdmit z k late s
  | .laneTakeTile lane => Sys2Proof.Machine.execLaneTakeTile lane s
  | .tileDone lane => Sys2Proof.Machine.execTileDone lane s
  | .laneError lane => Sys2Proof.Machine.execLaneError lane s
  | .renderDeadline z k => Sys2Proof.Machine.execRenderDeadline z k s
  | .zcmdHold r z now => Sys2Proof.Machine.execZcmdHold r z now s
  | .zcmdReleaseHold r z now => Sys2Proof.Machine.execZcmdReleaseHold r z now s
  | .zcmdBlackout r z now => Sys2Proof.Machine.execZcmdBlackout r z now s
  | .zcmdReleaseBlackout r z now => Sys2Proof.Machine.execZcmdReleaseBlackout r z now s
  | .zcmdBadOp r z op now => Sys2Proof.Machine.execZcmdBadOp r z op now s
  | .zcmdApply z k => Sys2Proof.Machine.execZcmdApply z k s
  | .cueDataAccess r w => Sys2Proof.Machine.execCueDataAccess r w s
  | .cueGo r v => Sys2Proof.Machine.execCueGo r v s
  | .cueSwap z k => Sys2Proof.Machine.execCueSwap z k s
  | .sCtlWrite r k v => Sys2Proof.Machine.execSCtlWrite r k v s
  | .vinPacketRx k p => Sys2Proof.Machine.execVinPacketRx k p s
  | .vinStreamLost k => Sys2Proof.Machine.execVinStreamLost k s
  | .clipLoad clip file => Sys2Proof.Machine.execClipLoad clip file s
  | .clipDelete r clip => Sys2Proof.Machine.execClipDelete r clip s
  | .clipPreload r p => Sys2Proof.Machine.execClipPreload r p s
  | .clipPreloadDone p => Sys2Proof.Machine.execClipPreloadDone p s
  | .clipGo r p => Sys2Proof.Machine.execClipGo r p s
  | .clipStop r p => Sys2Proof.Machine.execClipStop r p s
  | .clipPlayStart p => Sys2Proof.Machine.execClipPlayStart p s
  | .sacnPacketRx p => Sys2Proof.Machine.execSacnPacketRx p s
  | .sacnSyncRx addr => Sys2Proof.Machine.execSacnSyncRx addr s
  | .sacnSyncTimeout info => Sys2Proof.Machine.execSacnSyncTimeout info s
  | .sacnSourceTimeout info cid => Sys2Proof.Machine.execSacnSourceTimeout info cid s
  | .inDataAccess r w => Sys2Proof.Machine.execInDataAccess r w s
  | .audPacketRx p => Sys2Proof.Machine.execAudPacketRx p s
  | .audBlock => Sys2Proof.Machine.execAudBlock s
  | .audStreamLost => Sys2Proof.Machine.execAudStreamLost s
  | .gmDataAccess r w => Sys2Proof.Machine.execGmDataAccess r w s
  | .gmGo r v => Sys2Proof.Machine.execGmGo r v s
  | .gmSwap => Sys2Proof.Machine.execGmSwap s
  | .gmOldBankRetire => Sys2Proof.Machine.execGmOldBankRetire s
  | .residSel r v => Sys2Proof.Machine.execResidSel r v s
  | .reportStale f seconds => Sys2Proof.Machine.execReportStale f seconds s
  | .thmRearm r f => Sys2Proof.Machine.execThmRearm r f s
  | .autoRearm f seconds => Sys2Proof.Machine.execAutoRearm f seconds s
  | .lineChecksDone n faults polInv swapped partner p1 p2 temp => Sys2Proof.Machine.execLineChecksDone n faults polInv swapped partner p1 p2 temp s
  | .trainDone n eye eyeFar temp len => Sys2Proof.Machine.execTrainDone n eye eyeFar temp len s
  | .lineFaultRecheck n faults => Sys2Proof.Machine.execLineFaultRecheck n faults s
  | .lineCondition n c => Sys2Proof.Machine.execLineCondition n c s
  | .lossOfSignal n => Sys2Proof.Machine.execLossOfSignal n s
  | .retuneTrigger n eye temp => Sys2Proof.Machine.execRetuneTrigger n eye temp s
  | .retuneStart n idle temp => Sys2Proof.Machine.execRetuneStart n idle temp s
  | .retuneDone n eye eyeFar temp => Sys2Proof.Machine.execRetuneDone n eye eyeFar temp s
  | .remeasure r n => Sys2Proof.Machine.execRemeasure r n s
  | .retune r n => Sys2Proof.Machine.execRetune r n s
  | .tdr r n => Sys2Proof.Machine.execTdr r n s
  | .tdrDone n p1 p2 => Sys2Proof.Machine.execTdrDone n p1 p2 s
  | .leak r n => Sys2Proof.Machine.execLeak r n s
  | .leakPeriod n seconds => Sys2Proof.Machine.execLeakPeriod n seconds s
  | .leakDone n l => Sys2Proof.Machine.execLeakDone n l s
  | .pixSend n => Sys2Proof.Machine.execPixSend n s
  | .strikeDepart n => Sys2Proof.Machine.execStrikeDepart n s
  | .syncSend n sinceSync sinceFrame skew => Sys2Proof.Machine.execSyncSend n sinceSync sinceFrame skew s
  | .syncReturn n own seq rt => Sys2Proof.Machine.execSyncReturn n own seq rt s
  | .assignReturn n next => Sys2Proof.Machine.execAssignReturn n next s
  | .descRx n addr codes => Sys2Proof.Machine.execDescRx n addr codes s
  | .replySlotMiss n addr => Sys2Proof.Machine.execReplySlotMiss n addr s
  | .reenum r n => Sys2Proof.Machine.execReenum r n s
  | .resendConfig r n => Sys2Proof.Machine.execResendConfig r n s
  | .pollCycle n ms => Sys2Proof.Machine.execPollCycle n ms s
  | .nodeStatusRx n addr codes => Sys2Proof.Machine.execNodeStatusRx n addr codes s
  | .safeLookResend => Sys2Proof.Machine.execSafeLookResend s
  | .ringEnable r k v => Sys2Proof.Machine.execRingEnable r k v s
  | .ringDisable r k v => Sys2Proof.Machine.execRingDisable r k v s
  | .domRecount r n => Sys2Proof.Machine.execDomRecount r n s
  | .domCountDone n c => Sys2Proof.Machine.execDomCountDone n c s
  | .domFaultRecheck n faults => Sys2Proof.Machine.execDomFaultRecheck n faults s
  | .domShiftStart n ret => Sys2Proof.Machine.execDomShiftStart n ret s
  | .domLat n => Sys2Proof.Machine.execDomLat n s
  | .dmxAlignedPacket n => Sys2Proof.Machine.execDmxAlignedPacket n s
  | .dmxRepeat n nextBreak => Sys2Proof.Machine.execDmxRepeat n nextBreak s
  | .dmxPacketRx n brk mab startCode slots framing => Sys2Proof.Machine.execDmxPacketRx n brk mab startCode slots framing s
  | .dmxLineFault n bit => Sys2Proof.Machine.execDmxLineFault n bit s
  | .rdmSend r n => Sys2Proof.Machine.execRdmSend r n s
  | .rdmDiscover r n => Sys2Proof.Machine.execRdmDiscover r n s
  | .rdmDiscoveryDone n uids => Sys2Proof.Machine.execRdmDiscoveryDone n uids s
  | .rdmResponseRx n a data => Sys2Proof.Machine.execRdmResponseRx n a data s
  | .rdmTimeout n => Sys2Proof.Machine.execRdmTimeout n s
  | .rdmNoGap n => Sys2Proof.Machine.execRdmNoGap n s
  | .uidDataRead r n => Sys2Proof.Machine.execUidDataRead r n s
  | .ainUpdate n samples path => Sys2Proof.Machine.execAinUpdate n samples path s
  | .dinEdge j mv ua => Sys2Proof.Machine.execDinEdge j mv ua s
  | .actGo r v => Sys2Proof.Machine.execActGo r v s
  | .actApply => Sys2Proof.Machine.execActApply s
  | .actFault m kind => Sys2Proof.Machine.execActFault m kind s
  | .actClear r v => Sys2Proof.Machine.execActClear r v s
  | .ethLinkChange n up speed fec => Sys2Proof.Machine.execEthLinkChange n up speed fec s
  | .ethFrameRx n f => Sys2Proof.Machine.execEthFrameRx n f s
  | .ethFrameTx n => Sys2Proof.Machine.execEthFrameTx n s
  | .tsqPop r n => Sys2Proof.Machine.execTsqPop r n s
  | .sfpInsert n idOk diag => Sys2Proof.Machine.execSfpInsert n idOk diag s
  | .sfpRemove n => Sys2Proof.Machine.execSfpRemove n s
  | .sfpTxFault n => Sys2Proof.Machine.execSfpTxFault n s
  | .sfpDiagPoll n d0 d1 d2 => Sys2Proof.Machine.execSfpDiagPoll n d0 d1 d2 s
  | .gateApply r n => Sys2Proof.Machine.execGateApply r n s
  | .gateListSwitch n => Sys2Proof.Machine.execGateListSwitch n s
  | .gateIntervalEnd n => Sys2Proof.Machine.execGateIntervalEnd n s
  | .preemptVerify n ok ms => Sys2Proof.Machine.execPreemptVerify n ok ms s
  | .pauseRx n quanta => Sys2Proof.Machine.execPauseRx n quanta s
  | .pfcRx n en quanta => Sys2Proof.Machine.execPfcRx n en quanta s
  | .pauseExpire n q => Sys2Proof.Machine.execPauseExpire n q s
  | .pauseWatchdog n q => Sys2Proof.Machine.execPauseWatchdog n q s
  | .wakeMatchRx n f => Sys2Proof.Machine.execWakeMatchRx n f s
  | .edupPacketRx k path p => Sys2Proof.Machine.execEdupPacketRx k path p s
  | .edupPathLost k path => Sys2Proof.Machine.execEdupPathLost k path s
  | .edupSkewUpdate k skew => Sys2Proof.Machine.execEdupSkewUpdate k skew s
  | .itemEnqueue q item => Sys2Proof.Machine.execItemEnqueue q item s
  | .itemDequeue q => Sys2Proof.Machine.execItemDequeue q s
  | .cellAlloc q => Sys2Proof.Machine.execCellAlloc q s
  | .flush r q => Sys2Proof.Machine.execFlush r q s
  | .flushApply q => Sys2Proof.Machine.execFlushApply q s
  | .pointerMismatch q writeSide lost => Sys2Proof.Machine.execPointerMismatch q writeSide lost s
  | .cellEccError q cell kind => Sys2Proof.Machine.execCellEccError q cell kind s
  | .scrubPass seconds corrected failed => Sys2Proof.Machine.execScrubPass seconds corrected failed s
  | .hostDmaFetch q bytes => Sys2Proof.Machine.execHostDmaFetch q bytes s
  | .hostRxFill h => Sys2Proof.Machine.execHostRxFill h s
  | .hostDmaError q => Sys2Proof.Machine.execHostDmaError q s
  | .beaconSend => Sys2Proof.Machine.execBeaconSend s
  | .joinReqRx h ext sample sfd room => Sys2Proof.Machine.execJoinReqRx h ext sample sfd room s
  | .scheduledTx k energy => Sys2Proof.Machine.execScheduledTx k energy s
  | .wakeTrainTx k energy => Sys2Proof.Machine.execWakeTrainTx k energy s
  | .ackTimeRx k err sfd => Sys2Proof.Machine.execAckTimeRx k err sfd s
  | .ackTimeout k => Sys2Proof.Machine.execAckTimeout k s
  | .tulleFleetRx h k event phase sfd type rec room => Sys2Proof.Machine.execTulleFleetRx h k event phase sfd type rec room s
  | .keepaliveRx h k event phase sfd room => Sys2Proof.Machine.execKeepaliveRx h k event phase sfd room s
  | .childSupTimeout k ms => Sys2Proof.Machine.execChildSupTimeout k ms s
  | .chmapWrite r high v => Sys2Proof.Machine.execChmapWrite r high v s
  | .chmapInstant k => Sys2Proof.Machine.execChmapInstant k s
  | .rfeConfigWrite r which v => Sys2Proof.Machine.execRfeConfigWrite r which v s
  | .synthUnlock => Sys2Proof.Machine.execSynthUnlock s
  | .dutyRelease => Sys2Proof.Machine.execDutyRelease s
  | .childSel r v => Sys2Proof.Machine.execChildSel r v s
  | .memberEnable r => Sys2Proof.Machine.execMemberEnable r s
  | .memberDisable r => Sys2Proof.Machine.execMemberDisable r s
  | .memberScanStep ms => Sys2Proof.Machine.execMemberScanStep ms s
  | .parentBeaconRx h pan short depth interval time sfd => Sys2Proof.Machine.execParentBeaconRx h pan short depth interval time sfd s
  | .parentBeaconMiss => Sys2Proof.Machine.execParentBeaconMiss s
  | .memberJoinRsp h result short sfd room => Sys2Proof.Machine.execMemberJoinRsp h result short sfd room s
  | .memberJoinTimeout ms => Sys2Proof.Machine.execMemberJoinTimeout ms s
  | .parentSupTimeout ms => Sys2Proof.Machine.execParentSupTimeout ms s
  | .statusRecord path rec => Sys2Proof.Machine.execStatusRecord path rec s
  | .presenceRecord path rec => Sys2Proof.Machine.execPresenceRecord path rec s
  | .sensorRecord path rec => Sys2Proof.Machine.execSensorRecord path rec s
  | .imgNack path rec => Sys2Proof.Machine.execImgNack path rec s
  | .imgDone path rec => Sys2Proof.Machine.execImgDone path rec s
  | .imgOffer path rec => Sys2Proof.Machine.execImgOffer path rec s
  | .imgChunk path rec => Sys2Proof.Machine.execImgChunk path rec s
  | .imgSeal path rec => Sys2Proof.Machine.execImgSeal path rec s
  | .regWrite path rec => Sys2Proof.Machine.execRegWrite path rec s
  | .regCommit path rec => Sys2Proof.Machine.execRegCommit path rec s
  | .schedSet path rec => Sys2Proof.Machine.execSchedSet path rec s
  | .ruleSet path rec => Sys2Proof.Machine.execRuleSet path rec s
  | .mbGo r => Sys2Proof.Machine.execMbGo r s
  | .nodeReportTimeout f seconds => Sys2Proof.Machine.execNodeReportTimeout f seconds s
  | .scheduleEval => Sys2Proof.Machine.execScheduleEval s
  | .rampTick => Sys2Proof.Machine.execRampTick s
  | .ruleHoldEnd rule => Sys2Proof.Machine.execRuleHoldEnd rule s
  | .lossPeriodEnd => Sys2Proof.Machine.execLossPeriodEnd s
  | .imgStart r => Sys2Proof.Machine.execImgStart r s
  | .imgStop r => Sys2Proof.Machine.execImgStop r s
  | .imgDelete r => Sys2Proof.Machine.execImgDelete r s
  | .imgActivate r => Sys2Proof.Machine.execImgActivate r s
  | .imgRound => Sys2Proof.Machine.execImgRound s
  | .logSel r v => Sys2Proof.Machine.execLogSel r v s
  | .groupSel r v => Sys2Proof.Machine.execGroupSel r v s
  | .imgMapRead r => Sys2Proof.Machine.execImgMapRead r s
  | .rtcSecond => Sys2Proof.Machine.execRtcSecond s
  | .subsecRead r => Sys2Proof.Machine.execSubsecRead r s
  | .rtcSetGo r => Sys2Proof.Machine.execRtcSetGo r s
  | .rtcSetApply => Sys2Proof.Machine.execRtcSetApply s
  | .rtcShift r v => Sys2Proof.Machine.execRtcShift r v s
  | .rtcShiftApply => Sys2Proof.Machine.execRtcShiftApply s
  | .alarmArm r a => Sys2Proof.Machine.execAlarmArm r a s
  | .alarmDisarm r a => Sys2Proof.Machine.execAlarmDisarm r a s
  | .alarmFire a => Sys2Proof.Machine.execAlarmFire a s
  | .yearWrap => Sys2Proof.Machine.execYearWrap s
  | .trimSample temp seconds => Sys2Proof.Machine.execTrimSample temp seconds s
  | .trimWindow => Sys2Proof.Machine.execTrimWindow s
  | .periodicWake => Sys2Proof.Machine.execPeriodicWake s
  | .wakePeriodWrite r period v => Sys2Proof.Machine.execWakePeriodWrite r period v s
  | .rtcDiscipline seconds => Sys2Proof.Machine.execRtcDiscipline seconds s
  | .keyGenerate r slot aux => Sys2Proof.Machine.execKeyGenerate r slot aux s
  | .keyDerive r slot aux => Sys2Proof.Machine.execKeyDerive r slot aux s
  | .keyImport r slot aux => Sys2Proof.Machine.execKeyImport r slot aux s
  | .keyRevoke r slot aux => Sys2Proof.Machine.execKeyRevoke r slot aux s
  | .keyFree r slot aux => Sys2Proof.Machine.execKeyFree r slot aux s
  | .gcmEncrypt r slot aux => Sys2Proof.Machine.execGcmEncrypt r slot aux s
  | .gcmDecrypt r slot aux => Sys2Proof.Machine.execGcmDecrypt r slot aux s
  | .hmac r slot aux => Sys2Proof.Machine.execHmac r slot aux s
  | .hmacVerify r slot aux => Sys2Proof.Machine.execHmacVerify r slot aux s
  | .sha256 r slot aux => Sys2Proof.Machine.execSha256 r slot aux s
  | .ecdsaSign r slot aux => Sys2Proof.Machine.execEcdsaSign r slot aux s
  | .ecdsaVerify r slot aux => Sys2Proof.Machine.execEcdsaVerify r slot aux s
  | .pubkey r slot aux => Sys2Proof.Machine.execPubkey r slot aux s
  | .attest r slot aux => Sys2Proof.Machine.execAttest r slot aux s
  | .random r slot aux => Sys2Proof.Machine.execRandom r slot aux s
  | .keyOpDone => Sys2Proof.Machine.execKeyOpDone s
  | .keyRemask ms => Sys2Proof.Machine.execKeyRemask ms s
  | .slotSel r v => Sys2Proof.Machine.execSlotSel r v s
  | .tamperSample ms loopA loopB mesh => Sys2Proof.Machine.execTamperSample ms loopA loopB mesh s
  | .tamperDetect x => Sys2Proof.Machine.execTamperDetect x s
  | .safeDataAccess r w => Sys2Proof.Machine.execSafeDataAccess r w s
  | .safeSeal r => Sys2Proof.Machine.execSafeSeal r s
  | .safeSealDone => Sys2Proof.Machine.execSafeSealDone s
  | .rowSel r v => Sys2Proof.Machine.execRowSel r v s
  | .burnArm r v => Sys2Proof.Machine.execBurnArm r v s
  | .burnArmExpire => Sys2Proof.Machine.execBurnArmExpire s
  | .burnRow r => Sys2Proof.Machine.execBurnRow r s
  | .burnSeal r => Sys2Proof.Machine.execBurnSeal r s
  | .burnTampWipe r => Sys2Proof.Machine.execBurnTampWipe r s
  | .burnTampForce r => Sys2Proof.Machine.execBurnTampForce r s
  | .burnJtagLock r => Sys2Proof.Machine.execBurnJtagLock r s
  | .burnConsoleLock r => Sys2Proof.Machine.execBurnConsoleLock r s
  | .burnDone ok => Sys2Proof.Machine.execBurnDone ok s
  | .loadBegin r => Sys2Proof.Machine.execLoadBegin r s
  | .loadPush r v => Sys2Proof.Machine.execLoadPush r v s
  | .loadEnd r => Sys2Proof.Machine.execLoadEnd r s
  | .loadAbort r => Sys2Proof.Machine.execLoadAbort r s
  | .loadCheckDone => Sys2Proof.Machine.execLoadCheckDone s
  | .activate r => Sys2Proof.Machine.execActivate r s
  | .activationPauseEnd us => Sys2Proof.Machine.execActivationPauseEnd us s
  | .commit r => Sys2Proof.Machine.execCommit r s
  | .updCommitDone => Sys2Proof.Machine.execUpdCommitDone s
  | .revert r => Sys2Proof.Machine.execRevert r s
  | .trialExpire => Sys2Proof.Machine.execTrialExpire s
  | .bistRun r => Sys2Proof.Machine.execBistRun r s
  | .bistDone outcome coverage us => Sys2Proof.Machine.execBistDone outcome coverage us s
  | .repairBurn r => Sys2Proof.Machine.execRepairBurn r s
  | .laneTestStart seconds => Sys2Proof.Machine.execLaneTestStart seconds s
  | .laneTestDone pass => Sys2Proof.Machine.execLaneTestDone pass s
  | .calSel r v => Sys2Proof.Machine.execCalSel r v s
  | .calWrite r => Sys2Proof.Machine.execCalWrite r s
  | .calClear r => Sys2Proof.Machine.execCalClear r s
  | .calRun r temp reference => Sys2Proof.Machine.execCalRun r temp reference s
  | .calRunDone coef quality when_ aborted => Sys2Proof.Machine.execCalRunDone coef quality when_ aborted s
  | .brownout rms => Sys2Proof.Machine.execBrownout rms s
  | .vbatSample mv => Sys2Proof.Machine.execVbatSample mv s
  | .auxOverload aux3v3 ma => Sys2Proof.Machine.execAuxOverload aux3v3 ma s
  | .auxClear r v => Sys2Proof.Machine.execAuxClear r v s
  | .mtrReadingUpdate p0 p1 p2 freq rotation die => Sys2Proof.Machine.execMtrReadingUpdate p0 p1 p2 freq rotation die s
  | .mtrEnergyUpdate active reactive die => Sys2Proof.Machine.execMtrEnergyUpdate active reactive die s
  | .mtrEnergyPersist => Sys2Proof.Machine.execMtrEnergyPersist s
  | .impLoRead r p => Sys2Proof.Machine.execImpLoRead r p s
  | .aonStateLoss => Sys2Proof.Machine.execAonStateLoss s
  | .pcieLinkChange up speed width pm => Sys2Proof.Machine.execPcieLinkChange up speed width pm s
  | .ltcOutFrame n => Sys2Proof.Machine.execLtcOutFrame n s
  | .gateCycle n => Sys2Proof.Machine.execGateCycle n s
  | .registerRead r addr wide => Sys2Proof.Machine.execRegisterRead r addr wide s
  | .tableWindowRead off len => Sys2Proof.Machine.execTableWindowRead off len s
  | .wakeNPulseEnd => Sys2Proof.Machine.execWakeNPulseEnd s
  | .ptpMessageTx instB m => Sys2Proof.Machine.execPtpMessageTx instB m s

end Sys2Proof.Machine
end

