-- ==== Sys2Proof/Safety.lean ====
section
/-!
DEFINITION. A safe run, and the frames that the statements are written in: what a command may have changed.
-/
namespace Sys2Proof.Machine

/-- The state after `k` steps, if none of them stopped. -/
def runSteps : Nat → State → Option State
  | 0, s => some s
  | k + 1, s =>
    match step s with
    | .next t => runSteps k t
    | _ => none

/-- A run of `k` steps is safe. -/
def SafeRun (k : Nat) (s : State) : Prop := (runSteps k s).isSome = true

/-- The journal of `t` continues that of `s`, and is the same where SYS.JOURNAL_SEQ is not among the registers `regs` (R34). -/
def JournalGrows (regs : List Nat) (s t : State) : Prop := s.jrnl <+: t.jrnl ∧ (Reg.SYS.JOURNAL_SEQ ∉ regs → t.jrnl = s.jrnl)

/-- `t` is `s` but for the headers of `pages`, the registers `regs`, and the journal records that JOURNAL_SEQ counts where it is one of them. -/
def Writes (pages regs : List Nat) (s t : State) : Prop :=
  t = { s with blocks := t.blocks, regs := t.regs, jrnl := t.jrnl } ∧
  (∀ p, p ∉ pages → t.blk p = s.blk p) ∧
  (∀ a, a ∉ regs → t.rd a = s.rd a) ∧
  JournalGrows regs s t

/-- `t` is `s` but for the headers of `pages`, the registers `regs`, and what the notification of an event changes (R95, R97, R107,
R479): what leaves the module, the vectors that wait in MSIX_PBA, the pulses of the EVT pins, WAKE_N, and the deliveries that wait. -/
def Notifies (pages regs : List Nat) (s t : State) : Prop :=
  t = { s with blocks := t.blocks, regs := t.regs, outbox := t.outbox, wakeN := t.wakeN, pinPulse := t.pinPulse,
               deferred := t.deferred, jrnl := t.jrnl } ∧
  s.outbox <+: t.outbox ∧
  (∀ p, p ∉ pages → t.blk p = s.blk p) ∧
  (∀ a, a ∉ regs → a ≠ Reg.HIF.MSIX_PBA 0 → t.rd a = s.rd a) ∧
  JournalGrows regs s t

/-- A write to register `a` ends what a start with BOOT_SEL 1, 0 set aside for it (R53). -/
def State.claimed (s : State) (a : Nat) : State := { s with cfgSaved := Sparse.drop s.cfgSaved a }

/-- A write of requester `r` to register `a` takes its effect: nothing on the way stops it (R41, R47, R57, R76, R88, R452). -/
abbrev State.passes (s : State) (r : Requester) (a : Nat) : Prop := s.gate r (a / 0x1000) (a % 0x1000) = .pass

/-- A read of register `a` by requester `r` gives the register's value: HOST is answered, the page is populated and its domain on, the access
matrix allows it or the register is ID, STATE or ACCESS, and a block register's block is neither starting nor under test (R41, R57, R76,
R88, R452). -/
abbrev State.reads (s : State) (r : Requester) (a : Nat) : Prop :=
  (r = .host → s.mode ≠ .doze ∧ s.hostUp = true) ∧ populated (a / 0x1000) = true ∧ s.reach (a / 0x1000) = true ∧
  (s.allowed r (a / 0x1000) false = true ∨ a % 0x1000 = 0 ∨ a % 0x1000 = 0xC ∨ a % 0x1000 = 0x24) ∧
  (0x40 ≤ a % 0x1000 → s.code (a / 0x1000) ≠ 1 ∧ s.code (a / 0x1000) ≠ 4)

/-- A 64-bit energy counter of the meter, its low word at `a` (R484). -/
abbrev State.energy (s : State) (a : Nat) : Nat := (s.rd a).toNat + 2 ^ 32 * (s.rd (a + 4)).toNat

/-- The module is awake: neither in COLD or DOZE nor on its way to DOZE, so that no wake source has work to do (R54). -/
abbrev State.awake (s : State) : Prop := s.mode ≠ .cold ∧ s.mode ≠ .doze ∧ s.trans ≠ some .doze

/-- The module sends traffic of its own on ETH port `n`: `e` enters egress queue `q` of the port (R320). -/
abbrev State.sends (s t : State) (n q : Nat) (e : Emission) : Prop :=
  ∃ len, (t.eth n).txq = (s.eth n).txq ++ [{ queue := q, body := .own e len, stamp := none, since := s.clock }]

/-- A frame as it leaves the end of a chain: its bytes, and the line code at the end's running disparity (R258, R259, R261). -/
def State.gzSent (s : State) (n : Nat) (r : GzReq) : Emission :=
  .gz n (gzFrame r.type r.bcast false r.addr (s.gz n).seq r.payload) (lineCode (s.gz n).rd (gzFrame r.type r.bcast false r.addr (s.gz n).seq r.payload)).1

/-- A frame and its reply train end before the window that is open closes (R28, R274, R278). -/
abbrev State.gzFits (s : State) (n : Nat) (r : GzReq) : Prop := Nat.max (s.symbolNs n (lineSymbols (12 + r.payload.length))) r.train < s.gateLeft n r

/-- Frame `r` leaves the end of a chain where nothing waits before it: at once if it ends before the open window closes, else it waits (R278). -/
def State.gzGoes (s t : State) (n : Nat) (r : GzReq) : Prop :=
  (s.gz n).wait = [] →
    (s.gzFits n r → t.outbox = s.outbox ++ [s.gzSent n r] ∧ (t.gz n).wait = []) ∧ (¬ s.gzFits n r → t.outbox = s.outbox ∧ (t.gz n).wait = [r])

/-- The commands that carry a fleet record, each with its TYPE (R378). -/
def fleetCommands : List ((FleetPath → FleetRec → Instr) × Nat) :=
  [(.statusRecord, 2), (.presenceRecord, 5), (.sensorRecord, 6), (.imgOffer, 7), (.imgChunk, 8), (.imgNack, 9), (.imgDone, 10), (.regWrite, 16), (.regCommit, 17),
   (.schedSet, 18), (.ruleSet, 19), (.imgSeal, 20)]

/-- The SEQ that a sender's record has to exceed (R377). -/
abbrev State.lastSeq (s : State) (via : FleetVia) (r : FleetRec) : Word :=
  match via with | .node => s.regw (r.id.toNat % 131072) 24 | .hostClient => s.rd Reg.FLT.HOST_SEQ

/-- The TAG of a record is right under the key that it names (R376, R377). -/
abbrev State.tagOk (s : State) (type : Nat) (r : FleetRec) : Prop :=
  ∃ key, s.fleetKey (r.key == 1) = some key ∧ fleetTag key ((recBytes type r).take 52) = fitBytes 12 r.tag

/-- A record passes every check of R377 at FP. -/
abbrev State.accepts (s : State) (type : Nat) (via : FleetVia) (r : FleetRec) : Prop :=
  s.fpUp = true ∧ r.key.toNat < 2 ∧ s.tagOk type r ∧ (s.lastSeq via r).toNat < r.seq.toNat ∧ s.recSender type via r = true

/-- The commands that come from HOST or over the network as PRT requests: every register access by HOST, the table windows, the doorbells and the
PRT datagrams (R75, R76, R87, R90 to R92, R103). -/
def fromOutside (c : Instr) : Bool :=
  match c with
  | .registerWrite r _ _ _ _ same => r == .host && same.all (fun e => e.1 == .host)
  | .badAccess r .. | .enableSet r _ | .enableClear r _ | .softReset r _ | .bistReq r _ | .swapReq r _ | .ctlHoldSet r _ | .ctlHoldClear r _
  | .evtClr r _ _ _ | .swgenSet r _ | .swgenClr r _ | .clientCfgWrite r _ _ | .modeReq r _ | .resetReqModule r _ | .incrFracWrite r _ _
  | .incrIntWrite r _ _ | .adjWrite r _ _ | .timeRead r _ | .srcWrite r _ _ | .followOffsetWrite r _ _ | .snapReq r _ _ | .commitGo r _
  | .zcmdHold r _ _ | .zcmdReleaseHold r _ _ | .zcmdBlackout r _ _ | .zcmdReleaseBlackout r _ _ | .zcmdBadOp r _ _ _ | .cueDataAccess r _
  | .cueGo r _ | .sCtlWrite r _ _ | .clipDelete r _ | .clipPreload r _ | .clipGo r _ | .clipStop r _ | .inDataAccess r _ | .gmDataAccess r _
  | .gmGo r _ | .residSel r _ | .thmRearm r _ | .remeasure r _ | .retune r _ | .tdr r _ | .leak r _ | .reenum r _ | .resendConfig r _
  | .ringEnable r _ _ | .ringDisable r _ _ | .domRecount r _ | .rdmSend r _ | .rdmDiscover r _ | .uidDataRead r _ | .actGo r _ | .actClear r _
  | .tsqPop r _ | .gateApply r _ | .flush r _ | .chmapWrite r _ _ | .rfeConfigWrite r _ _ | .childSel r _ | .memberEnable r | .memberDisable r
  | .mbGo r | .imgStart r | .imgStop r | .imgDelete r | .imgActivate r | .logSel r _ | .groupSel r _ | .imgMapRead r | .subsecRead r | .rtcSetGo r
  | .rtcShift r _ | .alarmArm r _ | .alarmDisarm r _ | .wakePeriodWrite r _ _ | .keyGenerate r _ _ | .keyDerive r _ _ | .keyImport r _ _
  | .keyRevoke r _ _ | .keyFree r _ _ | .gcmEncrypt r _ _ | .gcmDecrypt r _ _ | .hmac r _ _ | .hmacVerify r _ _ | .sha256 r _ _ | .ecdsaSign r _ _
  | .ecdsaVerify r _ _ | .pubkey r _ _ | .attest r _ _ | .random r _ _ | .slotSel r _ | .safeDataAccess r _ | .safeSeal r | .rowSel r _
  | .burnArm r _ | .burnRow r | .burnSeal r | .burnTampWipe r | .burnTampForce r | .burnJtagLock r | .burnConsoleLock r | .loadBegin r
  | .loadPush r _ | .loadEnd r | .loadAbort r | .activate r | .commit r | .revert r | .bistRun r | .repairBurn r | .calSel r _ | .calWrite r
  | .calClear r | .calRun r _ _ | .auxClear r _ | .impLoRead r _ | .registerRead r .. => r == .host
  | .tableWindowWrite .. | .tableWindowRead .. | .doorbellWrite .. => true
  | .prtRead _ | .prtWrite _ | .prtReadTable _ | .prtWriteTable _ | .prtNop _ | .prtBadOpcode .. => true
  | _ => false

/-- The module is in COLD, with CTL off, by no command of its own, and every command that waits comes from outside (R41, R49, R76). -/
def ColdAndDark (s : State) : Prop :=
  s.mode = .cold ∧ s.trans = none ∧ s.coldCmd = false ∧ s.dom 1 = 0 ∧ ∀ c ∈ s.pending, fromOutside c = true

/-- Every sparse table that the registers, the headers, the tables of the plan and the durable records are held in has its canonical
form. -/
def Canonical (s : State) : Prop :=
  Sparse.wf regDefault s.regs = true ∧ Sparse.wf (fun _ => Block.init) s.blocks = true

end Sys2Proof.Machine
end

