-- ==== Sys2Proof/Certificates/Slice0/Obligations.lean ====
section
/-!
DEFINITION. The statements for the provers. Each is about every state that meets its hypotheses, reached by a run or not; `∃ t, exec c s = .next t ∧ …`
says that the command completes and what holds after it.
-/
open Sys2Proof Sys2Proof.Machine

/-- A step of a block that has commands waiting is the effect of the first of them on the state without it: first in, first out. -/
def Obligations.StepRunsFront : Prop :=
  ∀ (c : Instr) (rest : List Instr) (s : State), s.pending = c :: rest → step s = exec c { s with pending := rest }

/-- The model's choice (log entry 1): a step on an empty queue is 2 ns of true time. When no tick of the time bases, of the RTC or of the second falls due
in them, nothing but the model's clocks moves. -/
def Obligations.IdleStepIsTime : Prop :=
  ∀ s : State, s.pending = [] → s.tbClock = false → s.xtalOn = false → s.secAcc + 2 < 1000000000 →
    step s = .next { s with clock := s.clock + 2, secAcc := s.secAcc + 2 }

/-- Every command has a next state in every state: the spec turns each error into an event, a counter, a RESULT field or a block state. -/
def Obligations.NoCommandStops : Prop :=
  ∀ (c : Instr) (s : State), ∃ t, exec c s = .next t

/-- The state after an AON power-on reset, where the spec states it (R49, R62, R78, R81, R109): mode COLD, AON on and every other domain off,
every block OFF, the cause AON_POR alone, and every time base at nominal INCR. State.reset as a whole is the model's (log entries 3 and 4). -/
def Obligations.ResetState : Prop :=
  State.reset.mode = .cold ∧ State.reset.trans = none ∧ State.reset.pending = [] ∧
  State.reset.dom 0 = 2 ∧ (∀ d, 1 ≤ d → d < 5 → State.reset.dom d = 0) ∧
  (∀ pg, State.reset.code pg = 0 ∧ (State.reset.blk pg).enable = true ∧ (State.reset.blk pg).hold = false) ∧
  State.reset.rd Reg.SYS.RESET_CAUSE = 1 ∧ State.reset.mainsOn = false ∧
  (∀ n, (State.reset.tb n).incr = 2 * 2 ^ 32) ∧ State.reset.frames = [] ∧ State.reset.pinPulse = []

/-- CTL.ENABLE written 1 (R81, R82): a block in OFF begins its start-up, a block in DISABLING sets PEND_ENABLE, and elsewhere the field alone takes its
value. Other pages keep their headers but for the causes of page 0, where EV006 reports READY_MAP, and, for a time base, those of the pages that follow it. CTL.ENABLE written 0 (R81): a block that starts, works or has failed goes to DISABLING; in DISABLING PEND_ENABLE clears; RTC and TAMP count the write
in ERR_CNT and ignore it (R411, R436); KEY after a tamper stays in FAULT (R428), and so does every block of a domain in code 4 (R73). CTL.HOLD (R45, R81): written 1 a READY block shows its held look in HOLD; written 0 a held block returns to READY once every PLL that feeds it is
locked; in any other state the field alone changes, and DSP, whose STATE never shows HOLD (R191), keeps its code. That a block in STARTING leaves it at once follows R81 and not R61 (log entry 59). -/
def Obligations.ControlFieldsAreWritten : Prop :=
  (∀ (r : Requester) (pg : Fin 256) (s : State), s.passes r (ctlAddr pg) →
      ∃ t, exec (.enableSet r pg) s = .next t ∧ (t.blk pg).enable = true ∧
        (s.code pg = 0 → t.code pg = 1 ∧ (t.blk pg).pendEnable = false ∧ (t.blk pg).swapPend = false) ∧
        (s.code pg = 3 → t.blk pg = { s.blk pg with enable := true, pendEnable := true }) ∧
        (s.code pg ≠ 0 → s.code pg ≠ 3 → t.blk pg = { s.blk pg with enable := true }) ∧
        (∀ p : Nat, p ≠ pg → t.blk p = { s.blk p with evtRaw := (t.blk p).evtRaw }) ∧
        (pg.val < 12 ∨ 15 < pg.val → ∀ p : Nat, p ≠ pg → p ≠ 0 → t.blk p = s.blk p) ∧
        (s.code pg ≠ 0 → ∀ a, a ≠ Reg.SYS.JOURNAL_SEQ → t.rd a = s.rd a) ∧
        t.mode = s.mode ∧ t.pending = s.pending ∧ t.plan = s.plan ∧ t.registry = s.registry) ∧
  (∀ (r : Requester) (pg : Fin 256) (s : State), s.passes r (ctlAddr pg) →
      (pg.val = 11 ∨ pg.val = 7 → ∃ t, exec (.enableClear r pg) s = .next t ∧ Writes [pg.val] [] (s.claimed (ctlAddr pg)) t ∧
        t.blk pg = { s.blk pg with errCnt := satInc (s.blk pg).errCnt }) ∧
      (pg.val ≠ 11 → pg.val ≠ 7 →
        ∃ t, exec (.enableClear r pg) s = .next t ∧ (t.blk pg).enable = false ∧
          (s.faultLocked pg = true → t.code pg = s.code pg) ∧
          (s.faultLocked pg = false → s.code pg = 1 ∨ s.code pg = 2 ∨ s.code pg = 6 ∨ s.code pg = 7 → t.code pg = 3) ∧
          (s.faultLocked pg = false → s.code pg = 3 → t.blk pg = { s.blk pg with enable := false, pendEnable := false }) ∧
          (s.code pg = 0 ∨ s.code pg = 4 ∨ s.code pg = 5 → t.blk pg = { s.blk pg with enable := false }) ∧
          t.mode = s.mode ∧ t.pending = s.pending ∧ t.plan = s.plan ∧ t.registry = s.registry)) ∧
  (∀ (r : Requester) (pg : Fin 256) (s : State), s.passes r (ctlAddr pg) →
      (∃ t, exec (.ctlHoldSet r pg) s = .next t ∧ (t.blk pg).hold = true ∧ t.code pg = (if s.code pg = 2 ∧ pg.val ≠ 27 then 6 else s.code pg) ∧
        Notifies [pg.val, 0] [] (s.claimed (ctlAddr pg)) t) ∧
      (∃ t, exec (.ctlHoldClear r pg) s = .next t ∧ (t.blk pg).hold = false ∧
        (pg.val ≠ 27 → s.pllsOk pg = true → t.code pg = (if s.code pg = 6 then 2 else s.code pg)) ∧
        (pg.val ≠ 27 → s.pllsOk pg = false → t.code pg = (if s.code pg = 2 then 6 else s.code pg)) ∧
        (pg.val = 27 → t.code pg = s.code pg) ∧
        Notifies [pg.val, 0] [] (s.claimed (ctlAddr pg)) t))

/-- CTL.SOFT_RESET (R10, R81, R348, R484): the block alone starts again if CTL.ENABLE is 1 and goes OFF if it is 0; QM and MTR outside SERVICE ignore
and count it. The ends of a block's start-up and shutdown (R45, R57, R60, R81): a started block that its PLLs and DRAM feed reports READY, or, but for DSP (R191), HOLD while CTL.HOLD is
1; a stopped one goes OFF, or starts again where PEND_ENABLE is 1. -/
def Obligations.BlocksRestartStartAndStop : Prop :=
  (∀ (r : Requester) (pg : Fin 256) (s : State), s.passes r (ctlAddr pg) →
      ((pg.val = 26 ∨ pg.val = 30) → s.mode ≠ .service → ∃ t, exec (.softReset r pg) s = .next t ∧
        Writes [pg.val] [] (s.claimed (ctlAddr pg)) t ∧ t.blk pg = { s.blk pg with errCnt := satInc (s.blk pg).errCnt }) ∧
      (((pg.val ≠ 26 ∧ pg.val ≠ 30) ∨ s.mode = .service) → s.faultLocked pg = false → ∃ t, exec (.softReset r pg) s = .next t ∧
        t.code pg = (if (s.blk pg).enable then 1 else 0) ∧ (t.blk pg).enable = (s.blk pg).enable ∧ (t.blk pg).hold = false ∧
        (t.blk pg).pendEnable = false ∧ (t.blk pg).swapPend = false ∧ (t.blk pg).bank = false ∧ (t.blk pg).evtEn = 0 ∧
        (t.blk pg).errCnt = 0 ∧ t.mode = s.mode ∧ t.pending = s.pending ∧ t.plan = s.plan ∧ t.registry = s.registry)) ∧
  (∀ (pg : Fin 256) (s : State),
      (s.code pg = 1 → s.reach pg = true → s.pllsOk pg = true → (usesDram pg = true → s.dramOk = true) → s.startupReady pg = true →
        ∃ t, exec (.blockStartupDone pg) s = .next t ∧ t.code pg = (if (s.blk pg).hold ∧ pg.val ≠ 27 then 6 else 2) ∧
          (∀ p : Nat, (t.blk p).enable = (s.blk p).enable ∧ (t.blk p).hold = (s.blk p).hold ∧ (p ≠ pg → t.code p = s.code p)) ∧
          t.mode = s.mode ∧ t.plan = s.plan ∧ t.registry = s.registry) ∧
      (s.code pg = 3 → (s.blk pg).pendEnable = false →
        ∃ t, exec (.blockShutdownDone pg) s = .next t ∧ t.code pg = 0 ∧ (t.blk pg).enable = (s.blk pg).enable ∧
          t.mode = s.mode ∧ t.plan = s.plan) ∧
      (s.code pg = 3 → (s.blk pg).pendEnable = true →
        ∃ t, exec (.blockShutdownDone pg) s = .next t ∧ t.code pg = 1 ∧ (t.blk pg).pendEnable = false ∧
          t.mode = s.mode ∧ t.plan = s.plan))

/-- CTL.SWAP_REQ and the swap it arms (R20, R82, R85, R86): a plan-coupled block asks PP for a commit, any other arms its own bank swap, and a block that is OFF, has failed or has a
swap pending counts the write; the swap exchanges the banks, counts in SWAP_COUNT and clears SWAP_PEND, and that of MTR puts its calibration sets in force (R458). That the request to PP leaves SWAP_PEND is the model's reading (log entry 61). -/
def Obligations.LoneBankSwap : Prop :=
  ∀ (r : Requester) (pg : Fin 256) (s : State),
    (s.passes r (ctlAddr pg) → s.code pg ≠ 0 → s.code pg ≠ 7 → planCoupled pg = true → (s.blk pg).swapPend = false →
      exec (.swapReq r pg) s = .next { s.claimed (ctlAddr pg) with planAsked := true }) ∧
    (s.passes r (ctlAddr pg) → s.code pg ≠ 0 → s.code pg ≠ 7 → planCoupled pg = false → (s.blk pg).swapPend = false →
      ∃ t, exec (.swapReq r pg) s = .next t ∧ Writes [pg.val] [] (s.claimed (ctlAddr pg)) t ∧
        t.blk pg = { s.blk pg with swapPend := true }) ∧
    (s.passes r (ctlAddr pg) → s.code pg = 0 ∨ s.code pg = 7 ∨ (s.blk pg).swapPend = true →
      ∃ t, exec (.swapReq r pg) s = .next t ∧ Writes [pg.val] [] (s.claimed (ctlAddr pg)) t ∧
        t.blk pg = { s.blk pg with errCnt := satInc (s.blk pg).errCnt }) ∧
    ((s.blk pg).swapPend = true → planCoupled pg = false →
      ∃ t, exec (.bankSwap pg) s = .next t ∧
        t.blk pg = { s.blk pg with bank := !(s.blk pg).bank, swapCount := (s.blk pg).swapCount + 1, swapPend := false } ∧
        (∀ p : Nat, p ≠ pg → t.blk p = s.blk p) ∧
        (∀ a : Nat, a / 0x1000 ≠ pg.val ∨ a ∉ s.shadow.map (fun e => e.1) → t.rd a = s.rd a) ∧
        t = { s with blocks := t.blocks, regs := t.regs, shadow := s.shadow.filter (fun e => e.1 / 0x1000 != pg.val), calMtr := t.calMtr } ∧
        (pg.val ≠ 30 → t.calMtr = s.calMtr) ∧ (pg.val = 30 → t.calMtr = s.cal.filter (fun e => e.1 / 0x1000 == 1)))

/-- The latching of events (R78, R95, R107): EVT_CLR clears the bits written 1 and keeps a cause of the same cycle; an EVT pulse ends. What a cause does (R78, R94, R95, R96): its bit of EVT_RAW latches, and where the source was inactive and its EVT_EN bit is 1, every processor that ROUTE
selects and that runs is notified. Nothing else of the header changes, and no register but MSIX_PBA. -/
def Obligations.EventsLatchAndNotify : Prop :=
  (∀ (r : Requester) (s : State),
      (∀ (pg : Fin 256) (mask causes : Word), s.passes r (0x1000 * pg + 0x1C) →
        ∃ t, exec (.evtClr r pg mask causes) s = .next t ∧ Notifies [pg.val] [] (s.claimed (0x1000 * pg + 0x1C)) t ∧
          t.blk pg = { s.blk pg with evtRaw := ((s.blk pg).evtRaw &&& ~~~mask) ||| causes }) ∧
      (∀ pin : EvtPin, exec (.evtPulseEnd pin) s = .next { s with pinPulse := s.pinPulse.filter (fun p => p != pin) })) ∧
  (∀ (s : State) (pg n : Nat), n < 32 →
      Notifies [pg] [] s (s.raise pg n) ∧
      (s.raise pg n).blk pg = { s.blk pg with evtRaw := setBit (s.blk pg).evtRaw n true } ∧
      (∀ b m k t, evtBase pg = some (b, m) → k < m → bit (srcMask m k) n = true → (s.blk pg).evtRaw &&& (s.blk pg).evtEn &&& srcMask m k = 0 →
        bit (s.blk pg).evtEn n = true → t < 4 → bit (s.route (b + k)) t = true → s.canNotify t = true →
        Emission.notify t (b + k) ∈ (s.raise pg n).outbox))

/-- A self-test request (R450): accepted in SERVICE by a READY or held block that has a self-test, which goes to BIST; refused with BUSY while another runs and
with BIST_DENIED elsewhere. Self-test, repair and the online lane test (R433, R450, R453, R455, R457, R463): BIST.CMD tests the block of TARGET; a test's end records its result and restarts, stops or fails the block; a repair with no fuse left is refused; a working primary lane is tested on a spare,
and a failed lane is marked. That BUSY comes before every other cause is the model's choice (log entry 60). -/
def Obligations.SelfTestsRun : Prop :=
  (∀ (r : Requester) (pg : Fin 256) (s : State), s.passes r (ctlAddr pg) →
      (fld (s.rd Reg.BIST.STATUS) 0 2 ≠ 1 → hasBist pg = true → s.mode = .service → s.code pg = 2 ∨ s.code pg = 6 →
        ∃ t, exec (.bistReq r pg) s = .next t ∧ t.code pg = 4 ∧ (t.rd Reg.BIST.STATUS).toNat = 1 + 0x100 * pg ∧ t.mode = s.mode ∧ t.plan = s.plan) ∧
      (fld (s.rd Reg.BIST.STATUS) 0 2 = 1 → s.code pg ≠ 0 → s.code pg ≠ 7 →
        ∃ t, exec (.bistReq r pg) s = .next t ∧ Notifies [9] [Reg.BIST.STATUS] (s.claimed (ctlAddr pg)) t ∧
          fld (t.rd Reg.BIST.STATUS) 16 8 = 5 ∧ bit (t.blk 9).evtRaw 1 = true) ∧
      (s.code pg = 0 ∨ s.code pg = 7 → ∃ t, exec (.bistReq r pg) s = .next t ∧ Writes [pg.val] [] (s.claimed (ctlAddr pg)) t ∧
        t.blk pg = { s.blk pg with errCnt := satInc (s.blk pg).errCnt })) ∧
  (∀ s : State,
      let st := s.rd Reg.BIST.STATUS
      let cmd := Reg.BIST.CMD
      let target := fld (s.rd Reg.BIST.TARGET) 0 8
      let pg := fld st 8 8
      let testing := s.rd Reg.LANE.TESTING
      let lane := fld testing 0 7
      (∀ r, s.passes r cmd → fld st 0 2 ≠ 1 → hasBist target = true → s.mode = .service → s.code target = 2 ∨ s.code target = 6 → ∃ t, exec (.bistRun r) s = .next t ∧ t.code target = 4 ∧
        (t.rd Reg.BIST.STATUS).toNat = 1 + 0x100 * target ∧ t.mode = s.mode ∧ t.plan = s.plan) ∧
      (∀ r, s.passes r cmd → fld st 0 2 = 1 → ∃ t, exec (.bistRun r) s = .next t ∧ fld (t.rd Reg.BIST.STATUS) 16 8 = 5 ∧ bit (t.blk 9).evtRaw 1 = true ∧ t.code target = s.code target ∧
        Notifies [9] [Reg.BIST.STATUS] (s.claimed cmd) t) ∧
      (∀ (outcome : Fin 3) (cov : BitVec 14) us, fld st 0 2 = 1 → pg ≠ 9 → s.code pg = 4 → ∃ t, exec (.bistDone outcome cov us) s = .next t ∧
        (t.rd Reg.BIST.STATUS).toNat = 2 + 0x100 * pg + 0x10000 * (outcome.val + 1) ∧ (t.rd Reg.BIST.COVERAGE).toNat = cov.toNat ∧ t.rd Reg.BIST.DURATION = us ∧
        (t.rd (Reg.BIST.LAST pg)).toNat = outcome.val + 1 + 0x100 * cov.toNat ∧ bit (t.blk 9).evtRaw 0 = true ∧
        t.code pg = (if outcome = 2 then 7 else if (s.blk pg).enable then 1 else 0) ∧ (outcome = 2 → bit (t.blk 9).evtRaw 1 = true)) ∧
      (∀ outcome cov us, fld st 0 2 ≠ 1 → exec (.bistDone outcome cov us) s = .next s) ∧
      (∀ r, s.passes r cmd → s.burnRefusal 6 = 0 → fld (s.rd Reg.BIST.FUSE_LEFT) 0 16 = 0 → ∃ t, exec (.repairBurn r) s = .next t ∧ fld (t.rd Reg.BIST.STATUS) 16 8 = 7 ∧ bit (t.blk 9).evtRaw 1 = true ∧
        t.burn = s.burn ∧ Notifies [9] [Reg.BIST.STATUS] { s.claimed cmd with burnArmed := false } t) ∧
      (∀ r, s.passes r cmd → s.burnRefusal 6 = 0 → fld (s.rd Reg.BIST.FUSE_LEFT) 0 16 ≠ 0 → ∃ t, exec (.repairBurn r) s = .next t ∧ (∃ b, t.burn = some b ∧ b.kind = 6) ∧ t.rd Reg.FUSE.BURN_STATUS = 1 ∧
        Writes [] [Reg.FUSE.BURN_STATUS] { s.claimed cmd with burnArmed := false, burn := t.burn } t) ∧
      (∀ r, s.passes r cmd → s.burnRefusal 6 ≠ 0 → ∃ t, exec (.repairBurn r) s = .next t ∧ t.burn = s.burn ∧ t.rd Reg.FUSE.BURN_STATUS = W (3 + 0x10 * s.burnRefusal 6) ∧
        Writes [] [Reg.FUSE.BURN_STATUS] { s.claimed cmd with burnArmed := false } t) ∧
      (∀ i l sec, s.lanePeriod ≤ sec → s.code 17 = 2 → s.reach 17 = true → bit (s.rd Reg.LANE.ONLINE_CFG) 0 = true → bit testing 7 = false → s.freeSpare = some i →
        ((List.range 64).map (fun k => ((s.laneLast.elim 0 (fun x => x + 1)) + k) % 64)).find? (fun x => !s.laneFailed x) = some l →
        ∃ t, exec (.laneTestStart sec) s = .next t ∧ t.laneTesting l = true ∧ t.spareOf i = l ∧ t.laneLast = some l ∧ (t.blk 17).spared = true ∧
          Writes [17] [Reg.LANE.TESTING, Reg.LANE.SPARE_MAP] { s with laneLast := t.laneLast } t) ∧
      (∀ sec, sec < s.lanePeriod ∨ bit testing 7 = true → exec (.laneTestStart sec) s = .next s) ∧
      (bit testing 7 = true → ∃ t, exec (.laneTestDone true) s = .next t ∧ bit (t.rd Reg.LANE.TESTING) 7 = false ∧ (∀ i, i < 4 → t.spareOf i ≠ lane) ∧
        Writes [17] [Reg.LANE.TESTING, Reg.LANE.SPARE_MAP] s t) ∧
      (bit testing 7 = true → lane < 64 → ∃ t, exec (.laneTestDone false) s = .next t ∧ bit (t.rd Reg.LANE.TESTING) 7 = false ∧ t.laneFailed lane = true ∧
        (∀ l, l < 68 → l ≠ lane → t.laneFailed l = s.laneFailed l) ∧ bit (t.blk 9).evtRaw 1 = true) ∧
      (∀ p, bit testing 7 = false → exec (.laneTestDone p) s = .next s))

/-- The RTC's staged commands (R402, R403, R404, R407, R410): SET_GO, SHIFT and a write of the periodic wake take effect at a later tick; while PEND is 1 a further
set or shift is dropped and counted. Alarms (R406, R413): ARM arms a possible future instant, refuses one that has passed with RESULT 4 and an impossible one with RESULT 5. -/
def Obligations.RtcStagesAndArms : Prop :=
  (∀ (r : Requester) (s : State),
      (s.passes r Reg.RTC.SET_GO → s.rtcPend = false → ∃ t, exec (.rtcSetGo r) s = .next t ∧
        Writes [] [Reg.RTC.STATUS] { s.claimed Reg.RTC.SET_GO with rtc := { s.rtc with setPend := true } } t ∧
        t.rd Reg.RTC.STATUS = setBit (s.rd Reg.RTC.STATUS) 1 true) ∧
      (s.passes r Reg.RTC.SET_GO → s.rtcPend = true → exec (.rtcSetGo r) s = .next ((s.claimed Reg.RTC.SET_GO).err 11)) ∧
      (∀ v, s.passes r Reg.RTC.SHIFT → s.rtcPend = false → ∃ t, exec (.rtcShift r v) s = .next t ∧
        Writes [] [Reg.RTC.STATUS] { s.claimed Reg.RTC.SHIFT with rtc := { s.rtc with shifts := [sfld v 0 16] } } t ∧
        t.rd Reg.RTC.STATUS = setBit (s.rd Reg.RTC.STATUS) 1 true) ∧
      (∀ v, s.passes r Reg.RTC.SHIFT → s.rtcPend = true → exec (.rtcShift r v) s = .next ((s.claimed Reg.RTC.SHIFT).err 11)) ∧
      (∀ v, s.passes r Reg.RTC.WAKE_PERIOD → ∃ t, exec (.wakePeriodWrite r true v) s = .next t ∧
        Writes [] [Reg.RTC.WAKE_PERIOD, Reg.SYS.JOURNAL_SEQ] { s.claimed Reg.RTC.WAKE_PERIOD with rtc := { s.rtc with perRestart := true } } t ∧
        t.rd Reg.RTC.WAKE_PERIOD = v &&& 0x3FFFFFF) ∧
      (∀ v, s.passes r Reg.RTC.WAKE_CFG → ∃ t, exec (.wakePeriodWrite r false v) s = .next t ∧
        Writes [] [Reg.RTC.WAKE_CFG, Reg.SYS.JOURNAL_SEQ] { s.claimed Reg.RTC.WAKE_CFG with rtc := { s.rtc with perRestart := true } } t ∧
        t.rd Reg.RTC.WAKE_CFG = v &&& 1)) ∧
  (∀ (r : Requester) (a : Fin 2) (s : State), s.passes r (Reg.RTC.ALM_CTL a) →
      (¬ (a.val = 1 ∧ bit (s.rd Reg.SYS.DOZE_CFG) 1 = true ∧ r ≠ .fp) →
        (∀ x, s.alarmAt a = some x → s.rtc.time < x → ∃ t, exec (.alarmArm r a) s = .next t ∧ t.almArmed a = true ∧
          fld (t.rd (Reg.RTC.ALM_STATUS a)) 1 3 = 1 ∧ Writes [] [Reg.RTC.ALM_STATUS a] (s.claimed (Reg.RTC.ALM_CTL a)) t) ∧
        (∀ x, s.alarmAt a = some x → x ≤ s.rtc.time → ∃ t, exec (.alarmArm r a) s = .next t ∧
          fld (t.rd (Reg.RTC.ALM_STATUS a)) 1 3 = 4 ∧ Writes [] [Reg.RTC.ALM_STATUS a] (s.claimed (Reg.RTC.ALM_CTL a)) t) ∧
        (s.alarmAt a = none → ∃ t, exec (.alarmArm r a) s = .next t ∧
          fld (t.rd (Reg.RTC.ALM_STATUS a)) 1 3 = 5 ∧ Writes [] [Reg.RTC.ALM_STATUS a] (s.claimed (Reg.RTC.ALM_CTL a)) t)))

/-- A tick of the RTC while the module is awake (R398, R401 to R403, R406, R408, R410): the set or shift that waits applies whole, or is rejected with BAD_SET and
STICKY; armed alarms that the time has reached fire and disarm; the wrap of the calendar, a new trim window and the periodic wake each show what they
do. Nothing outside the RTC changes but for the notification of its events. That the command performs the tick is the model's choice (log entries 69 and 70). -/
def Obligations.RtcTickDoesWhatIsDue : Prop :=
  ∀ s : State, s.xtalOn = true → s.awake →
    let frame := fun t : State => Notifies [11] [Reg.RTC.STATUS, Reg.RTC.TRIM_NOW, Reg.RTC.ALM_STATUS 0, Reg.RTC.ALM_STATUS 1, Reg.RTC.STICKY, Reg.RTC.WAKE_COUNT]
      { s with rtc := t.rtc } t
    let evt := fun (t : State) n => bit (t.blk 11).evtRaw n = true
    (s.rtc.setPend = false → s.rtc.shifts = [] → s.tickCount.2 = false → s.rtc.time / 32768 < s.tickCount.1 / 32768 →
      ∃ t, exec .rtcSecond s = .next t ∧ t.rtc.time = s.tickCount.1 ∧ evt t 3 ∧ frame t) ∧
    (∀ n, s.rtc.setPend = true → s.stagedSet = some n →
      ∃ t, exec .rtcSetApply s = .next t ∧ t.rtc.time = n ∧ t.rtc.setPend = false ∧ bit (t.rd Reg.RTC.STATUS) 0 = true ∧ frame t) ∧
    (s.rtc.setPend = true → s.stagedSet = none → s.tickCount.2 = false →
      ∃ t, exec .rtcSetApply s = .next t ∧ t.rtc.time = s.tickCount.1 ∧ t.rtc.setPend = false ∧ bit (t.rd Reg.RTC.STICKY) 0 = true ∧ evt t 4 ∧ frame t) ∧
    (∀ d l, s.rtc.setPend = false → s.rtc.shifts = d :: l → 0 ≤ (s.tickCount.1 : Int) + d → (s.tickCount.1 : Int) + d < rtcEnd →
      ∃ t, exec .rtcShiftApply s = .next t ∧ (t.rtc.time : Int) = s.tickCount.1 + d ∧ t.rtc.shifts = l ∧ frame t) ∧
    (∀ d l, s.rtc.setPend = false → s.rtc.shifts = d :: l → (s.tickCount.1 : Int) + d < 0 →
      ∃ t, exec .rtcShiftApply s = .next t ∧ t.rtc.time = s.tickCount.1 ∧ t.rtc.shifts = l ∧ bit (t.rd Reg.RTC.STICKY) 0 = true ∧ evt t 4 ∧ frame t) ∧
    (∀ (a : Fin 2) x, s.almArmed a = true → s.alarmAt a = some x → x ≤ (s.tickApply s.tickCount.1).1 →
      ∃ t, exec (.alarmFire a) s = .next t ∧ t.almArmed a = false ∧
        fld (t.rd (Reg.RTC.ALM_STATUS a)) 1 3 = (if s.tickCount.1 < x then 3 else 2) ∧ evt t a ∧ frame t) ∧
    (s.tickCount.2 = true → s.rtc.setPend = false → s.rtc.shifts = [] →
      ∃ t, exec .yearWrap s = .next t ∧ t.rtc.time = s.tickCount.1 ∧ bit (t.rd Reg.RTC.STICKY) 1 = true ∧ evt t 5 ∧ frame t) ∧
    (s.rtc.winTick = 1048575 → bit (s.rd Reg.RTC.TRIM_CFG) 0 = true →
      ∃ t, exec .trimWindow s = .next t ∧ t.rtc.winTick = 0 ∧ t.rtc.trimN = s.rtc.trimNext ∧ frame t) ∧
    (s.rtc.perRestart = false → bit (s.rd Reg.RTC.WAKE_CFG) 0 = true →
      32 * clampN 1 67107840 (fld (s.rd Reg.RTC.WAKE_PERIOD) 0 26) ≤ s.rtc.perTick + 1 →
      ∃ t, exec .periodicWake s = .next t ∧ t.rtc.perTick = 0 ∧ t.rd Reg.RTC.WAKE_COUNT = s.rd Reg.RTC.WAKE_COUNT + 1 ∧ evt t 2 ∧ frame t)

/-- The RTC's trim, its discipline and its oscillator (R400, R405, R409): a sample of AON_TEMP is recorded, and with the automatic trim on gives, once PERIOD has passed, the N of the
next window; SC corrects, each 60 s, a difference from TB2 of 2 to 32,767 units by a shift and a greater one by a set; a stopped oscillator makes the time invalid. -/
def Obligations.RtcTrimAndDiscipline : Prop :=
  ∀ s : State,
    (∀ t sec, bit (s.rd Reg.RTC.TRIM_CFG) 0 = false ∨ sec < Nat.max 1 (fld (s.rd Reg.RTC.TRIM_CFG) 8 8) →
      exec (.trimSample t sec) s = .next (s.wrFld Reg.PWR.AON_TEMP 0 16 t.toNat)) ∧
    (∀ c sec, bit (s.rd Reg.RTC.TRIM_CFG) 0 = true → Nat.max 1 (fld (s.rd Reg.RTC.TRIM_CFG) 8 8) ≤ sec → ∃ t, exec (.trimSample c sec) s = .next t ∧ t.rtc.trimTemp = c ∧
      -511 ≤ t.rtc.trimNext ∧ t.rtc.trimNext ≤ 511 ∧ fld (t.rd Reg.PWR.AON_TEMP) 0 16 = c.toNat ∧
      Notifies [11] [Reg.PWR.AON_TEMP, Reg.RTC.STICKY] { s with rtc := { s.rtc with trimNext := t.rtc.trimNext, trimTemp := c } } t) ∧
    (∀ sec, let d := s.rtcBehind
      60 ≤ sec → fld (s.rd (Reg.TB.LOCK 2)) 0 2 = 2 → s.proc 0 = 2 → s.dom 1 = 2 → 2 ≤ d.natAbs → d.natAbs ≤ 32767 → s.rtcPend = false →
      ∃ t, exec (.rtcDiscipline sec) s = .next t ∧ t.rtc = { s.rtc with shifts := [d] } ∧
        Writes [] [Reg.RTC.STATUS] { s with rtc := t.rtc } t ∧ bit (t.rd Reg.RTC.STATUS) 1 = true) ∧
    (∀ sec, let d := s.rtcBehind
      60 ≤ sec → fld (s.rd (Reg.TB.LOCK 2)) 0 2 = 2 → s.proc 0 = 2 → s.dom 1 = 2 → 32767 < d.natAbs →
      exec (.rtcDiscipline sec) s = .next { s with rtc := { s.rtc with lateSet := some d } }) ∧
    (∀ sec, sec < 60 ∨ s.rtcBehind.natAbs < 2 → exec (.rtcDiscipline sec) s = .next s) ∧
    (∃ t, exec .xtal32kFault s = .next t ∧ t.xtalOn = false ∧ bit (t.rd Reg.RTC.STATUS) 0 = false ∧ bit (t.blk 1).evtRaw 5 = true ∧
      (bit (s.rd Reg.RTC.STATUS) 0 = true → bit (t.blk 11).evtRaw 7 = true) ∧
      Notifies [1, 11] [Reg.PWR.CLK_STATE, Reg.RTC.STATUS] s t)

/-- INCR and ADJ (R111, R112): a permitted INCR_FRAC is staged, an INCR_INT in range applies INCR to the base and its followers at the next tick and one out of
range is refused whole, an ADJ queues a step for the base and its followers, and takes LOCK back to ACQUIRING where it is no whole number of reference periods (R118); a write that the source forbids is dropped and counted. -/
def Obligations.TimeBaseStaging : Prop :=
  ∀ (r : Requester) (n : Fin 4) (v : Word) (s : State),
    (s.passes r (Reg.TB.INCR_FRAC n) → s.mayIncr r n = true →
      exec (.incrFracWrite r n v) s = .next ((s.claimed (Reg.TB.INCR_FRAC n)).wr (Reg.TB.INCR_FRAC n) v)) ∧
    (s.passes r (Reg.TB.INCR_FRAC n) → s.mayIncr r n = false →
      exec (.incrFracWrite r n v) s = .next ((s.claimed (Reg.TB.INCR_FRAC n)).err (12 + n))) ∧
    (s.passes r (Reg.TB.INCR_INT n) → s.mayIncr r n = true →
      let x := v.toNat * 2 ^ 32 + (s.rd (Reg.TB.INCR_FRAC n)).toNat
      (0x1FFBE76C9 ≤ x → x ≤ 0x200418937 → ∃ t, exec (.incrIntWrite r n v) s = .next t ∧
        (∀ m ∈ s.tbGroup n, t.tb m = { s.tb m with newIncr := some x }) ∧ (∀ m, m ∉ s.tbGroup n → t.tb m = s.tb m) ∧
        t.rd (Reg.TB.INCR_INT n) = W (x / 2 ^ 32) ∧ (∀ p, t.blk p = s.blk p)) ∧
      (x < 0x1FFBE76C9 ∨ 0x200418937 < x → ∃ t, exec (.incrIntWrite r n v) s = .next t ∧ (∀ m, t.tb m = s.tb m) ∧
        Writes [12 + n.val] [Reg.TB.INCR_FRAC n] (s.claimed (Reg.TB.INCR_INT n)) t ∧
        (t.blk (12 + n)).errCnt = satInc (s.blk (12 + n)).errCnt)) ∧
    (s.passes r (Reg.TB.ADJ n) → s.mayAdj r n = true → v ≠ 0x80000000 → s.pulls r n v = false → ∃ t, exec (.adjWrite r n v) s = .next t ∧
      t = { s.claimed (Reg.TB.ADJ n) with tbs := t.tbs } ∧
      (∀ m ∈ s.tbGroup n, t.tb m = { s.tb m with steps := (s.tb m).steps ++ [v] }) ∧ (∀ m, m ∉ s.tbGroup n → t.tb m = s.tb m)) ∧
    (s.passes r (Reg.TB.ADJ n) → s.mayAdj r n = true → v ≠ 0x80000000 → s.pulls r n v = true → ∃ t, exec (.adjWrite r n v) s = .next t ∧
      (∀ m ∈ s.tbGroup n, (t.tb m).steps = (s.tb m).steps ++ [v]) ∧ (t.tb n).pull = true ∧
      (fld (s.rd (Reg.TB.LOCK n)) 0 2 = 2 → fld (t.rd (Reg.TB.LOCK n)) 0 2 = 1)) ∧
    (s.passes r (Reg.TB.ADJ n) → s.mayAdj r n = false ∨ v = 0x80000000 →
      exec (.adjWrite r n v) s = .next ((s.claimed (Reg.TB.ADJ n)).err (12 + n)))

/-- A tick of the time bases in which neither an RTC tick nor a second falls due (R109, R110, R112, R113, R123, R128): COUNT and SEC_PHASE advance by INCR, and one queued
step is added to them and to STEP_SUM and raises STEP; a change of bit 31 raises WRAP or HALF; a forward wrap of SEC_PHASE starts PPS_OUT, and a whole multiple of the frame period an LTC frame with the time of its base; a pending snap captures
every base at the new tick. That the command performs the tick is the model's choice (log entry 69). -/
def Obligations.TimeBaseTick : Prop :=
  ∀ s : State, (s.xtalOn = true → s.rtc.acc + 65536 < 1000000000) → s.secAcc + 2 < 1000000000 →
    (∀ (n : Fin 4) v l, s.tbRuns n = true → (s.tb n).snapTo = false → (s.tb n).steps = v :: l →
      let adv := ((s.tb n).frac + s.incrNow n) / 2 ^ 32
      ∃ t, exec (.tbStep n) s = .next t ∧ (t.tb n).count = (s.tb n).count + W adv + v ∧ (t.tb n).steps = l ∧
        (t.tb n).stepSum = (s.tb n).stepSum + v ∧ ((t.tb n).phase : Int) = ((s.tb n).phase + adv + v.toInt) % 1000000000 ∧
        (t.tb n).frac = ((s.tb n).frac + s.incrNow n) % 2 ^ 32 ∧ bit (t.blk (12 + n)).evtRaw 2 = true) ∧
    (∀ (n : Fin 4) l, s.tbRuns n = true → (s.tb n).snapTo = true → s.tbLeader n = some l →
      ∃ t, exec (.tbStep n) s = .next t ∧ (t.tb n).count = (t.tb l).count + s.rd (Reg.TB.FOLLOW_OFFSET n) ∧ (t.tb n).snapTo = false) ∧
    (∀ (n : Fin 4) p, s.nextTb n = some p → (s.tb n).count.getLsbD 31 = true → p.1.count.getLsbD 31 = false →
      ∃ t, exec (.tbWrap n) s = .next t ∧ t.tb n = p.1 ∧ bit (t.blk (12 + n)).evtRaw 0 = true) ∧
    (∀ (n : Fin 4) p, s.nextTb n = some p → (s.tb n).count.getLsbD 31 = false → p.1.count.getLsbD 31 = true →
      ∃ t, exec (.tbHalf n) s = .next t ∧ t.tb n = p.1 ∧ bit (t.blk (12 + n)).evtRaw 1 = true) ∧
    (∀ (n : Fin 4) p, s.nextTb n = some p → p.2 = true →
      ∃ t, exec (.secPhaseWrap n) s = .next t ∧ t.tb n = p.1 ∧ (s.outBase 0 = some n.val → t.ppsOut = true ∧ Emission.pps (s.ppsWidth n) ∈ t.outbox)) ∧
    (s.snapPend = true → s.tbClock = true →
      ∃ t, exec .snapCapture s = .next t ∧ t.snapPend = false ∧ ∀ n : Fin 4, t.rd (Reg.TB.SNAP_TIME n) = (t.tb n).count ∧
        t.rd (Reg.TB.SNAP_STEPS n) = (t.tb n).stepSum ∧
        fld (t.rd (Reg.TB.SNAP_SEQ n)) 0 16 = (fld (s.rd (Reg.TB.SNAP_SEQ n)) 0 16 + 1) % 65536) ∧
    (∀ (n : Fin 4) p k, s.nextTb n = some p → s.ltcStarts n (s.tb n).phase p.2 p.1.phase = some k →
      ∃ t, exec (.ltcOutFrame n) s = .next t ∧ t.tb n = p.1 ∧ Emission.ltc (State.ltcAddress p.1 k) ∈ t.outbox) ∧
    exec .ppsOutEnd s = .next { s with ppsOut := false }

/-- SRC and FOLLOW_OFFSET (R118, R119): a source that the base may not have is dropped and counted and SOURCE stays; FREE or HOST leaves LOCK at FREE; a follow source, like a
write of FOLLOW_OFFSET, steps the base to its leader at the next tick and copies its LOCK; another source starts the servo. PTP (R121): an Announce on the instance's port, over UDP, of its domain and at a supported rate is taken by the BMCA, and another is ignored; a master sends two-step Sync and
Announce and answers Delay_Req, and a slave sends Delay_Req, in egress queue 7 of the port. The module's own rank, and the lengths of the
messages, are presumed (log entries 21 and 120). -/
def Obligations.TimeBaseSources : Prop :=
  (∀ (r : Requester) (n : Fin 4) (v : Word) (s : State),
      (s.passes r (Reg.TB.SRC n) → sourceOk n (fld v 0 4) = false →
        ∃ t, exec (.srcWrite r n v) s = .next t ∧ t.tbSource n = s.tbSource n ∧ (t.blk (12 + n)).errCnt = satInc (s.blk (12 + n)).errCnt ∧ (∀ m, t.tb m = s.tb m) ∧
          (s.proc 2 ≠ 2 → Writes [12 + n.val] [Reg.TB.SRC n, Reg.SYS.JOURNAL_SEQ] (s.claimed (Reg.TB.SRC n)) t)) ∧
      (s.passes r (Reg.TB.SRC n) → sourceOk n (fld v 0 4) = true → fld v 0 4 ≠ s.tbSource n → fld v 0 4 < 2 →
        ∃ t, exec (.srcWrite r n v) s = .next t ∧ t.tbSource n = fld v 0 4 ∧ fld (t.rd (Reg.TB.LOCK n)) 0 2 = 0 ∧ (∀ m, t.tb m = s.tb m)) ∧
      (s.passes r (Reg.TB.SRC n) → sourceOk n (fld v 0 4) = true → fld v 0 4 ≠ s.tbSource n → 2 ≤ fld v 0 4 → fld v 0 4 ≠ 9 → fld v 0 4 ≠ 10 →
        ∃ t, exec (.srcWrite r n v) s = .next t ∧ t.tbSource n = fld v 0 4 ∧ (t.tb n).good = 0 ∧ (t.tb n).bad = 0 ∧
          (fld (s.rd (Reg.TB.LOCK n)) 0 2 = 0 → fld (t.rd (Reg.TB.LOCK n)) 0 2 = 1)) ∧
      (s.passes r (Reg.TB.FOLLOW_OFFSET n) → ∀ l, s.tbLeader n = some l →
        ∃ t, exec (.followOffsetWrite r n v) s = .next t ∧ t.rd (Reg.TB.FOLLOW_OFFSET n) = v ∧ (t.tb n).snapTo = true ∧
          fld (t.rd (Reg.TB.LOCK n)) 0 2 = fld (s.rd (Reg.TB.LOCK l)) 0 2) ∧
      (s.passes r (Reg.TB.FOLLOW_OFFSET n) → s.tbLeader n = none →
        ∃ t, exec (.followOffsetWrite r n v) s = .next t ∧ t.rd (Reg.TB.FOLLOW_OFFSET n) = v ∧
          Writes [] [Reg.TB.FOLLOW_OFFSET n, Reg.SYS.JOURNAL_SEQ] (s.claimed (Reg.TB.FOLLOW_OFFSET n)) t) ∧
      (s.passes r (Reg.TB.SNAP_REQ n) → bit v 0 = true →
        exec (.snapReq r n v) s = .next { s.claimed (Reg.TB.SNAP_REQ n) with snapPend := true })) ∧
  (∀ s : State,
      (∀ (b : Bool) (a : Announce), s.proc 0 = 2 → s.dom 1 = 2 → s.up (104 + s.ptpPort b) = true → a.port = s.ptpPort b → a.transport ≠ .ethernet →
        a.domain.toNat = s.ptpDomain b → -3 ≤ a.logInterval → a.logInterval ≤ 3 → (s.ptp b).best = none →
        exec (.ptpAnnounceRx b a) s = .next (s.setPtp b { s.ptp b with state := s.ptpDecide b (some a), best := some a })) ∧
      (∀ (b : Bool) (a : Announce), a.domain.toNat ≠ s.ptpDomain b ∨ a.transport = .ethernet ∨ a.port ≠ s.ptpPort b ∨ a.logInterval < -3 ∨ 3 < a.logInterval →
        exec (.ptpAnnounceRx b a) s = .next s) ∧
      (∀ b : Bool, s.proc 0 = 2 → s.dom 1 = 2 → s.up (104 + s.ptpPort b) = true →
        let port := s.ptpPort b
        let p := s.ptp b
        (s.ptpDecide b p.best = .master → ∃ t, exec (.ptpMessageTx b .sync) s = .next t ∧ s.sends t port 7 (.ptp b { s.ptpOut b 0 p.syncSeq (-3) with twoStep := true }) ∧
          (t.ptp b).syncSeq = p.syncSeq + 1 ∧ t.ptp (!b) = s.ptp (!b) ∧ t = { s with eths := t.eths, ptpA := t.ptpA, ptpB := t.ptpB }) ∧
        (s.ptpDecide b p.best = .master → ∃ t, exec (.ptpMessageTx b .announce) s = .next t ∧ s.sends t port 7 (.ptp b (s.ptpOut b 11 p.announceSeq (-2))) ∧
          (t.ptp b).announceSeq = p.announceSeq + 1 ∧ t = { s with eths := t.eths, ptpA := t.ptpA, ptpB := t.ptpB }) ∧
        (s.ptpDecide b p.best = .master → ∀ q k, ∃ t, exec (.ptpMessageTx b (.delayResp q k)) s = .next t ∧
          s.sends t port 7 (.ptp b { s.ptpOut b 9 k.toNat 0 with time := some (s.ptpTime b), req := q }) ∧ t = { s with eths := t.eths, ptpA := t.ptpA, ptpB := t.ptpB }) ∧
        (s.ptpDecide b p.best = .slave → ∃ t, exec (.ptpMessageTx b .delayReq) s = .next t ∧ s.sends t port 7 (.ptp b (s.ptpOut b 1 p.delaySeq 127)) ∧
          (t.ptp b).delaySeq = p.delaySeq + 1 ∧ t = { s with eths := t.eths, ptpA := t.ptpA, ptpB := t.ptpB })))

/-- The servo (R119): a measurement records OFFSET; at STEP_THRESH or beyond it steps the base by the negative, below it the base slews; three missing measurements put a
base that was ACQUIRING or LOCKED into HOLDOVER with SRC_LOST; a leap second steps TB2 and shifts the RTC (R120); a reference edge is captured in every running base, of REF10M_IN and WCLK_IN
only the first after each wrap of SEC_PHASE (R122; whose SEC_PHASE is the model's choice, log entry 107). A step that is being pulled back slews whatever its size (R118). The leap on every base is the model's reading (log entry 71). -/
def Obligations.ServoAndCaptures : Prop :=
  ∀ s : State,
    (∀ (n : Fin 4) (m : Measurement) (o : Int) (nom t0 : Nat), s.tbMeasured n = true → s.tbRuns n = true → s.proc 0 = 2 → s.measureOf n m = some (o, nom) →
      let thresh := clampN 1 65535 (fld (s.rd (Reg.TB.SERVO n)) 0 16) * 1000
      ∃ t, exec (.servoMeasurement n m t0) s = .next t ∧ t.rd (Reg.TB.OFFSET n) = satWord o ∧
        (thresh ≤ (satWord o).toInt.natAbs → (s.tb n).pull = false → (t.tb n).steps = (s.tb n).steps ++ [-(satWord o)] ∧ (t.tb n).newIncr = (s.tb n).newIncr) ∧
        ((satWord o).toInt.natAbs < thresh ∨ (s.tb n).pull = true → (t.tb n).steps = (s.tb n).steps ∧ (t.tb n).newIncr.isSome = true) ∧
        t.mode = s.mode ∧ t.rtc = s.rtc ∧ t.plan = s.plan) ∧
    (∀ n : Fin 4, s.tbMeasured n = true → fld (s.rd (Reg.TB.LOCK n)) 0 2 = 1 ∨ fld (s.rd (Reg.TB.LOCK n)) 0 2 = 2 →
      ∃ t, exec (.measurementTimeout n) s = .next t ∧ fld (t.rd (Reg.TB.LOCK n)) 0 2 = 3 ∧ bit (t.blk (12 + n)).evtRaw 4 = true ∧
        bit (t.blk (12 + n)).evtRaw 3 = true ∧ t.mode = s.mode ∧ t.rtc = s.rtc) ∧
    (s.proc 0 = 2 → s.dom 1 = 2 → s.rtcPend = false → ∃ t, exec (.leapSecond true) s = .next t ∧
      (t.tb 2).steps = (s.tb 2).steps ++ [BitVec.ofInt 32 (-1000000000)] ∧ t.rtc.shifts = [-32768]) ∧
    (s.proc 0 = 2 → s.dom 1 = 2 → s.rtcPend = false → ∃ t, exec (.leapSecond false) s = .next t ∧
      (t.tb 2).steps = (s.tb 2).steps ++ [BitVec.ofInt 32 1000000000] ∧ t.rtc.shifts = [32767, 1]) ∧
    (∀ (k : Fin 5) (code user : Word), s.tbClock = true → k.val = 1 ∨ k.val = 3 → s.capArm.contains k.val = false → exec (.refEdgeCapture k code user) s = .next s) ∧
    (∀ (k : Fin 5) (code user : Word), s.tbClock = true → (k.val = 1 ∨ k.val = 3 → s.capArm.contains k.val = true) → ∃ t, exec (.refEdgeCapture k code user) s = .next t ∧
      (∀ n : Fin 4, s.tbRuns n = true → t.rd (Reg.TB.CAP n k) = (s.tb n).count ∧
        (k.val = 4 → t.rd (Reg.TB.LTC_CODE_LO n) = code ∧ t.rd (Reg.TB.LTC_CODE_HI n) = user)) ∧ t.capArm.contains k.val = false ∧
      t = { s with regs := t.regs, tbs := t.tbs, capArm := t.capArm, refEdges := t.refEdges })

/-- The reads that latch (R114, R399, R473): a read of TIME, SUBSEC or IMP_LO gives its value and latches for its requester alone the words that belong to the same
instant. -/
def Obligations.ReadsThatLatch : Prop :=
  ∀ (r : Requester) (s : State),
    (s.reads r Reg.RTC.SUBSEC → ∃ t, exec (.subsecRead r) s = .next t ∧
      t = { s with rtc := { s.rtc with latch := t.rtc.latch }, outbox := s.outbox ++ [Emission.read r Reg.RTC.SUBSEC (W (s.rtc.time % 32768))] } ∧
      Sparse.get (fun _ => 0) t.rtc.latch (4 * reqIdx r) = timeWord s.rtcSec ∧ Sparse.get (fun _ => 0) t.rtc.latch (4 * reqIdx r + 1) = dateWord s.rtcSec ∧
      Sparse.get (fun _ => 0) t.rtc.latch (4 * reqIdx r + 2) = W s.rtcSec ∧ Sparse.get (fun _ => 0) t.rtc.latch (4 * reqIdx r + 3) = W (s.rtcSec / 2 ^ 32) ∧
      ∀ k, k / 4 ≠ reqIdx r → Sparse.get (fun _ => (0 : Word)) t.rtc.latch k = Sparse.get (fun _ => 0) s.rtc.latch k) ∧
    (∀ n : Fin 4, s.reads r (Reg.TB.TIME n) → ∃ t, exec (.timeRead r n) s = .next t ∧
      t = { s with tbs := t.tbs, outbox := s.outbox ++ [Emission.read r (Reg.TB.TIME n) (s.tb n).count] } ∧
      t.tb n = { s.tb n with latch := (t.tb n).latch } ∧ Sparse.get (fun _ => 0) (t.tb n).latch (reqIdx r) = (s.tb n).stepSum ∧
      (∀ k, k ≠ reqIdx r → Sparse.get (fun _ => (0 : Word)) (t.tb n).latch k = Sparse.get (fun _ => 0) (s.tb n).latch k) ∧
      ∀ m, m ≠ n.val → t.tb m = s.tb m) ∧
    (∀ p : Fin 3, s.reads r (Reg.MTR.IMP_LO p) → ∃ t, exec (.impLoRead r p) s = .next t ∧
      t = { s with mtrLatch := t.mtrLatch, outbox := s.outbox ++ [Emission.read r (Reg.MTR.IMP_LO p) (s.rd (Reg.MTR.IMP_LO p))] } ∧
      (∀ k, k < 26 → Sparse.get (fun _ => 0) t.mtrLatch (64 * reqIdx r + k) = s.rd (Reg.MTR.IMP_LO 0 + 4 * k)) ∧
      ∀ k, k / 64 ≠ reqIdx r → Sparse.get (fun _ => (0 : Word)) t.mtrLatch k = Sparse.get (fun _ => 0) s.mtrLatch k)

/-- The supply's reports (R467, R470, R485): an input below BROWNOUT is a brown-out, which counts and reports and changes nothing else, once until the input has risen 5 V above it; VBAT below 2.2 V reads low, and with mains good raises PSU event bit 3;
a rail whose current passes its limit switches off and latches, and AUX_CLEAR ends the latch. The meter while the module is awake (R471, R473, R484): measured phases take their readings, corrected by the calibration in force, and an over-current raises event 0; energy of 10 ms is added to the import
or the export of each phase and, imported, to the total; an interval without metering is a gap, counted once; energy is made durable by a journal record. The repetition of the meter's events and what a correction computes are the model's choice (log entries 52 and 125). -/
def Obligations.SupplyAndMeter : Prop :=
  (∀ s : State,
      (∀ rms : BitVec 16, s.mainsOn = true → bit (s.rd Reg.PSU.STATUS) 2 = false → rms.toNat < s.brownoutAt →
        ∃ t, exec (.brownout rms) s = .next t ∧ bit (t.rd Reg.PSU.STATUS) 2 = true ∧
        t.rd Reg.PSU.BROWNOUT_CNT = satInc (s.rd Reg.PSU.BROWNOUT_CNT) ∧ bit (t.blk 31).evtRaw 1 = true ∧
        Notifies [31] [Reg.PSU.STATUS, Reg.PSU.BROWNOUT_CNT] s t) ∧
      (∀ rms : BitVec 16, bit (s.rd Reg.PSU.STATUS) 2 = true → s.brownoutAt + 50 < rms.toNat → ∃ t, exec (.brownout rms) s = .next t ∧
        bit (t.rd Reg.PSU.STATUS) 2 = false ∧ Writes [] [Reg.PSU.STATUS] s t) ∧
      (∀ rms : BitVec 16, bit (s.rd Reg.PSU.STATUS) 2 = false ∧ s.brownoutAt ≤ rms.toNat ∨ bit (s.rd Reg.PSU.STATUS) 2 = true ∧ rms.toNat ≤ s.brownoutAt + 50 →
        exec (.brownout rms) s = .next s) ∧
      (∀ mv : BitVec 16, ∃ t, exec (.vbatSample mv) s = .next t ∧ t.rd Reg.PSU.VBAT = W mv.toNat ∧ (bit (t.rd Reg.PSU.STATUS) 7 = true ↔ mv.toNat < 2200) ∧
        (mv.toNat < 2200 → s.mainsOn = true → bit (t.blk 31).evtRaw 3 = true) ∧
        (2200 ≤ mv.toNat ∨ s.mainsOn = false → t.blk 31 = s.blk 31) ∧ Notifies [31] [Reg.PSU.VBAT, Reg.PSU.STATUS] s t) ∧
      (∀ (b : Bool) (ma : Nat), ma ≤ s.auxLimit (b2n b) → exec (.auxOverload b ma) s = .next s) ∧
      (∀ (b : Bool) (ma : Nat), bit (s.rd Reg.PSU.STATUS) (3 + b2n b) = true → s.auxLimit (b2n b) < ma → ∃ t, exec (.auxOverload b ma) s = .next t ∧
        bit (t.rd Reg.PSU.STATUS) (3 + b2n b) = false ∧ bit (t.rd Reg.PSU.STATUS) (5 + b2n b) = true ∧ bit (t.blk 31).evtRaw 2 = true ∧
        Notifies [31] [Reg.PSU.STATUS] s t) ∧
      (∀ (r : Requester) (v : Word), s.passes r Reg.PSU.AUX_CLEAR → ∃ t, exec (.auxClear r v) s = .next t ∧
        bit (t.rd Reg.PSU.STATUS) 5 = (bit (s.rd Reg.PSU.STATUS) 5 && !bit v 0) ∧ bit (t.rd Reg.PSU.STATUS) 6 = (bit (s.rd Reg.PSU.STATUS) 6 && !bit v 1) ∧
        (s.mode ≠ .cold → s.mode ≠ .doze → bit (t.rd Reg.PSU.STATUS) 3 = (bit (s.rd Reg.PSU.CFG) 8 && !bit (t.rd Reg.PSU.STATUS) 5)) ∧
        Writes [] [Reg.PSU.STATUS] (s.claimed Reg.PSU.AUX_CLEAR) t)) ∧
  (∀ s : State, s.awake →
      (∀ (m : Fin 3 → PhaseReading) (f : BitVec 16) (rot : Bool) (die : BitVec 16), s.metering = true →
        let x := fun p : Fin 3 => s.mtrReadingOf p (m p) die.toInt
        ∃ t, exec (.mtrReadingUpdate (m 0) (m 1) (m 2) f rot die) s = .next t ∧
        (∀ p : Fin 3, p.val < s.mtrPhases → t.rd (Reg.MTR.V_RMS p) = (x p).vRms ∧ t.rd (Reg.MTR.I_RMS p) = (x p).iRms ∧ t.rd (Reg.MTR.P p) = (x p).p ∧
          t.rd (Reg.MTR.Q p) = (x p).q ∧ t.rd (Reg.MTR.S p) = (x p).s ∧ bit (t.rd Reg.MTR.STATUS) p = decide (40000 ≤ (x p).vRms.toNat) ∧
          ((s.rd Reg.MTR.OC_THRESH).toNat < (x p).iRms.toNat → bit (t.blk 30).evtRaw 0 = true)) ∧
        t.rd Reg.MTR.FREQ = W f.toNat ∧ bit (t.rd Reg.MTR.STATUS) 3 = rot ∧ (∀ p, p ≠ 30 → t.blk p = s.blk p)) ∧
      (∀ (active reactive : List Int) (die : BitVec 16), s.metering = true →
        let e := fun p => s.mtrEnergyOf p active reactive die.toInt
        ∃ t, exec (.mtrEnergyUpdate active reactive die) s = .next t ∧
        (∀ p : Fin 3, p.val < s.mtrPhases →
          t.energy (Reg.MTR.IMP_LO p) = (s.energy (Reg.MTR.IMP_LO p) + (e p).1.toNat) % 2 ^ 64 ∧
          t.energy (Reg.MTR.EXP_LO p) = (s.energy (Reg.MTR.EXP_LO p) + (-(e p).1).toNat) % 2 ^ 64 ∧
          t.energy (Reg.MTR.QIMP_LO p) = (s.energy (Reg.MTR.QIMP_LO p) + (e p).2.toNat) % 2 ^ 64 ∧
          t.energy (Reg.MTR.QEXP_LO p) = (s.energy (Reg.MTR.QEXP_LO p) + (-(e p).2).toNat) % 2 ^ 64) ∧
        t.energy Reg.MTR.TOTAL_LO = (s.energy Reg.MTR.TOTAL_LO + ((List.range s.mtrPhases).map (fun p => (e p).1.toNat)).sum) % 2 ^ 64 ∧
        bit (t.rd Reg.MTR.STATUS) 4 = false ∧ t = { s with regs := t.regs, lossFrom := t.lossFrom, feedMarks := t.feedMarks }) ∧
      (∀ (active reactive : List Int) (die : BitVec 16), s.metering = false → bit (s.rd Reg.MTR.STATUS) 4 = false → ∃ t, exec (.mtrEnergyUpdate active reactive die) s = .next t ∧
        bit (t.rd Reg.MTR.STATUS) 4 = true ∧ t.rd Reg.MTR.GAPS = satInc (s.rd Reg.MTR.GAPS) ∧ bit (t.blk 30).evtRaw 3 = true ∧
        Notifies [30] [Reg.MTR.STATUS, Reg.MTR.GAPS] { s with lossFrom := t.lossFrom, feedMarks := t.feedMarks } t) ∧
      ∃ t, exec .mtrEnergyPersist s = .next t ∧ t.rd Reg.SYS.JOURNAL_SEQ = s.rd Reg.SYS.JOURNAL_SEQ + 1 ∧ Writes [] [Reg.SYS.JOURNAL_SEQ] s t)

/-- An AON power-on, and the loss of AON's state without mains (R10, R43, R49, R62, R400): everything but what fuses, flash and MRAM hold is as after reset. The cause is AON_POR
alone, the mode COLD, the domains off, the RTC at its first values; the plan, the registry, the fuses, the wrapped keys, the clips, the images and the fault
log stay. The starts of the module (R49, R53, R54, R62, R414, R434, R445, R467, R487): a good mains, which waits for MRST_N while it is low and for the thermal restart after a thermal stop, the release of MRST_N, RESET_REQ, a restart after a thermal stop and an RTC wake
from a COLD by command lead to BRINGUP, or with a latched tamper, a lost root or a failed boot to HOLD with its cause; the bring-up then has its steps to do. What a start without operands finds, and the domains at once, are the model's choices (log entries 18, 67, 68, 97). -/
def Obligations.ModuleStarts : Prop :=
  (∀ (s : State) (c : Instr), (∃ k, c = .aonPowerOn k) ∨ (c = .aonStateLoss ∧ s.mainsOn = false) →
      ∃ t, exec c s = .next t ∧ t.mode = .cold ∧ t.rd Reg.SYS.RESET_CAUSE = 1 ∧ (∀ d, 1 ≤ d → d < 5 → t.dom d = 0) ∧ t.mainsOn = false ∧ t.trans = none ∧
        t.rtc.time = 0 ∧ bit (t.rd Reg.RTC.STATUS) 0 = false ∧
        t.plan = s.plan ∧ t.registry = s.registry ∧ t.fuseRows = s.fuseRows ∧ t.clips = s.clips ∧ t.images = s.images ∧ t.faults = s.faults ∧
        t.pending = s.pending ∧ s.outbox <+: t.outbox) ∧
  (∀ (s : State),
      let started := fun t : State => t.mode = .bringup ∨ (t.mode = .hold ∧ (t.holdCause = 2 ∨ t.holdCause = 3))
      (∀ i, s.mainsOn = false → s.mode = .cold → s.mrstLow = false → s.coldThermal = false → ∃ t, exec (.mainsGood i) s = .next t ∧ started t) ∧
      (∀ i, s.mainsOn = false → s.mode = .cold → s.mrstLow = true → s.coldThermal = false →
        ∃ t, exec (.mainsGood i) s = .next t ∧ t.startWait = some 6 ∧ t.mainsOn = true ∧ t.prevMode = .cold ∧ bit (t.blk 0).evtRaw 0 = true ∧
          (s.rd Reg.TAMP.LATCH = 0 → t.mode = .bringup) ∧ (s.rd Reg.TAMP.LATCH ≠ 0 → t.mode = .hold ∧ t.holdCause = 2) ∧ ∀ p : Nat, t.code p = s.code p) ∧
      (∀ i, s.mainsOn = false → s.mode = .cold → s.coldThermal = true → bit (s.rd Reg.SYS.BOOT_CFG) 4 = true → 800 < sfld (s.rd Reg.PWR.AON_TEMP) 0 16 → s.rd Reg.TAMP.LATCH = 0 →
        ∃ t, exec (.mainsGood i) s = .next t ∧ t.mainsOn = true ∧ Writes [] [Reg.PSU.STATUS] { s with failSeq := false, causeWait := s.causeWait ||| 2 } t) ∧
      (∀ i c, s.startWait = some c → ∃ t, exec (.mrstRelease i) s = .next t ∧ started t) ∧
      (∀ i, s.startWait = none → exec (.mrstRelease i) s = .next { s with mrstLow := false }) ∧
      (∀ r i, s.passes r Reg.SYS.RESET_REQ → s.mainsOn = true → s.failSeq = false → ∃ t, exec (.resetReqModule r i) s = .next t ∧ started t) ∧
      (∀ c i, s.mode = .cold → s.coldThermal = true → s.mainsOn = true → c.toInt ≤ 800 → bit (s.rd Reg.SYS.BOOT_CFG) 4 = true →
        ∃ t, exec (.thermalRestart c i) s = .next t ∧ started t) ∧
      (∀ src : Fin 9, bit (s.rd Reg.SYS.WAKE_EN) src = true → s.mode = .cold → s.trans = none → s.coldCmd = true → s.mainsOn = true → src.val < 3 →
        ∃ t, exec (.wake src) s = .next t ∧ started t))

/-- The end of bring-up (R49, R53, R487): DRAM training succeeds or leads to HOLD (DRAM_FAIL); the processors then run, EV002 is raised, at a start into HOLD (TAMPER) once no block is left STARTING, and BRINGUP gives way to the boot mode:
BOOT_CFG's with BOOT_SEL at 0, else SERVICE. The end of a requested transition and a wake in DOZE (R46, R50, R54, R67, R69): MODE takes the mode that was requested and RESULT reads done; an enabled wake source sets its WAKE_CAUSE bit,
restarts the oscillator and begins the way back to the mode DOZE was entered from. What a wake's start finds is the model's choice (log entries 18, 57, 64). -/
def Obligations.TransitionsEnd : Prop :=
  (∀ s : State, s.starting = true →
      exec (.dramTrainingDone true) s = .next { s with dramOk := true } ∧
      (∃ t, exec (.dramTrainingDone false) s = .next t ∧ t.mode = .hold ∧ (s.mode ≠ .hold → t.holdCause = 4)) ∧
      (s.startWait = none → ∃ t, exec .bringupEnd s = .next t ∧ t.starting = false ∧ (¬ (s.mode = .hold ∧ s.holdCause = 2) → bit (t.blk 0).evtRaw 2 = true) ∧
        (s.mode = .hold → s.holdCause = 2 → ((∃ pg ∈ allPages, s.code pg = 1) → t.ev2Wait = true) ∧ ((∀ pg ∈ allPages, s.code pg ≠ 1) → bit (t.blk 0).evtRaw 2 = true)) ∧
        (∀ p, 1 ≤ p → p ≤ 3 → s.proc p = 1 → t.proc p = 2) ∧
        t.mode = (if s.mode = .bringup then (modeOf (if fld (s.rd Reg.SYS.BOOT_SEL) 0 2 = 0 then fld (s.rd Reg.SYS.BOOT_CFG) 0 4 else 6)).getD .service else s.mode))) ∧
  (∀ s : State,
      (∀ m, s.trans = some m → s.mode ≠ .doze → s.dom 1 ≠ 1 → ∃ t, exec .modeTransitionDone s = .next t ∧ t.mode = m ∧
        (m ≠ .doze → t.trans = none) ∧ (m = .hold → t.holdCause = 1) ∧ (m = .cold → t.coldCmd = true ∧ ∀ d, 1 ≤ d → d < 5 → t.dom d = 0)) ∧
      (∀ src : Fin 9, bit (s.rd Reg.SYS.WAKE_EN) src = true → s.mode = .doze → s.trans = none → ∃ t, exec (.wake src) s = .next t ∧
        t.trans = some s.dozeFrom ∧ bit (t.rd Reg.SYS.WAKE_CAUSE) src = true ∧ bit (t.rd Reg.PWR.CLK_STATE) 0 = true ∧ t.mode = .doze ∧
        (s.dom 1 = 3 → t.dom 1 = 1) ∧ t.plan = s.plan ∧ t.pending = s.pending))

/-- A request for a mode (R49, R50, R52, R64, R68, R69): an allowed one is accepted with RESULT 3 and a transition to it is in progress; one that the mode, the zones, the
ports or a running transition forbids is refused with its cause and EV001; FP's request for DOZE, which it makes
while the next scheduled event is at least MIN_SLEEP away and for which it sets alarm 1, is an ordinary one. -/
def Obligations.ModeRequests : Prop :=
  ∀ (r : Requester) (v : Word) (s : State), s.passes r Reg.SYS.MODE_REQ →
    (∀ m, modeOf (fld v 0 4) = some m → s.modeRefusal m = 0 → ¬ (m = .hold ∧ s.mode = .hold) →
      ∃ t, exec (.modeReq r v) s = .next t ∧ t.trans = some m ∧ fld (t.rd Reg.SYS.MODE_STATUS) 4 2 = 3 ∧ fld (t.rd Reg.SYS.MODE_STATUS) 0 4 = modeCode m ∧
        t.holdCause = s.holdCause ∧ Writes [] [Reg.SYS.MODE_STATUS] { s.claimed Reg.SYS.MODE_REQ with trans := some m, wakeSeen := false } t) ∧
    (∀ m, modeOf (fld v 0 4) = some m → s.modeRefusal m ≠ 0 →
      ∃ t, exec (.modeReq r v) s = .next t ∧ t.trans = s.trans ∧ fld (t.rd Reg.SYS.MODE_STATUS) 8 8 = s.modeRefusal m % 256 ∧ bit (t.blk 0).evtRaw 1 = true ∧
        (s.trans = none → fld (t.rd Reg.SYS.MODE_STATUS) 4 2 = 2) ∧ Notifies [0] [Reg.SYS.MODE_STATUS] (s.claimed Reg.SYS.MODE_REQ) t) ∧
    (modeOf (fld v 0 4) = none → s.trans = none → ∃ t, exec (.modeReq r v) s = .next t ∧ fld (t.rd Reg.SYS.MODE_STATUS) 8 8 = 1 ∧
        fld (t.rd Reg.SYS.MODE_STATUS) 4 2 = 2 ∧ bit (t.blk 0).evtRaw 1 = true ∧ Notifies [0] [Reg.SYS.MODE_STATUS] (s.claimed Reg.SYS.MODE_REQ) t) ∧
    (modeOf (fld v 0 4) = some .hold → s.mode = .hold → s.trans = none → ∃ t, exec (.modeReq r v) s = .next t ∧ fld (t.rd Reg.SYS.MODE_STATUS) 4 2 = 1 ∧
        Writes [] [Reg.SYS.MODE_STATUS] (s.claimed Reg.SYS.MODE_REQ) t) ∧
    ((s.mode = .fleet ∨ s.mode = .grow) → bit (s.rd Reg.SYS.DOZE_CFG) 1 = true → s.proc 2 = 2 → s.modeRefusal .doze = 0 →
      clampN 1 65535 (fld (s.rd Reg.SYS.DOZE_CFG) 16 16) ≤ (s.rd Reg.SCH.NEXT_CHANGE).toNat →
      ∃ t, exec .dozeAutoRequest s = .next t ∧ t.trans = some .doze ∧
        (s.rd Reg.SCH.NEXT_CHANGE = 0xFFFFFFFF → Writes [] [Reg.SYS.MODE_STATUS] { s with trans := some .doze, wakeSeen := false } t) ∧
        (s.rd Reg.SCH.NEXT_CHANGE ≠ 0xFFFFFFFF → t.rd (Reg.RTC.ALM_DATE 1) = dateWord (s.rtcSec + (s.rd Reg.SCH.NEXT_CHANGE).toNat) ∧
          Writes [] [Reg.SYS.MODE_STATUS, Reg.RTC.ALM_TIME 1, Reg.RTC.ALM_DATE 1, Reg.RTC.ALM_STATUS 1] { s with trans := some .doze, wakeSeen := false, rtc := t.rtc } t)) ∧
    ((s.rd Reg.SCH.NEXT_CHANGE).toNat < clampN 1 65535 (fld (s.rd Reg.SYS.DOZE_CFG) 16 16) → exec .dozeAutoRequest s = .next s)

/-- The forced stops (R36, R42, R49, R51, R56, R62, R63, R466): a power-fail warning and a die at 125 degC lead to COLD with every domain but AON off; AON changes over to VBAT without mains; MRST_N
low stops the module until it is released; the 115 degC warning is raised once. That a latched tamper shows as HOLD while MRST_N is low is the model's
reading (log entry 97). -/
def Obligations.ForcedStops : Prop :=
  ∀ s : State,
    (∃ t, exec .powerFailWarning s = .next t ∧ t.mode = .cold ∧ t.burnArmed = false ∧ t.failSeq = true ∧
      (s.mode ≠ .cold → ∀ d, 1 ≤ d → d < 5 → t.dom d = 0) ∧
      t.rd Reg.PSU.PFW_CNT = satInc (s.rd Reg.PSU.PFW_CNT) ∧ t.mainsOn = false ∧ bit (t.blk 31).evtRaw 0 = true) ∧
    (∀ h : Word, s.mainsOn = false → bit (s.rd Reg.PSU.STATUS) 8 = false → ∃ t, exec (.vbatChangeover h) s = .next t ∧ t.rd Reg.PSU.HOLDUP_LAST = h ∧
      bit (t.rd Reg.PSU.STATUS) 8 = true ∧ t.proc 0 = 0 ∧ t.code 0 = 0 ∧ t.code 30 = 0 ∧ t.mode = s.mode) ∧
    (s.mainsOn = true → s.failSeq = false → ∃ t, exec .mrstAssert s = .next t ∧ t.startWait = some 4 ∧ t.mrstLow = true ∧
      (s.rd Reg.TAMP.LATCH = 0 → t.mode = .bringup) ∧ (s.rd Reg.TAMP.LATCH ≠ 0 → t.mode = .hold ∧ t.holdCause = 2) ∧ (s.mode ≠ t.mode → t.prevMode = s.mode) ∧
      (s.mode ≠ .cold → ∀ d, 1 ≤ d → d < 5 → t.dom d = 0) ∧ bit (t.blk 0).evtRaw 0 = true) ∧
    (s.mainsOn = false → exec .mrstAssert s = .next { s with mrstLow := true }) ∧
    (∀ c : BitVec 16, 1000 ≤ c.toInt → s.mode ≠ .cold → ∃ t, exec (.thermalStop c) s = .next t ∧ t.mode = .cold ∧ t.coldThermal = true ∧
      bit (t.rd Reg.SYS.RESET_CAUSE) 4 = true ∧ ∀ d, 1 ≤ d → d < 5 → t.dom d = 0) ∧
    (∀ c : BitVec 16, 920 ≤ c.toInt → s.dieWarned = false → ∃ t, exec (.dieTempWarning c) s = .next t ∧ t.dieWarned = true ∧
      bit (t.blk 1).evtRaw 2 = true ∧ fld (t.rd Reg.PWR.DIE_TEMP) 0 16 = c.toNat ∧ Notifies [1] [Reg.PWR.DIE_TEMP] { s with dieWarned := true } t) ∧
    (∀ c : BitVec 16, c.toInt < 880 → ∃ t, exec (.dieTempWarning c) s = .next t ∧ t.dieWarned = false ∧ Writes [] [Reg.PWR.DIE_TEMP] { s with dieWarned := false } t)

/-- The clocks (R44, R45, R49): a PLL that loses lock counts, reports and holds the blocks it feeds, one that fails to lock takes them to FAULT, and its lock returns them; a fault of the HF
oscillator stops every PLL and leads to HOLD (CLOCK); its restart sets CLK_STATE.HF. Rails and the PCIe link (R59, R73, R97, R101, R479, R485): a rail fault faults the supervised domains it serves, with every block in them, and leads to HOLD (SUPPLY); PERST_N's rise restarts HIF and the link, which
answers configuration requests with a retry; a change of the link shows in
LINK_STATUS and raises HIF event bit 2; WAKE_N's pulse ends. -/
def Obligations.ClocksRailsAndLink : Prop :=
  (∀ s : State,
      (∀ p : Pll, bit (s.rd Reg.PWR.CLK_STATE) (pllBit p) = true → ∃ t, exec (.pllLockLoss p) s = .next t ∧ bit (t.rd Reg.PWR.CLK_STATE) (pllBit p) = false ∧
        t.rd Reg.PWR.PLL_LOSS = satInc (s.rd Reg.PWR.PLL_LOSS) ∧ bit (t.blk 1).evtRaw 3 = true ∧
        (∀ pg ∈ allPages, pg ≠ 27 → (feeds pg).contains (pllBit p) = true → s.code pg = 2 → t.code pg = 6) ∧ t.mode = s.mode) ∧
      (∀ p : Pll, bit (s.rd Reg.PWR.CLK_STATE) (pllBit p) = false → bit (s.rd Reg.PWR.CLK_STATE) 0 = true → s.calRun = none →
        ∃ t, exec (.pllLockTimeout p) s = .next t ∧
        (∀ pg ∈ allPages, (feeds pg).contains (pllBit p) = true → s.code pg ≠ 0 → t.code pg = 7) ∧ t.mode = s.mode) ∧
      (∀ p : Pll, bit (s.rd Reg.PWR.CLK_STATE) 0 = true → ∃ t, exec (.pllLock p) s = .next t ∧ bit (t.rd Reg.PWR.CLK_STATE) (pllBit p) = true ∧
        (∀ pg ∈ allPages, pg ≠ 27 → s.code pg = 6 → (s.blk pg).hold = false →
          (∀ b ∈ feeds pg, b = pllBit p ∨ bit (s.rd Reg.PWR.CLK_STATE) b = true) → t.code pg = 2) ∧ t.mode = s.mode) ∧
      (∀ x, s.mode ≠ .cold → s.mode ≠ .doze → ∃ t, exec (.hfOscFault x) s = .next t ∧ t.mode = .hold ∧ bit (t.rd Reg.PWR.CLK_STATE) 0 = false ∧
        (∀ p : Pll, bit (t.rd Reg.PWR.CLK_STATE) (pllBit p) = false) ∧ (s.mode ≠ .hold → t.holdCause = 6)) ∧
      (s.mode ≠ .cold → ∃ t, exec (.hfOscRetry true) s = .next t ∧ bit (t.rd Reg.PWR.CLK_STATE) 0 = true ∧ Writes [] [Reg.PWR.CLK_STATE] s t)) ∧
  (∀ s : State,
      (∀ (rail : Fin 8) (mv : BitVec 16), s.mode ≠ .cold → s.mode ≠ .doze → (∃ d ∈ railDomains rail, 1 ≤ s.dom d ∧ s.dom d ≤ 3) →
        ∃ t, exec (.railFault rail mv) s = .next t ∧ t.mode = .hold ∧ (s.mode ≠ .hold → t.holdCause = 7) ∧
          (∀ d ∈ railDomains rail, 1 ≤ s.dom d → s.dom d ≤ 3 → t.dom d = 4 ∧ (∀ pg ∈ domainPages d, t.code pg = 7) ∧
            (s.code 1 ≠ 4 → bit (t.rd Reg.PWR.DOMAIN_FAULT) d = true))) ∧
      (∀ (rail : Fin 8) (mv : BitVec 16), (∀ d ∈ railDomains rail, s.dom d = 0 ∨ 3 < s.dom d) → exec (.railFault rail mv) s = .next s) ∧
      (∀ (speed : BitVec 4) (width : BitVec 6) (cfg : List (Fin 1024)), s.dom 1 = 2 → s.faultLocked 3 = false → (s.blk 3).enable = true →
        ∃ t, exec (.perstDeassert speed width cfg) s = .next t ∧ t.code 3 = 1 ∧ (∀ c ∈ cfg, Emission.pcieRetry c.val ∈ t.outbox) ∧
        t.rd Reg.HIF.LINK_STATUS = State.linkWord true speed width 0 ∧ t.mode = s.mode) ∧
      (∀ up speed width pm, State.linkWord up speed width pm ≠ s.rd Reg.HIF.LINK_STATUS → ∃ t, exec (.pcieLinkChange up speed width pm) s = .next t ∧
        t.rd Reg.HIF.LINK_STATUS = State.linkWord up speed width pm ∧ bit (t.blk 3).evtRaw 2 = true ∧ Notifies [3] [Reg.HIF.LINK_STATUS] s t) ∧
      exec .wakeNPulseEnd s = .next { s with wakeN := false })

/-- A plan commit (R16, R18, R19, R21, R35, R201, R202): when PP's three checks pass, FE takes the plan whole at COMMIT_AT, or else at the earliest instant, that is not late: it is durable, the old plan is kept for the frames before PT_c, and every
plan-coupled block that is not OFF shows SWAP_PEND. A plan that a check fails, and a commit that FE finds late, pending or in HOLD, changes neither plan. The swap of a plan (R17, R19, R86, R183, R201): each plan-coupled page flips once, when an item of the new epoch has entered it or at the end; when no old work is left the old plan retires, SWAP_PEND clears everywhere, COMMIT_STATUS reads
done and FE event bit 2 is raised. The earliest PT_c is the model's reading (log entries 27 and 28). -/
def Obligations.PlansCommitAndSwap : Prop :=
  (∀ s : State,
      let taken := fun (t : State) (pt : Word) => t.plan = s.candidate ∧ t.planOld = some s.plan ∧ t.ptc = s.extOf 0 pt ∧ t.ptc1 = s.extOf 1 (pt + s.tb10) ∧ t.flipped = [] ∧
        fld (t.rd Reg.FE.COMMIT_STATUS) 0 3 = 1 ∧ t.rd Reg.FE.COMMIT_PT = pt ∧ t.rd Reg.SYS.JOURNAL_SEQ = s.rd Reg.SYS.JOURNAL_SEQ + 1 ∧
        ∀ pg ∈ allPages, planCoupled pg = true → s.code pg ≠ 0 → (t.blk pg).swapPend = true
      (s.proc 1 = 2 → s.mode ≠ .hold → s.mode ≠ .cold → s.failSeq = false → s.feUp = true → s.feBlocked = false → (s.planChecks s.candidate).2 = true →
        bit (s.rd Reg.FE.COMMIT_AT_CTL) 0 = true → s.planOld = none → s.commitLate (s.rd Reg.FE.COMMIT_AT) = false →
        ∃ t, exec .planCommit s = .next t ∧ taken t (s.rd Reg.FE.COMMIT_AT)) ∧
      (s.proc 1 = 2 → s.mode ≠ .hold → s.mode ≠ .cold → s.failSeq = false → s.feUp = true → s.feBlocked = false → (s.planChecks s.candidate).2 = true →
        bit (s.rd Reg.FE.COMMIT_AT_CTL) 0 = false → s.planOld = none → s.commitLate s.earliestPt = false →
        ∃ t, exec .planCommit s = .next t ∧ taken t s.earliestPt) ∧
      (s.proc 1 = 2 → s.mode ≠ .hold → s.mode ≠ .cold → s.failSeq = false → s.feUp = true → s.feBlocked = false → (s.planChecks s.candidate).2 = false →
        ∃ t, exec .planCommit s = .next t ∧ t.plan = s.plan ∧ t.planOld = s.planOld ∧
          Notifies [23, 18, 19] [Reg.DMK.ZONE_CHECK, Reg.MAP.CHECK, Reg.CLR.CHECK] s t ∧
          t.rd Reg.DMK.ZONE_CHECK = zoneCheck s.candidate ∧ t.rd Reg.MAP.CHECK = s.mapCheck s.candidate ∧ t.rd Reg.CLR.CHECK = s.clrCheck s.candidate) ∧
      (∀ r v, s.passes r Reg.FE.COMMIT_GO → bit v 0 = true → s.commitResult (s.rd Reg.FE.COMMIT_PT) = 1 →
        ∃ t, exec (.commitGo r v) s = .next t ∧ taken t (s.rd Reg.FE.COMMIT_PT)) ∧
      (∀ r v, s.passes r Reg.FE.COMMIT_GO → bit v 0 = true → s.commitResult (s.rd Reg.FE.COMMIT_PT) ≠ 1 →
        ∃ t, exec (.commitGo r v) s = .next t ∧ fld (t.rd Reg.FE.COMMIT_STATUS) 0 3 = s.commitResult (s.rd Reg.FE.COMMIT_PT) ∧ bit (t.blk 16).evtRaw 1 = true ∧
          t.plan = s.plan ∧ t.planOld = s.planOld ∧
          (s.commitResult (s.rd Reg.FE.COMMIT_PT) ≠ 3 → Notifies [16] [Reg.FE.COMMIT_PT, Reg.FE.COMMIT_STATUS] (s.claimed Reg.FE.COMMIT_GO) t))) ∧
  (∀ s : State,
      (∀ pg : Fin 256, s.planOld.isSome = true → planCoupled pg = true → (s.blk pg).swapPend = true → s.flipped.contains pg.val = false → s.entered.contains pg.val = true →
        ∃ t, exec (.bankFlip pg) s = .next t ∧ t.blk pg = { s.blk pg with bank := !(s.blk pg).bank, swapCount := (s.blk pg).swapCount + 1 } ∧
          t.flipped = s.flipped ++ [pg.val] ∧ t.plan = s.plan ∧ t.planOld = s.planOld ∧ (∀ p : Nat, p ≠ pg → t.blk p = s.blk p) ∧
          (∀ a : Nat, a / 0x1000 ≠ pg.val → t.rd a = s.rd a)) ∧
      (∀ pg : Fin 256, s.flipped.contains pg.val = true ∨ s.entered.contains pg.val = false → exec (.bankFlip pg) s = .next s) ∧
      (s.planOld.isSome = true → s.oldWork = false → ∃ t, exec .commitComplete s = .next t ∧ t.plan = s.plan ∧ t.planOld = none ∧ t.flipped = [] ∧
        (∀ pg ∈ allPages, planCoupled pg = true → (t.blk pg).swapPend = false ∧
          (t.blk pg).bank = ((s.blk pg).bank ^^ ((s.blk pg).swapPend && !s.flipped.contains pg))) ∧
        fld (t.rd Reg.FE.COMMIT_STATUS) 0 3 = 2 ∧ bit (t.blk 16).evtRaw 2 = true) ∧
      (s.oldWork = true → exec .commitComplete s = .next s))

/-- Zone commands (R204): one that the zone can take is armed with its instant and reports ARMED; a zone that has one armed answers BUSY, a disabled zone and a reserved OP their own results; at the first frame at or after its
instant the command sets or clears HOLD or BLACKOUT and raises FE event bit 3. Cues (R143 to R146, R176): CUE_DATA reads the selected bank and writes the inactive one, but counts a write to the active bank or to a zone with an armed cue, and advances; CUE_GO arms a cue of an enabled zone and refuses one that is armed, or disabled; the armed cue swaps at the
first frame at or after its instant, so that the zone's active words are those that were staged, and the swap is durable. The order of the results and the status by zone are the model's readings (log entries 33 and 78). -/
def Obligations.ZoneCommandsAndCues : Prop :=
  (∀ (r : Requester) (z : Fin 256) (now : Bool) (s : State),
      let done := fun (c : Instr) (op : Nat) => s.passes r Reg.FE.ZCMD →
        ∃ t, exec c s = .next t ∧ (t.rd Reg.FE.ZCMD_STATUS).toNat = z + 0x100 * (if (s.zrun z).cmd.isSome then 4 else if s.plan.zEn z then (if op = 0 ∨ 4 < op then 6 else 1) else 5) ∧
          (t.zrun z).cmd = (if (s.zrun z).cmd.isNone ∧ s.plan.zEn z = true ∧ 1 ≤ op ∧ op ≤ 4 then some (op, s.rd Reg.FE.ZCMD_PT, now) else (s.zrun z).cmd) ∧
          (∀ y, y ≠ z.val → t.zrun y = s.zrun y) ∧ Writes [] [Reg.FE.ZCMD_STATUS] { s.claimed Reg.FE.ZCMD with zruns := t.zruns } t
      done (.zcmdHold r z now) 1 ∧ done (.zcmdReleaseHold r z now) 2 ∧ done (.zcmdBlackout r z now) 3 ∧ done (.zcmdReleaseBlackout r z now) 4 ∧
      (∀ op : BitVec 4, done (.zcmdBadOp r z op now) op.toNat) ∧
      (∀ k p op at_ n, s.planFor z k = some p → s.feUp = true → s.mode ≠ .hold → (s.zrun z).cmd = some (op, at_, n) → 1 ≤ op → op ≤ 4 →
        n = true ∨ serialGe (framePs p z k) at_ = true →
        ∃ t, exec (.zcmdApply z k) s = .next t ∧ (t.zrun z).cmd = none ∧ bit (t.rd (Reg.FE.ZONE_STATE z)) (if op ≤ 2 then 0 else 1) = decide (op % 2 = 1) ∧
          bit (t.blk 16).evtRaw 3 = true ∧ t.frames = s.frames ∧ t.plan = s.plan ∧
          Notifies [16] [Reg.FE.ZONE_STATE z, Reg.FE.ZCMD_STATUS] { s with zruns := t.zruns } t)) ∧
  (∀ s : State,
      (∀ r v, s.passes r Reg.DMK.CUE_DATA → bit (s.rd Reg.DMK.CUE_INDEX) 8 = false → s.cueArmed (fld (s.rd Reg.DMK.CUE_SEL) 0 8) = false →
        ∃ t, exec (.cueDataAccess r (some v)) s = .next t ∧ Sparse.get cueDefault t.cueI s.cueAt = v &&& cueMask (s.cueAt % 16) ∧
          (∀ k, k ≠ s.cueAt → Sparse.get cueDefault t.cueI k = Sparse.get cueDefault s.cueI k) ∧
          fld (t.rd Reg.DMK.CUE_INDEX) 0 8 = (fld (s.rd Reg.DMK.CUE_INDEX) 0 8 + 1) % 256 ∧
          Writes [] [Reg.DMK.CUE_INDEX] { s.claimed Reg.DMK.CUE_DATA with cueI := t.cueI } t) ∧
      (∀ r v, s.passes r Reg.DMK.CUE_DATA → bit (s.rd Reg.DMK.CUE_INDEX) 8 = true ∨ s.cueArmed (fld (s.rd Reg.DMK.CUE_SEL) 0 8) = true →
        ∃ t, exec (.cueDataAccess r (some v)) s = .next t ∧ (t.blk 23).errCnt = satInc (s.blk 23).errCnt ∧
          Writes [23] [Reg.DMK.CUE_INDEX] (s.claimed Reg.DMK.CUE_DATA) t) ∧
      (∀ r, s.reads r Reg.DMK.CUE_DATA → ∃ t, exec (.cueDataAccess r none) s = .next t ∧
        t.outbox = s.outbox ++ [Emission.read r Reg.DMK.CUE_DATA (Sparse.get cueDefault (if bit (s.rd Reg.DMK.CUE_INDEX) 8 then s.cueA else s.cueI) s.cueAt)] ∧
        fld (t.rd Reg.DMK.CUE_INDEX) 0 8 = (fld (s.rd Reg.DMK.CUE_INDEX) 0 8 + 1) % 256 ∧ Writes [] [Reg.DMK.CUE_INDEX] { s with outbox := t.outbox } t) ∧
      (∀ r v, s.passes r Reg.DMK.CUE_GO → s.cueArmed (fld v 0 8) = false → s.plan.zEn (fld v 0 8) = true →
        ∃ t, exec (.cueGo r v) s = .next t ∧ t.cueArm = s.cueArm ++ [(fld v 0 8, s.rd Reg.DMK.CUE_PT, bit v 8)] ∧ (t.rd Reg.DMK.CUE_STATUS).toNat = fld v 0 8 + 0x100 ∧
          Writes [] [Reg.DMK.CUE_PEND (fld v 0 8 / 32), Reg.DMK.CUE_STATUS] { s.claimed Reg.DMK.CUE_GO with cueArm := t.cueArm } t) ∧
      (∀ r v, s.passes r Reg.DMK.CUE_GO → s.cueArmed (fld v 0 8) = true → ∃ t, exec (.cueGo r v) s = .next t ∧ (t.rd Reg.DMK.CUE_STATUS).toNat = fld v 0 8 + 0x400 ∧
        bit (t.blk 23).evtRaw 0 = true ∧ (t.blk 23).errCnt = satInc (s.blk 23).errCnt ∧ Notifies [23] [Reg.DMK.CUE_STATUS] (s.claimed Reg.DMK.CUE_GO) t) ∧
      (∀ r v, s.passes r Reg.DMK.CUE_GO → s.cueArmed (fld v 0 8) = false → s.plan.zEn (fld v 0 8) = false → ∃ t, exec (.cueGo r v) s = .next t ∧
        (t.rd Reg.DMK.CUE_STATUS).toNat = fld v 0 8 + 0x500 ∧ bit (t.blk 23).evtRaw 0 = true ∧ Notifies [23] [Reg.DMK.CUE_STATUS] (s.claimed Reg.DMK.CUE_GO) t) ∧
      (∀ (z : Fin 256) k p c, s.planFor z k = some p → s.feUp = true → s.mode ≠ .hold → s.cueArm.find? (fun c => c.1 == z.val) = some c → Sparse.wf cueDefault s.cueI = true →
        c.2.2 = true ∨ serialGe (framePt p z k) c.2.1 = true →
        ∃ t, exec (.cueSwap z k) s = .next t ∧ (∀ w, w < 256 → Sparse.get cueDefault t.cueA (256 * z + w) = Sparse.get cueDefault s.cueI (256 * z + w)) ∧
          (∀ a, a / 256 ≠ z.val → Sparse.get cueDefault t.cueA a = Sparse.get cueDefault s.cueA a) ∧ t.cueArmed z = false ∧
          t.rd Reg.SYS.JOURNAL_SEQ = s.rd Reg.SYS.JOURNAL_SEQ + 1 ∧ t.frames = s.frames ∧ t.plan = s.plan))

/-- A frame at its sample instant (R190, R192 to R197, R199, R205): where the lanes can finish it, FE takes it with its tiles, which go to DSP as its credits allow, its epoch and its strike instant; where they cannot, FE skips it and counts ADMIT; a zone that is held or black is
struck without rendering. A frame that shares its tick with others goes after those of a higher priority (R197), so that this speaks of a frame with none before it. Which frames share a tick is the
model's reading (log entry 126). -/
def Obligations.FramesAreAdmitted : Prop :=
  ∀ (z : Fin 256) (k : Nat) (late : List (Fin 8)) (p : Plan) (s : State), s.planFor z k = some p → s.tickMates z k = [] → s.feUp = true → s.mode ≠ .hold →
    (s.zrunFor p z).lastK = none ∨ (s.zrunFor p z).lastK = some (k - 1) ∧ 1 ≤ k → (s.zrun z).cmd = none → s.cueArmed z = false →
    (s.zoneHeld z = false → s.zoneBlack z = false → s.zoneDamaged p z = false → s.admitSkips p z k = false → p.zoneTiles z ≠ [] →
      ∃ t, exec (.frameAdmit z k late) s = .next t ∧ t.frames.length = s.frames.length + 1 ∧ (∃ f ∈ t.frames, f.zone = z.val ∧ f.k = k ∧ f.pt = framePt p z k ∧
        f.ps = framePs p z k ∧ f.epoch = p.epoch ∧ f.prio = p.zPrio z ∧ f.todo ++ f.queued = p.zoneTiles z ∧ f.busy = [] ∧ f.buf = [] ∧ (f.admitted = true ↔ f.todo ≠ [])) ∧
        (t.zrun z).lastK = some k ∧ (t.zrun z).begun = some ((gridNs (p.zRate z) k : Nat) : Int) ∧ t.plan = s.plan) ∧
    (s.zoneHeld z = false → s.zoneBlack z = false → s.zoneDamaged p z = false → s.admitSkips p z k = true →
      ∃ t, exec (.frameAdmit z k late) s = .next t ∧ t.frames = s.frames ∧ t.portQ = s.portQ ∧ t.rd (Reg.FE.ZONE_SKIP z) = satAdd (s.rd (Reg.FE.ZONE_SKIP z)) 1 ∧
        (t.rd Reg.FE.LAST_SKIP).toNat = z + 0x200 ∧ t.rd Reg.FE.LAST_SKIP_PT = framePs p z k ∧ bit (t.blk 16).evtRaw 0 = true ∧ (t.zrun z).lastK = some k) ∧
    (s.zoneHeld z = true ∨ s.zoneBlack z = true →
      ∃ t, exec (.frameAdmit z k late) s = .next t ∧ t.frames = s.frames ∧ t.rd (Reg.FE.ZONE_STRUCK z) = s.rd (Reg.FE.ZONE_STRUCK z) + 1 ∧
        ∀ pg ∈ p.zonePorts z, s.code pg ≠ 0 →
          ({ zone := z, k := k, ps := framePs p z k, epoch := p.epoch, flags := b2n (s.zoneHeld z) + 4 * b2n (s.zoneBlack z), tb := p.zTb z } : StrikeOut)
            ∈ Sparse.get (fun _ => []) t.portQ pg)

/-- The lanes (R184, R187 to R190, R198, R199): a free working lane takes the tile whose turn it is; a finished tile leaves its lane and, when it is the last of its frame and DSP holds a credit
for its queue, ends its packet there, the frame is gone and its strike goes to its ports; a lane's error fails
the lane and drops the frame; so does the render deadline, which counts the skip. -/
def Obligations.LanesRender : Prop :=
  ∀ s : State,
    (∀ (l : Fin 68) f tile, s.up 17 = true → s.up 27 = true → s.laneWorks l = true → s.lanes.any (fun e => e.1 == l.val) = false → s.nextTile = some (f, tile) →
      ∃ t w, exec (.laneTakeTile l) s = .next t ∧ t.lanes = s.lanes ++ [(l.val, w)] ∧ w.zone = f.zone ∧ w.k = f.k ∧ w.tile = tile ∧
        w.out = (renderTile (s.planOf f.epoch) (s.laneIn f) { f with stats := Resid.init, pow := [] } tile).1 ∧ t = { s with lanes := t.lanes, frames := t.frames, entered := t.entered }) ∧
    (∀ (l : Fin 68) e, s.lanes.find? (fun e => e.1 == l.val) = some e → ∃ t, exec (.tileDone l) s = .next t ∧ (∀ x ∈ t.lanes, x.1 ≠ l.val ∧ x ∈ s.lanes) ∧
      t.plan = s.plan ∧ t.mode = s.mode ∧
      (∀ f pg, s.frames.find? (fun f => f.zone == e.2.zone && f.k == e.2.k) = some f → e.2.out.tile = e.2.tile → f.buf = [] → f.left = [(pg, [e.2.tile])] →
        s.tileRoom pg f.zone = true → s.portsMay f = true →
        (∀ g ∈ t.frames, ¬ (g.zone = f.zone ∧ g.k = f.k)) ∧
        ({ zone := f.zone, k := f.k, ps := f.ps, epoch := f.epoch, eop := true, tile := e.2.out } : TileOut) ∈ t.tiles pg f.zone ∧
        ∀ q ∈ (s.planOf f.epoch).zonePorts f.zone, s.code q ≠ 0 → ∃ x ∈ Sparse.get (fun _ => []) t.portQ q, x.zone = f.zone ∧ x.k = f.k ∧ x.flags = 0)) ∧
    (∀ (l : Fin 68) e, s.lanes.find? (fun e => e.1 == l.val) = some e → ∃ t, exec (.laneError l) s = .next t ∧ t.laneFailed l = true ∧
      (∀ g ∈ t.frames, ¬ (g.zone = e.2.zone ∧ g.k = e.2.k)) ∧ t.rd Reg.FE.SKIP_FAULT = satAdd (s.rd Reg.FE.SKIP_FAULT) 1 ∧ bit (t.blk 16).evtRaw 0 = true) ∧
    (∀ (z : Fin 256) k f, s.frames.find? (fun f => f.zone == z.val && f.k == k) = some f → ∃ t, exec (.renderDeadline z k) s = .next t ∧
      (∀ g ∈ t.frames, ¬ (g.zone = z.val ∧ g.k = k)) ∧ (∀ x ∈ t.lanes, ¬ (x.2.zone = z.val ∧ x.2.k = k)) ∧
      (t.rd Reg.FE.LAST_SKIP).toNat = z + 0x100 * (if f.admitted then 1 else 2) ∧ t.rd Reg.FE.LAST_SKIP_PT = f.ps ∧
      t.rd (Reg.FE.ZONE_SKIP z) = satAdd (s.rd (Reg.FE.ZONE_SKIP z)) 1 ∧ bit (t.blk 16).evtRaw 0 = true ∧ t.plan = s.plan)

/-- Live video (R149, R151, R152, R173): enabling a stream within 8 units starts it WAITING and beyond them, or with a reserved or unsupported setting, refuses it; an enabled stream keeps its settings; a packet of the stream's
format that is a whole picture completes one, and one of another format is reported; a silent stream is LOST. The packet is the model's reading (log entry 29). -/
def Obligations.VideoStreams : Prop :=
  ∀ (n : Fin 8) (s : State),
    (∀ r v, s.passes r (Reg.VIN.S_CTL n) → bit v 0 = true → bit (s.rd (Reg.VIN.S_CTL n)) 0 = false →
      vinReserved (v &&& 0x3FFF) = false → s.vinUnits + vinCost (v &&& 0x3FFF) ≤ 8 →
      ∃ t, exec (.sCtlWrite r n v) s = .next t ∧ t.rd (Reg.VIN.S_CTL n) = v &&& 0x3FFF ∧ t.vinState n = 1 ∧ t.vin n = VinStream.init ∧
        t.vinUnits = s.vinUnits + vinCost (v &&& 0x3FFF) ∧ (∀ m, m ≠ n.val → t.vin m = s.vin m)) ∧
    (∀ r v, s.passes r (Reg.VIN.S_CTL n) → bit v 0 = true → bit (s.rd (Reg.VIN.S_CTL n)) 0 = false →
      vinReserved (v &&& 0x3FFF) = true ∨ 8 < s.vinUnits + vinCost (v &&& 0x3FFF) →
      ∃ t, exec (.sCtlWrite r n v) s = .next t ∧ t.rd (Reg.VIN.S_CTL n) = v &&& 0x3FFE ∧ bit (t.rd (Reg.VIN.S_CTL n)) 0 = false ∧ bit (t.rd (Reg.VIN.S_STATUS n)) 3 = true ∧ bit (t.blk 21).evtRaw 1 = true ∧ t.vins = s.vins) ∧
    (∀ r v, s.passes r (Reg.VIN.S_CTL n) → bit (s.rd (Reg.VIN.S_CTL n)) 0 = true → v &&& 0x3FFE ≠ s.rd (Reg.VIN.S_CTL n) &&& 0x3FFE →
      ∃ t, exec (.sCtlWrite r n v) s = .next t ∧ t.rd (Reg.VIN.S_CTL n) = s.rd (Reg.VIN.S_CTL n) ∧ t.vins = s.vins ∧ (t.blk 21).errCnt = satInc (s.blk 21).errCnt ∧
        (s.proc 2 ≠ 2 → t = (s.claimed (Reg.VIN.S_CTL n)).err 21)) ∧
    (∀ p : VinPacket, s.up 21 = true → s.vinState n ≠ 0 → (p.width, p.height) = vinSize (fld (s.rd (Reg.VIN.S_CTL n)) 4 2) → p.sampling422 = true → p.progressive = true →
      (s.vin n).lastSeq = none → (s.vin n).cur = [] → (s.vin n).done.any (fun x => x.ts == p.rtpTs) = false → p.first = true → p.last = true →
      ∃ t pic, exec (.vinPacketRx n p) s = .next t ∧ t.vin n = { cur := [], done := State.vinDone pic (s.vin n).done, lastSeq := some p.seq } ∧ pic.ts = p.rtpTs ∧
        pic.parts = [(p.line, p.offset, p.octets)] ∧ pic.transfer = fld (s.rd (Reg.VIN.S_CTL n)) 10 2 ∧ pic.colorimetry = fld (s.rd (Reg.VIN.S_CTL n)) 12 2 ∧ t.rd (Reg.VIN.S_PIC_OK n) = s.rd (Reg.VIN.S_PIC_OK n) + 1 ∧ t.rd (Reg.VIN.S_LAST_TS n) = p.rtpTs ∧ t.vinState n = 2) ∧
    (∀ p : VinPacket, s.up 21 = true → s.vinState n ≠ 0 → (p.width, p.height) ≠ vinSize (fld (s.rd (Reg.VIN.S_CTL n)) 4 2) ∨ p.sampling422 = false ∨ p.progressive = false →
      exec (.vinPacketRx n p) s = .next (s.wr (Reg.VIN.S_STATUS n) (setBit (s.rd (Reg.VIN.S_STATUS n)) 4 true))) ∧
    (s.vinState n = 1 ∨ s.vinState n = 2 → ∃ t, exec (.vinStreamLost n) s = .next t ∧ t.vinState n = 3 ∧ bit (t.blk 21).evtRaw 1 = true ∧
      Notifies [21] [Reg.VIN.S_STATUS n] s t)

/-- Clips in flash (R158, R161): a load that passes every check stores the file, and one that fails reports its cause and stores nothing; a delete removes a clip that no player uses. Clip players (R159, R160, R161): PRELOAD of a stored clip starts its copy to the cache, which ends with the clip cached and held; GO arms the player with its start, its speed and its instant or refuses with the cause; the armed player plays
from its instant; STOP freezes it. PRELOAD of a cached clip and the order of the refusals are the model's readings (log entry 30), and what
use is in the order of the cache is its choice (log entry 111). -/
def Obligations.ClipsPlay : Prop :=
  (∀ s : State,
      (∀ (c : BitVec 16) file, s.up 22 = true → ∃ t, exec (.clipLoad c file) s = .next t ∧ bit (t.blk 22).evtRaw 0 = true ∧
        t.rd Reg.CLIP.LOAD_STATUS = W (c.toNat + 0x10000 * clipResult file s.clipFree (!s.clipStored c.toNat)) ∧
        t.clipFile c.toNat = (if clipResult file s.clipFree (!s.clipStored c.toNat) = 1 then file else s.clipFile c.toNat) ∧
        (∀ d, d ≠ c.toNat → t.clipFile d = s.clipFile d) ∧ Notifies [22] [Reg.CLIP.LOAD_STATUS] { s with clips := t.clips } t) ∧
      (∀ r (c : BitVec 16), s.passes r Reg.CLIP.DELETE → s.clipHeld c.toNat = false → ∃ t, exec (.clipDelete r c) s = .next t ∧ t.clipStored c.toNat = false ∧
        t.clipCache.contains c.toNat = false ∧ (∀ d, d ≠ c.toNat → t.clipFile d = s.clipFile d) ∧ t = { s.claimed Reg.CLIP.DELETE with clips := t.clips, clipCache := t.clipCache }) ∧
      (∀ r (c : BitVec 16), s.passes r Reg.CLIP.DELETE → s.clipHeld c.toNat = true →
        exec (.clipDelete r c) s = .next ((s.claimed Reg.CLIP.DELETE).err 22))) ∧
  (∀ (p : Fin 8) (s : State),
      let c := fld (s.rd (Reg.CLIP.P_CLIP p)) 0 16
      (∀ r, s.passes r (Reg.CLIP.P_CMD p) → s.clipStored c = true → ∃ t, exec (.clipPreload r p) s = .next t ∧ t.player p = { s.player p with loading := some c } ∧
        fld (t.rd (Reg.CLIP.P_STATUS p)) 8 4 = 0 ∧ t.playState p = (if s.playState p = 3 ∨ s.playState p = 4 then s.playState p else 1) ∧ t.clips = s.clips ∧ t.clipCache = s.clipCache) ∧
      (∀ r, s.passes r (Reg.CLIP.P_CMD p) → s.clipStored c = false → ∃ t, exec (.clipPreload r p) s = .next t ∧ fld (t.rd (Reg.CLIP.P_STATUS p)) 8 4 = 4 ∧
        Writes [] [Reg.CLIP.P_STATUS p] (s.claimed (Reg.CLIP.P_CMD p)) t) ∧
      (∀ d kept, (s.player p).loading = some d → s.cacheFit d = some kept → ∃ t, exec (.clipPreloadDone p) s = .next t ∧ t.clipCache = kept ++ [d] ∧ (t.player p).loading = none ∧
        (s.playState p = 1 → t.playState p = 2 ∧ (t.player p).held = some d)) ∧
      (∀ r, s.passes r (Reg.CLIP.P_CMD p) → s.goRefuse p = 0 → ∃ t, exec (.clipGo r p) s = .next t ∧ t.playState p = 3 ∧ (t.player p).held = some c ∧
        (t.player p).speed = s.playSpeed p ∧ (t.player p).start = (s.rd (Reg.CLIP.P_START p)).toNat ∧
        (t.player p).goExt = (s.tb (s.playTb p)).ext + (s.rd (Reg.CLIP.P_GO_PT p) - (s.tb (s.playTb p)).count).toInt ∧ t.clips = s.clips ∧
        t.clipCache = s.clipCache.filter (fun x => x != c) ++ [c]) ∧
      (∀ r, s.passes r (Reg.CLIP.P_CMD p) → s.goRefuse p ≠ 0 → ∃ t, exec (.clipGo r p) s = .next t ∧ fld (t.rd (Reg.CLIP.P_STATUS p)) 8 4 = s.goRefuse p ∧
        Writes [] [Reg.CLIP.P_STATUS p] (s.claimed (Reg.CLIP.P_CMD p)) t) ∧
      (∀ r, s.passes r (Reg.CLIP.P_CMD p) → s.playState p = 3 ∨ s.playState p = 4 ∨ s.playState p = 5 → ∃ t, exec (.clipStop r p) s = .next t ∧ t.playState p = 6 ∧
        t.player p = s.player p ∧ Notifies [22] [Reg.CLIP.P_STATUS p] (s.claimed (Reg.CLIP.P_CMD p)) t) ∧
      (s.playState p = 3 → (s.player p).goExt ≤ (s.tb (s.playTb p)).ext → ∃ t, exec (.clipPlayStart p) s = .next t ∧ t.playState p = 4 ∧ t.player p = s.player p ∧
        Notifies [22] [Reg.CLIP.P_STATUS p] s t))

/-- Control universes (R163, R165, R166, R177): a data packet from a new source joins its entry, and a preview or other START code is dropped and counted; a sync packet applies what is held under its address; without sync data applies on
arrival; a silent source, of the network or of a DMX input, is removed; IN_DATA reads and writes the selected entry and advances, and an entry that R177 does not allow is disabled and counted. -/
def Obligations.UniversesMerge : Prop :=
  ∀ s : State,
    (∀ (p : SacnPacket) i, s.up 24 = true → s.sacnHears p = true → p.startCode = 0 → p.preview = false → p.terminated = false → p.syncAddr = 0 → s.uniOf 0 p.uni = [i] → (s.uni i).sources = [] →
      ∃ t x, exec (.sacnPacketRx p) s = .next t ∧ (t.uni i).sources = [x] ∧ x.cid = p.cid.toNat ∧ x.prio = p.prio ∧ x.slots = fitBytes 512 p.slots ∧ (t.uni i).lost = false ∧
        t.rd Reg.UNI.PKT_OK = s.rd Reg.UNI.PKT_OK + 1 ∧ (∀ j, j ≠ i → t.uni j = s.uni j) ∧
        Notifies [24] [Reg.UNI.PKT_OK] { s with uniSt := t.uniSt, uniCount := s.uniCount + 1 } t) ∧
    (∀ p : SacnPacket, s.sacnHears p = false → exec (.sacnPacketRx p) s = .next s) ∧
    (∀ p : SacnPacket, s.up 24 = true → s.sacnHears p = true → p.startCode ≠ 0 ∨ p.preview = true → exec (.sacnPacketRx p) s = .next (s.wr Reg.UNI.PKT_DROP (satInc (s.rd Reg.UNI.PKT_DROP)))) ∧
    (∀ addr i x d prio order, s.up 24 = true → addr ≠ 0 → Sparse.wf (fun _ => UniInput.init) s.uniSt = true → (s.uni i).sources = [x] → x.held = some (addr, d, prio, order) →
      ∃ t, exec (.sacnSyncRx addr) s = .next t ∧ (t.uni i).sources = [{ x with slots := d, prio := prio, order := order, held := none }] ∧ (d.length = 512 → (t.uni i).out = d) ∧ (t.uni i).noSync = false ∧ t.plan = s.plan ∧ t.mode = s.mode) ∧
    (∀ i : Fin 2048, (s.uni i).sources.any (fun x => x.held.isSome) = true → (s.uni i).noSync = false → ∃ t, exec (.sacnSyncTimeout i) s = .next t ∧ (t.uni i).noSync = true ∧
      (∀ x ∈ (t.uni i).sources, x.held = none) ∧ t.rd Reg.UNI.SYNC_LOST = satInc (s.rd Reg.UNI.SYNC_LOST) ∧ bit (t.blk 24).evtRaw 1 = true ∧ ∀ j, j ≠ i.val → t.uni j = s.uni j) ∧
    (∀ (i : Fin 2048) (src : UniSender), (s.uni i).sources.any (fun x => x.cid == senderId src) = true → ∃ t, exec (.sacnSourceTimeout i src) s = .next t ∧
      (t.uni i).sources = (s.uni i).sources.filter (fun x => x.cid != senderId src) ∧ (t.uni i).lost = (t.uni i).sources.isEmpty ∧ (∀ j, j ≠ i.val → t.uni j = s.uni j) ∧
      (∀ cid, src = .cid cid → Notifies [24] [] { s with uniSt := t.uniSt } t) ∧
      (∀ n : Fin 4, src = .dmx n → (t.dmxP n).live = false ∧ ((s.dmxP n).live = true → bit (t.blk (96 + n)).evtRaw 4 = true) ∧
        Notifies [24, 96 + n] [] { s with uniSt := t.uniSt, dmxs := t.dmxs } t)) ∧
    (∀ r v, s.passes r Reg.UNI.IN_DATA → 4 < fld v 16 3 ∨ (fld v 16 3 = 0 ∧ (fld v 0 16 = 0 ∨ 63999 < fld v 0 16)) → ∃ t, exec (.inDataAccess r (some v)) s = .next t ∧
      t.uniEntry (fld (s.rd Reg.UNI.IN_INDEX) 0 11) = setBit (v &&& 0x8017FFFF) 31 false ∧ (t.blk 24).errCnt = satInc (s.blk 24).errCnt) ∧
    (∀ r v, s.passes r Reg.UNI.IN_DATA → fld v 16 3 ≤ 4 → (fld v 16 3 = 0 → fld v 0 16 ≠ 0 ∧ fld v 0 16 ≤ 63999) → ∃ t, exec (.inDataAccess r (some v)) s = .next t ∧
      t.uniEntry (fld (s.rd Reg.UNI.IN_INDEX) 0 11) = v &&& 0x8017FFFF ∧ (∀ i, i ≠ fld (s.rd Reg.UNI.IN_INDEX) 0 11 → t.uniEntry i = s.uniEntry i) ∧
      fld (t.rd Reg.UNI.IN_INDEX) 0 11 = (fld (s.rd Reg.UNI.IN_INDEX) 0 11 + 1) % 2048) ∧
    (∀ r, s.reads r Reg.UNI.IN_DATA → ∃ t, exec (.inDataAccess r none) s = .next t ∧ fld (t.rd Reg.UNI.IN_INDEX) 0 11 = (fld (s.rd Reg.UNI.IN_INDEX) 0 11 + 1) % 2048 ∧
      t.outbox = s.outbox ++ [Emission.read r Reg.UNI.IN_DATA (s.uniEntry (fld (s.rd Reg.UNI.IN_INDEX) 0 11))] ∧ Writes [] [Reg.UNI.IN_INDEX] { s with outbox := t.outbox } t)

/-- Audio (R169, R170, R178): a packet of the stream's format in sequence joins the samples at their media time, another format is reported; the 1 ms block of media time that ends gives each band a level; a silent stream is LOST and every
band reads -100.0 dBFS. The filter's realisation is the model's choice (log entry 110). -/
def Obligations.AudioIsAnalysed : Prop :=
  ∀ s : State,
    (∀ p : AudPacket, s.up 25 = true → fld (s.rd Reg.AUD.STATUS) 0 2 ≠ 0 → p.channels = s.audChannels → s.audSeq = none ∨ s.audSeq = some (p.seq - 1) →
      ∃ t, exec (.audPacketRx p) s = .next t ∧ (∀ i (h : i < p.frames.length), Sparse.get (fun _ => []) t.audBuf (s.audTime p.ts + i) = p.frames[i]) ∧
        (∀ k, k < s.audTime p.ts ∨ s.audTime p.ts + p.frames.length ≤ k → Sparse.get (fun _ => []) t.audBuf k = Sparse.get (fun _ => []) s.audBuf k) ∧
        t.audNext = some (s.audNext.getD (s.audTime p.ts / 48)) ∧ fld (t.rd Reg.AUD.STATUS) 0 2 = 2 ∧
        Notifies [25] [Reg.AUD.STATUS] { s with audSeq := some p.seq, audBuf := t.audBuf, audNext := t.audNext } t) ∧
    (∀ p : AudPacket, s.up 25 = true → fld (s.rd Reg.AUD.STATUS) 0 2 ≠ 0 → p.channels ≠ s.audChannels →
      exec (.audPacketRx p) s = .next (s.wr Reg.AUD.STATUS (setBit (s.rd Reg.AUD.STATUS) 4 true))) ∧
    (∀ b, s.up 25 = true → fld (s.rd Reg.AUD.STATUS) 0 2 = 2 → s.audNext = some b → ∃ t l, exec .audBlock s = .next t ∧ t.audNext = some (b + 1) ∧
      t.audBuf = s.audBuf.filter (fun e => 48 * (b + 1) ≤ e.1) ∧ t.audBlocks = ((b, l) :: s.audBlocks).take 64 ∧
      l.length = 128 ∧ (∀ x ∈ l, -1000 ≤ x ∧ x ≤ 32767) ∧ t = { s with audBuf := t.audBuf, audNext := t.audNext, audBlocks := t.audBlocks, audFilt := t.audFilt, regs := t.regs } ∧
      ∀ a, (∀ i, i < 128 → a ≠ Reg.AUD.BAND i) → t.rd a = s.rd a) ∧
    (fld (s.rd Reg.AUD.STATUS) 0 2 = 1 ∨ fld (s.rd Reg.AUD.STATUS) 0 2 = 2 → ∃ t, exec .audStreamLost s = .next t ∧ fld (t.rd Reg.AUD.STATUS) 0 2 = 3 ∧
      (∀ i, i < 128 → t.rd (Reg.AUD.BAND i) = 0xFC18FC18) ∧ bit (t.blk 25).evtRaw 0 = true ∧ t.audBuf = [] ∧ t.audBlocks = [] ∧ t.audNext = none)

/-- The group table (R214 to R216, R237): GM_DATA stages the words of an entry for its requester, and word 7 moves a legal entry into the inactive bank and refuses one of a fleet-driven group to all but FP; GM_GO arms the swap; the swap exchanges the banks
durably and keeps the old one until its frames are gone. Residuals and heat off (R226, R232, R235, R236, R238): RESID_SEL copies a zone's latched statistics; a fixture whose reports stop is marked stale; a fixture in heat off that has cooled is re-armed by a write, or by THM where its profile says so, and one
that has not, or is not in heat off, is refused with its cause. Means rounded down are the model's choice (log entry 32). -/
def Obligations.GroupsAndHeatOff : Prop :=
  (∀ s : State,
      (∀ r v, s.passes r Reg.CLR.GM_DATA → bit (s.gm r).index 16 = false → fld (s.gm r).index 0 3 < 7 → ∃ t, exec (.gmDataAccess r (some v)) s = .next t ∧
        (t.gm r).words = setAt ((s.gmLoad r).gm r).words (fld (s.gm r).index 0 3) v ∧ (∀ q, q ≠ r → t.gm q = s.gm q) ∧ t = { s.claimed Reg.CLR.GM_DATA with gmStage := t.gmStage }) ∧
      (∀ r v, s.passes r Reg.CLR.GM_DATA → bit (s.gm r).index 16 = false → fld (s.gm r).index 0 3 = 7 → gmOk ((s.gmLoad r).gm r).words = true →
        s.fleetDriven (fld (s.gm r).index 4 12) = false ∨ r = .fp → ∃ t, exec (.gmDataAccess r (some v)) s = .next t ∧
        (∀ w, w < 7 → Sparse.get gmDefault t.gmI (8 * fld (s.gm r).index 4 12 + w) = ((s.gmLoad r).gm r).words.getD w 0) ∧
        (∀ k, k / 8 ≠ fld (s.gm r).index 4 12 → Sparse.get gmDefault t.gmI k = Sparse.get gmDefault s.gmI k) ∧ (∀ q, q ≠ r → t.gm q = s.gm q) ∧
        t = { s.claimed Reg.CLR.GM_DATA with gmStage := t.gmStage, gmI := t.gmI }) ∧
      (∀ r v, s.passes r Reg.CLR.GM_DATA → bit (s.gm r).index 16 = false → fld (s.gm r).index 0 3 = 7 →
        gmOk ((s.gmLoad r).gm r).words = false ∨ (s.fleetDriven (fld (s.gm r).index 4 12) = true ∧ r ≠ .fp) →
        ∃ t, exec (.gmDataAccess r (some v)) s = .next t ∧ t.gmI = s.gmI ∧ fld (t.rd Reg.CLR.GM_STATUS) 0 3 = 5 ∧ (t.blk 19).errCnt = satInc (s.blk 19).errCnt) ∧
      (∀ r, s.reads r Reg.CLR.GM_DATA → ∃ t, exec (.gmDataAccess r none) s = .next t ∧ t.outbox = s.outbox ++ [Emission.read r Reg.CLR.GM_DATA (s.gmRead r)] ∧
        t = { s with outbox := t.outbox, gmStage := t.gmStage }) ∧
      (∀ r v, s.passes r Reg.CLR.GM_GO → bit v 0 = true → s.gmArm = none → s.gmOld = none → ∃ t, exec (.gmGo r v) s = .next t ∧
        (∃ due late, t.gmArm = some (s.rd Reg.CLR.GM_PT, due, late) ∧ (bit v 1 = true → due = true ∧ late = false) ∧
          (bit v 1 = false → late = serialLt (s.rd Reg.CLR.GM_PT) (s.tb 0).count ∧ due = late) ∧ fld (t.rd Reg.CLR.GM_STATUS) 0 3 = (if late then 3 else 1)) ∧ Writes [] [Reg.CLR.GM_STATUS] { s.claimed Reg.CLR.GM_GO with gmArm := t.gmArm } t) ∧
      (∀ r v, s.passes r Reg.CLR.GM_GO → bit v 0 = true → s.gmArm ≠ none ∨ s.gmOld ≠ none → ∃ t, exec (.gmGo r v) s = .next t ∧
        fld (t.rd Reg.CLR.GM_STATUS) 0 3 = 4 ∧ Writes [19] [Reg.CLR.GM_STATUS] (s.claimed Reg.CLR.GM_GO) t) ∧
      (∀ pt due late, s.gmArm = some (pt, due, late) → due = true ∨ serialGe (s.tb 0).count pt = true → ∃ t, exec .gmSwap s = .next t ∧ t.gmA = s.gmI ∧ t.gmOld = some s.gmA ∧ t.gmArm = none ∧
        t.gmSwaps = s.gmSwaps + 1 ∧ fld (t.rd Reg.CLR.GM_STATUS) 0 3 = (if late then 3 else 2) ∧ t.rd Reg.SYS.JOURNAL_SEQ = s.rd Reg.SYS.JOURNAL_SEQ + 1 ∧
        Writes [] [Reg.CLR.GM_STATUS, Reg.SYS.JOURNAL_SEQ] { s with gmOld := t.gmOld, gmA := s.gmI, gmSwaps := t.gmSwaps, gmArm := none } t) ∧
      (s.frames.any (fun f => f.gm < s.gmSwaps) = false → exec .gmOldBankRetire s = .next { s with gmOld := none })) ∧
  (∀ s : State,
      (∀ r v, s.passes r Reg.CLR.RESID_SEL → ∃ t, exec (.residSel r v) s = .next t ∧ t.rd Reg.CLR.RESID_PS = (s.residOf (fld v 0 8)).ps ∧ t.rd Reg.CLR.RESID_SEL = W (fld v 0 8) ∧
        t.rd Reg.CLR.RESID_OOG = W ((s.residOf (fld v 0 8)).oog % 0x1000000) ∧
        Writes [] [Reg.CLR.RESID_SEL, Reg.CLR.RESID_DUV, Reg.CLR.RESID_ERR, Reg.CLR.RESID_OOG, Reg.CLR.RESID_SLOTS, Reg.CLR.RESID_PS] (s.claimed Reg.CLR.RESID_SEL) t) ∧
      (∀ (f : Fin 131072) sec, s.reportAge ≤ sec → (s.thmRec f).sink.isSome = true → (s.thmRec f).stale = false → ∃ t, exec (.reportStale f sec) s = .next t ∧ t.thmRec f = { s.thmRec f with stale := true } ∧
        (∀ g, g ≠ f.val → t.thmRec g = s.thmRec g) ∧ bit (t.blk 20).evtRaw 2 = true ∧ Notifies [20] [Reg.THM.HEAT_OFF_COUNT, Reg.THM.STALE_COUNT] { s with thm := t.thm } t) ∧
      (∀ r (f : Fin 131072), s.passes r Reg.THM.REARM → s.heatOff.contains f.val = true → (s.thmRec f).rearmOk = true → ∃ t, exec (.thmRearm r f) s = .next t ∧
        t.heatOff = s.heatOff.filter (fun x => x != f.val) ∧ (t.rd Reg.THM.REARM_STATUS).toNat = f + 0x20000 ∧ t.plan = s.plan ∧ t.mode = s.mode) ∧
      (∀ r (f : Fin 131072), s.passes r Reg.THM.REARM → s.heatOff.contains f.val = false ∨ (s.thmRec f).rearmOk = false → ∃ t, exec (.thmRearm r f) s = .next t ∧
        (t.rd Reg.THM.REARM_STATUS).toNat = f + 0x20000 * (if s.heatOff.contains f.val then 2 else 3) ∧ Writes [] [Reg.THM.REARM_STATUS] (s.claimed Reg.THM.REARM) t) ∧
      (∀ (f : Fin 131072) sec, s.autoDelay ≤ sec → bit (s.plan.pw (s.fixProfile s.plan f) 0) 16 = true → s.heatOff.contains f.val = true → (s.thmRec f).rearmOk = true → ∃ t, exec (.autoRearm f sec) s = .next t ∧
        t.heatOff = s.heatOff.filter (fun x => x != f.val) ∧ (t.rd Reg.THM.REARM_STATUS).toNat = f + 0x20000 + 0x100000))

/-- The Gyzor line (R241, R243 to R245, R250, R251, R256): clean checks give the wiring bits, the discontinuities by NVP and the line temperature, and start training; a fault latches and takes the line to FAULT; a training with both eyes open brings the line UP and a chain to its
enumeration, and the third that fails is a fault; a faulted line is measured again after three clean checks; a condition or a loss of signal takes a live line down. That a lost line keeps its block's STATE is the model's reading (log entry 82), and the rounding of a distance its choice (log entry 116). -/
def Obligations.LinesAreMeasuredAndTrained : Prop :=
  ∀ (n : Fin 32) (s : State),
    (∀ (f : BitVec 8) pi sw pa p1 p2 (d : BitVec 16), s.lineSt n = 1 → State.firstFaults f.toNat = 0 → s.rateMismatch n = false → ∃ t, exec (.lineChecksDone n f pi sw pa p1 p2 d) s = .next t ∧
      t.lineSt n = 3 ∧ bit (t.rd (Reg.GZP.LINE_STATUS n)) 4 = pi ∧ bit (t.rd (Reg.GZP.LINE_STATUS n)) 5 = sw ∧ bit (t.rd (Reg.GZP.LINE_STATUS n)) 6 = pa ∧
      (∀ i, i < 4 → t.rd (Reg.GZP.TDR_P1 n i) = State.tdrWord (s.nvp n) p1 i ∧ t.rd (Reg.GZP.TDR_P2 n i) = State.tdrWord (s.nvp n) p2 i) ∧
      fld (t.rd (Reg.GZP.LINE_TEMP n)) 0 16 = d.toNat ∧ (t.gz n).tries = 0 ∧ t.rd (Reg.GZP.FAULT_NOW n) = 0 ∧
      t.blk (32 + n) = { s.blk (32 + n) with evtRaw := setBit (s.blk (32 + n)).evtRaw 0 true } ∧ (∀ m, m ≠ n.val → t.gz m = s.gz m)) ∧
    (∀ (f : BitVec 8) pi sw pa p1 p2 d, s.lineSt n = 1 → State.firstFaults f.toNat ≠ 0 → ∃ t, exec (.lineChecksDone n f pi sw pa p1 p2 d) s = .next t ∧ t.lineSt n = 2 ∧ (t.gz n).clean = 0 ∧
      t.rd (Reg.GZP.FAULT_NOW n) = W (State.firstFaults f.toNat) ∧ ∀ b, b < 8 → (State.firstFaults f.toNat).testBit b = true → bit (t.rd (Reg.GZP.LINE_FAULT n)) b = true) ∧
    (∀ (e f : BitVec 6) (d : BitVec 16) (l : BitVec 12), s.lineSt n = 3 → s.eyeMin n ≤ e.toNat → s.eyeMin n ≤ f.toNat → ∃ t, exec (.trainDone n e f d l) s = .next t ∧ t.lineSt n = 4 ∧
      t.rd (Reg.GZP.SEG_LEN n) = W l.toNat ∧ t.rd (Reg.GZP.LINE_TEMP n) = W (d.toNat + 0x10000 * d.toNat) ∧ fld (t.rd (Reg.GZP.EYE n)) 0 6 = e.toNat ∧
      (s.ringOn (n / 2) = false → fld (t.rd (Reg.GZP.NODES n)) 16 3 = 1 ∧
        ((s.gz n).wait = [] → s.gzFits n { type := 5, bcast := true, addr := 0, payload := [1, 0, 0, 0], train := 0 } →
          s.gzSent n { type := 5, bcast := true, addr := 0, payload := [1, 0, 0, 0], train := 0 } ∈ t.outbox)) ∧ ∀ p : Nat, p ≠ 32 + n → p ≠ 64 + n / 2 → t.blk p = s.blk p) ∧
    (∀ (e f : BitVec 6) (d : BitVec 16) (l : BitVec 12), s.lineSt n = 3 → e.toNat < s.eyeMin n ∨ f.toNat < s.eyeMin n → ∃ t, exec (.trainDone n e f d l) s = .next t ∧
      t.lineSt n = (if 2 ≤ (s.gz n).tries then 2 else 3) ∧ (t.gz n).tries = (s.gz n).tries + 1 ∧ (2 ≤ (s.gz n).tries → bit (t.rd (Reg.GZP.LINE_FAULT n)) 8 = true) ∧
      Notifies [32 + n] [Reg.GZP.LINE_STATUS n, Reg.GZP.LINE_FAULT n, Reg.GZP.FAULT_CNT n] { s with gzPorts := t.gzPorts } t) ∧
    (∀ f : BitVec 8, s.lineSt n = 2 → State.firstFaults f.toNat = 0 → s.rateMismatch n = false → ∃ t, exec (.lineFaultRecheck n f) s = .next t ∧
      t.lineSt n = (if 2 ≤ (s.gz n).clean then 1 else 2) ∧ (t.gz n).clean = (if 2 ≤ (s.gz n).clean then 0 else (s.gz n).clean + 1) ∧
      Notifies [32 + n] [Reg.GZP.LINE_STATUS n, Reg.GZP.FAULT_NOW n, Reg.GZP.CMD_STATUS n] { s with gzPorts := t.gzPorts } t) ∧
    (∀ f : BitVec 8, s.lineSt n = 2 → State.firstFaults f.toNat ≠ 0 → ∃ t, exec (.lineFaultRecheck n f) s = .next t ∧ t.lineSt n = 2 ∧ (t.gz n).clean = 0) ∧
    (∀ c, s.lineLive n = true → ∃ t, exec (.lineCondition n c) s = .next t ∧ t.lineLive n = false ∧ bit (t.rd (Reg.GZP.LINE_FAULT n)) (lineCondBit c) = true ∧
      t.rd (Reg.GZP.LOS_CNT n) = satInc (s.rd (Reg.GZP.LOS_CNT n))) ∧
    (s.lineLive n = true → ∃ t, exec (.lossOfSignal n) s = .next t ∧ t.lineLive n = false ∧ bit (t.rd (Reg.GZP.LINE_FAULT n)) 10 = true ∧
      t.rd (Reg.GZP.LOS_CNT n) = satInc (s.rd (Reg.GZP.LOS_CNT n))) ∧
    (s.lineLive n = false → exec (.lossOfSignal n) s = .next s)

/-- Retunes, TDR and leakage (R246 to R252, R257): an eye below its limit asks for a retune; on a chain it takes the line to RETUNE and a READY block to CAL; it ends UP with the new eye or with the line lost. A line command that its line cannot take is answered with its
result and nothing else; one that it can runs and its end is reported. A leakage measurement gives its two values, and the first below the threshold is reported. LINE_CMD in STARTING and what a retune records are the model's readings (log entries 34 and 35), and the rounding of
distances and of the leakage its choice (log entry 116). -/
def Obligations.RetunesTdrAndLeakage : Prop :=
  ∀ (n : Fin 32) (s : State),
    let answer := fun (c : Instr) (v : Nat) => ∃ t, exec c s = .next t ∧ t.rd (Reg.GZP.CMD_STATUS n) = W v ∧
      Writes [] [Reg.GZP.CMD_STATUS n] (s.claimed (Reg.GZP.LINE_CMD n)) t
    let starts := fun (c : Instr) (v : Nat) (g : GzPort) => ∃ t, exec c s = .next t ∧ t.rd (Reg.GZP.CMD_STATUS n) = W v ∧ t.gz n = g ∧ (∀ m, m ≠ n.val → t.gz m = s.gz m) ∧
      Writes [] [Reg.GZP.CMD_STATUS n] { s.claimed (Reg.GZP.LINE_CMD n) with gzPorts := t.gzPorts } t
    let live := (s.blk (32 + n)).enable = true ∧ s.code (32 + n) ≠ 0 ∧ s.code (32 + n) ≠ 3 ∧ s.code (32 + n) ≠ 4 ∧ s.code (32 + n) ≠ 7
    (∀ r, s.gate r (32 + n) 0 = .pass → (s.blk (32 + n)).enable = false →
      answer (.remeasure r n) 0x50 ∧ answer (.retune r n) 0x51 ∧ answer (.tdr r n) 0x52 ∧ answer (.leak r n) 0x53) ∧
    (∀ r, s.gate r (32 + n) 0 = .pass → live →
      (s.lineSt n = 2 → answer (.remeasure r n) 0x10) ∧ (s.lineSt n = 1 ∨ s.lineSt n = 3 → answer (.remeasure r n) 0x30) ∧
      (s.lineLive n = true → ∃ t, exec (.remeasure r n) s = .next t ∧ t.lineLive n = false) ∧
      (s.lineSt n = 4 → starts (.retune r n) 0x11 { s.gz n with retuneWant := true }) ∧ (s.lineSt n = 3 ∨ s.lineSt n = 5 → answer (.retune r n) 0x31) ∧
      (s.lineSt n < 3 → starts (.tdr r n) 0x12 { s.gz n with tdrWait := true }) ∧ (s.lineSt n = 3 → answer (.tdr r n) 0x32) ∧ (s.lineSt n = 4 → s.mode ≠ .service → answer (.tdr r n) 0x42) ∧
      (s.lineSt n = 4 ∨ s.lineSt n = 5 → s.leakMay n = true → (s.gz n).leakRun = false → starts (.leak r n) 0x13 { s.gz n with leakRun := true }) ∧
      (s.lineSt n = 4 ∨ s.lineSt n = 5 → s.leakMay n = false → answer (.leak r n) 0x43)) ∧
    (∀ (e : BitVec 6) d, s.lineSt n = 4 → bit (s.rd (Reg.GZP.LINE_CTL n)) 12 = true → (s.gz n).retuneTrig = false →
      e.toNat < Nat.min (fld (s.rd (Reg.GZP.EQ_CFG n)) 8 6) (s.eyeMin n - 1) → ∃ t, exec (.retuneTrigger n e d) s = .next t ∧ t.gz n = { s.gz n with retuneWant := true, retuneTrig := true } ∧
      fld (t.rd (Reg.GZP.EYE n)) 0 6 = e.toNat ∧ bit (t.blk (32 + n)).evtRaw 3 = true ∧ Notifies [32 + n] [Reg.GZP.EYE n, Reg.GZP.LINE_TEMP n] { s with gzPorts := t.gzPorts } t) ∧
    (∀ idle (d : BitVec 16), s.lineSt n = 4 → (s.gz n).retuneWant = true → (s.gz n).retuneReady = true ∨ idle = true → s.ringOn (n / 2) = false →
      ∃ t, exec (.retuneStart n idle d) s = .next t ∧ t.lineSt n = 5 ∧ (t.gz n).retuneWant = false ∧ fld (t.rd (Reg.GZP.LINE_TEMP n)) 0 16 = d.toNat ∧
      t.rd (Reg.GZP.RETUNES n) = s.rd (Reg.GZP.RETUNES n) + 1 ∧ (s.code (32 + n) = 2 → t.code (32 + n) = 5 ∧ (t.blk (32 + n)).stale = !(s.blk (32 + n)).hold)) ∧
    (∀ (e f : BitVec 6) d, s.lineSt n = 5 → s.eyeMin n ≤ e.toNat → s.eyeMin n ≤ f.toNat → ∃ t, exec (.retuneDone n e f d) s = .next t ∧ t.lineSt n = 4 ∧ t.code (32 + n) ≠ 5 ∧
      fld (t.rd (Reg.GZP.EYE n)) 0 6 = e.toNat ∧ bit (t.blk (32 + n)).evtRaw 3 = true ∧ (s.code (32 + n) = 5 → (t.blk (32 + n)).stale = false)) ∧
    (∀ (e f : BitVec 6) d, s.lineSt n = 5 → e.toNat < s.eyeMin n ∨ f.toNat < s.eyeMin n → ∃ t, exec (.retuneDone n e f d) s = .next t ∧ t.lineLive n = false ∧ bit (t.rd (Reg.GZP.LINE_FAULT n)) 8 = true) ∧
    (∀ p1 p2, s.lineSt n = 1 ∨ (s.lineSt n = 2 ∧ (s.gz n).tdrWait = true) → ∃ t, exec (.tdrDone n p1 p2) s = .next t ∧ (t.gz n).tdrWait = false ∧
      ∀ i, i < 4 → t.rd (Reg.GZP.TDR_P1 n i) = State.tdrWord (s.nvp n) p1 i ∧ t.rd (Reg.GZP.TDR_P2 n i) = State.tdrWord (s.nvp n) p2 i) ∧
    (∀ sec, s.lineSt n = 4 → s.leakMay n = true → (s.gz n).leakRun = false → s.leakPeriod n ≤ sec → exec (.leakPeriod n sec) s = .next (s.setGz n { s.gz n with leakRun := true })) ∧
    (∀ l : LeakReadings, (s.gz n).leakRun = true → ∃ t, exec (.leakDone n l) s = .next t ∧ (t.gz n).leakRun = false ∧
      (t.rd (Reg.GZP.LEAK n)).toNat = State.leakMean l.p1Plus l.p1Minus + 0x10000 * State.leakMean l.p2Plus l.p2Minus ∧
      bit (t.rd (Reg.GZP.LINE_STATUS n)) 7 = true ∧
      ((s.gz n).leakLow = false → State.leakMean l.p1Plus l.p1Minus < fld (s.rd (Reg.GZP.LEAK_CFG n)) 0 16 → bit (t.blk (32 + n)).evtRaw 2 = true ∧ (t.gz n).leakLow = true))

/-- The Gyzor protocol on a chain and on a ring (R127, R259, R262, R263, R267, R270, R272 to R274, R277, R278, R280, R285, R286): what each command of it sends and records. A frame that the open window cannot take waits. One command for each PIX frame, the
primary end and the windows are the model's choices (log entries 36, 37, 79, 80), and so is RT on a closed ring (log entry 118). -/
def Obligations.ChainsEnumerateAndRun : Prop :=
  ∀ (n : Fin 32) (s : State),
    let chain := s.ringOn (n / 2) = false ∧ s.lineUp n = true
    let enum := fld (s.rd (Reg.GZP.NODES n)) 16 3
    let sync : GzReq := { type := 3, bcast := true, addr := 0, payload := s.syncFor n 0 n, train := 0 }
    let ready := chain ∧ s.gzHeld n = false ∧ s.mode ≠ .hold ∧ s.gzDiscards n = 0
    (∀ next : BitVec 16, chain → enum = 1 → ∃ t, exec (.assignReturn n next) s = .next t ∧ fld (t.rd (Reg.GZP.NODES n)) 16 3 = 2 ∧
      fld (t.rd (Reg.GZP.NODES n)) 0 13 = Nat.min 4096 next.toNat ∧ bit (t.rd (Reg.GZP.NODES n)) 13 = decide (4096 < next.toNat) ∧ (∀ a, a < 4096 → t.gzNode n a = GzNode.init) ∧
      (t.gz n).ranged = 1 ∧ t.plan = s.plan) ∧
    (∀ (a : Fin 4096) c f b, chain → enum = 3 → a < s.gzCount n → (gzRx c).frame = some f → State.frameIs f 5 3 32 = true → (s.gzNode n a).desc = none →
      b ≠ a.val → b < s.gzCount n → (s.gzNode n b).desc = none → (s.gzNode n b).tries < 3 →
      ∃ t, exec (.descRx n a c) s = .next t ∧ t.gzNode n a = { s.gzNode n a with desc := some ((f.drop 12).take 28) } ∧ (∀ x, x ≠ a.val → x < 4096 → t.gzNode n x = s.gzNode n x) ∧
        Writes [] [Reg.GZP.CODE_ERR n] { s with gzNodes := t.gzNodes } t) ∧
    (∀ (a : Fin 4096) c, chain → (gzRx c).frame = none → ∀ i, i = Instr.descRx n a c ∨ i = Instr.nodeStatusRx n a c → ∃ t, exec i s = .next t ∧
      t.rd (Reg.GZP.RX_BAD n) = satInc (s.rd (Reg.GZP.RX_BAD n)) ∧ t.rd (Reg.GZP.CODE_ERR n) = satAdd (s.rd (Reg.GZP.CODE_ERR n)) (gzRx c).errs ∧
      Writes [] [Reg.GZP.RX_BAD n, Reg.GZP.CODE_ERR n] s t) ∧
    (∀ a : Fin 4096, chain → enum = 5 → a < s.gzCount n → (s.gzNode n a).tries < 2 → ∃ t r, exec (.replySlotMiss n a) s = .next t ∧
      (t.gzNode n a).tries = (s.gzNode n a).tries + 1 ∧ r.type = 4 ∧ r.addr = a.val ∧ s.gzGoes t n r ∧ t = { s with gzNodes := t.gzNodes, gzPorts := t.gzPorts, outbox := t.outbox }) ∧
    (∀ a : Fin 4096, chain → enum = 5 → a < s.gzCount n → (s.gzNode n a).tries = 2 → ∃ t, exec (.replySlotMiss n a) s = .next t ∧
      t.rd (Reg.GZP.REPLY_MISS n) = satInc (s.rd (Reg.GZP.REPLY_MISS n)) ∧ bit (t.blk (32 + n)).evtRaw 7 = true ∧
      Notifies [32 + n] [Reg.GZP.REPLY_MISS n] { s with gzNodes := t.gzNodes } t) ∧
    (∀ r, s.passes r (Reg.GZP.PROTO_CMD n) → chain → ∃ t, exec (.reenum r n) s = .next t ∧ fld (t.rd (Reg.GZP.NODES n)) 16 3 = 1 ∧ bit (t.rd (Reg.GZP.NODES n)) 14 = false ∧
      s.gzGoes t n { type := 5, bcast := true, addr := 0, payload := [1, 0, 0, 0], train := 0 } ∧
      Writes [] [Reg.GZP.NODES n] { s.claimed (Reg.GZP.PROTO_CMD n) with gzPorts := t.gzPorts, outbox := t.outbox } t) ∧
    (∀ r, s.passes r (Reg.GZP.PROTO_CMD n) → chain → (s.gz n).wait = [] → ∃ t l, exec (.resendConfig r n) s = .next t ∧ t.outbox = s.outbox ++ l ∧
      l.length + (t.gz n).wait.length = s.gzCount n ∧ t = { s.claimed (Reg.GZP.PROTO_CMD n) with gzPorts := t.gzPorts, outbox := t.outbox }) ∧
    (∀ ms, chain → enum = 5 → s.pollPeriod n ≤ ms → (s.gz n).wait = [] → ∃ t l, exec (.pollCycle n ms) s = .next t ∧ t.outbox = s.outbox ++ l ∧
      l.length + (t.gz n).wait.length = (if s.gzCount n = 0 then 0 else 1) ∧
      t.rd (Reg.GZP.MISS_SUM n) = W (((List.range (s.gzCount n)).map (fun a => (s.gzNode n a).miss)).foldl (· + ·) 0) ∧
      (∀ a, a < s.gzCount n → (t.gzNode n a).tries = 0) ∧ Writes [] [Reg.GZP.MISS_SUM n] { s with gzNodes := t.gzNodes, gzPorts := t.gzPorts, outbox := t.outbox } t) ∧
    (∀ (a : Fin 4096) c f, chain → enum = 5 → a < s.gzCount n → (gzRx c).frame = some f → State.frameIs f 4 6 24 = true → ∃ t, exec (.nodeStatusRx n a c) s = .next t ∧
      (t.gzNode n a).tSink = W (leAt f 12 2) ∧ (t.gzNode n a).flags = byteAt f 14 ∧ (t.gzNode n a).miss = leAt f 20 2 ∧ (t.gzNode n a).castles = leAt f 22 2 ∧ (t.gzNode n a).tries = 0 ∧
      (∀ b, b ≠ 4096 * n.val + a.val → Sparse.get (fun _ => GzNode.init) t.gzNodes b = Sparse.get (fun _ => GzNode.init) s.gzNodes b) ∧ t.plan = s.plan ∧ t.mode = s.mode) ∧
    (∀ a b skew, chain → enum ≠ 2 → s.syncPeriod n ≤ a ∨ s.gzDetect n ≤ 4 * b → (s.gz n).wait = [] → ∃ t, exec (.syncSend n a b skew) s = .next t ∧
      (s.gzFits n sync → t.outbox = s.outbox ++ [s.gzSent n sync] ∧ t.rd (Reg.GZP.RT n) = W (match (s.gz n).echo with | some x => x.2 | none => 0) ∧
        (t.gz n).seq = ((s.gz n).seq + 1) % 65536) ∧
      (¬ s.gzFits n sync → (t.gz n).wait = [{ sync with payload := [] }] ∧ t.outbox = s.outbox) ∧
      Writes [] [Reg.GZP.RT n] { s with gzPorts := t.gzPorts, outbox := t.outbox } t) ∧
    (∀ a b skew, chain → enum ≠ 2 → a < s.syncPeriod n → 4 * b < s.gzDetect n → exec (.syncSend n a b skew) s = .next s) ∧
    (∀ (q : BitVec 16) (rt : Word), chain → enum ≠ 2 → ∃ t, exec (.syncReturn n true q rt) s = .next t ∧ t.gz n = { s.gz n with echo := some (q.toNat, rt.toNat) } ∧
      t.rd (Reg.GZP.D_FAR n) = W (s.chainFar n rt.toNat) ∧ Writes [] [Reg.GZP.D_FAR n] { s with gzPorts := t.gzPorts } t) ∧
    (∀ (q : BitVec 16) (rt : Word), chain → enum = 2 → 3 ≤ (s.gz n).ranged → 0 < s.gzCount n → (s.gzNode n 0).desc = none → (s.gzNode n 0).tries < 3 →
      ∃ t, exec (.syncReturn n true q rt) s = .next t ∧ (t.gz n).echo = some (q.toNat, rt.toNat) ∧ t.rd (Reg.GZP.D_FAR n) = W (s.chainFar n rt.toNat) ∧
        fld (t.rd (Reg.GZP.NODES n)) 16 3 = 3) ∧
    (∀ z k ps l run rest, ready → s.nextPix n = some (z, k, ps, l) → s.nextStrike n = none → (s.gz n).retuneReady = false →
      State.firstRun z (fun x => s.pixTakes n x.dest) (fun r => decide (s.pixNs n r < s.gateCycle n - s.gateCtrl n)) none l = (some run, rest) → s.pixNs n run < s.dataLeft n →
      ∃ t, exec (.pixSend n) s = .next t ∧ s.outbox ++ [s.gzSent n { type := 1, bcast := false, addr := run.dest, payload := pixPayload run k, train := 0 }] <+: t.outbox ∧
        t.rd (Reg.GZP.TX_PIX n) = s.rd (Reg.GZP.TX_PIX n) + 1 ∧ (z, k, ps) ∈ (t.gz n).begun ∧ (t.gz n).seq = ((s.gz n).seq + 1) % 65536) ∧
    (∀ z k ps l, chain → s.nextPix n = some (z, k, ps, l) → s.mode = .hold → s.frames.any (fun f => f.zone == z && f.k == k) = false → ∃ t, exec (.pixSend n) s = .next t ∧
      t.gz n = s.gz n ∧ t.rd (Reg.GZP.TX_PIX n) = s.rd (Reg.GZP.TX_PIX n) ∧ (t.gzTiles n).any (fun x => x.zone == z && x.k == k) = false) ∧
    (∀ i (lead : Word), ready → s.nextStrike n = some (i, lead) → lead.toNat < 2 ^ 31 → (s.gz n).retuneReady = false → s.symbolNs n (lineSymbols 24) < s.dataLeft n →
      s.frames.any (fun f => f.zone == i.zone && f.k == i.k) = false →
      ∃ t, exec (.strikeDepart n) s = .next t ∧ t.rd (Reg.GZP.TX_STRIKE n) = s.rd (Reg.GZP.TX_STRIKE n) + 1 ∧ (t.gzStrikes n).any (fun x => x.zone == i.zone && x.k == i.k) = false ∧
        (t.gz n).retuneReady = (s.gz n).retuneWant ∧
        s.outbox ++ [s.gzSent n { type := 2, bcast := true, addr := 0, payload := strikePayload i.zone (i.flags ||| 2 * b2n (s.blk (32 + n)).stale) i.k i.epoch lead, train := 0 }] <+: t.outbox) ∧
    (∀ i (lead : Word), chain → s.nextStrike n = some (i, lead) → s.mode ≠ .hold → s.gzDiscards n = 0 → 2 ^ 31 ≤ lead.toNat → s.frames.any (fun f => f.zone == i.zone && f.k == i.k) = false →
      ∃ t, exec (.strikeDepart n) s = .next t ∧ t.rd (Reg.GZP.STRIKE_IDLED n) = satInc (s.rd (Reg.GZP.STRIKE_IDLED n)) ∧ bit (t.blk (32 + n)).evtRaw 6 = true ∧ t.gz n = s.gz n ∧
        (t.gzStrikes n).any (fun x => x.zone == i.zone && x.k == i.k) = false) ∧
    (∀ r, chain → (s.gz n).wait = [r] → r.type ≠ 1 → r.type ≠ 2 → r.type ≠ 3 → ∃ t, exec (.gateCycle n) s = .next t ∧
      (s.gzFits n r → t.outbox = s.outbox ++ [s.gzSent n r] ∧ (t.gz n).wait = []) ∧ (¬ s.gzFits n r → t.outbox = s.outbox ∧ (t.gz n).wait = [r]) ∧
      t = { s with gzPorts := t.gzPorts, outbox := t.outbox }) ∧
    (∀ r (k : Fin 16) (v : Word), s.passes r (Reg.GZR.RING_CTL k) → (s.blk (32 + 2 * k)).enable = true ∨ (s.blk (33 + 2 * k)).enable = true →
      exec (.ringEnable r k v) s = .next ((s.claimed (Reg.GZR.RING_CTL k)).err (64 + k)) ∧ exec (.ringDisable r k v) s = .next ((s.claimed (Reg.GZR.RING_CTL k)).err (64 + k))) ∧
    (∀ r (k : Fin 16) (v : Word), s.passes r (Reg.GZR.RING_CTL k) → (s.blk (32 + 2 * k)).enable = false → (s.blk (33 + 2 * k)).enable = false →
      (∃ t, exec (.ringEnable r k v) s = .next t ∧ t.ringOn k = true ∧ ∀ o ∈ State.ringConfig, t.rd (0x21000 + 0x2000 * k + o) = s.rd (0x20000 + 0x2000 * k + o)) ∧
      (∃ t, exec (.ringDisable r k v) s = .next t ∧ t.ringOn k = false ∧ fld (t.rd (Reg.GZR.RING_STATUS k)) 0 3 = 0))

/-- Domino and DMX ports (R287, R289 to R300): a counted chain is UP; a fault takes the line to FAULT and three clean checks count it again; a shift whose instant can be met is latched at its PS and one that cannot is counted; an aligned packet carries
the frame's pips, the last one is repeated, and an input packet in error or with another START code is counted and dropped. A DMX fault that stays until the restart is the model's reading (log entry 84). -/
def Obligations.LocalPortsShowTheFrame : Prop :=
  ∀ s : State,
    (∀ r (n : Fin 16), s.passes r (Reg.DOM.CMD n) → s.domSt n = 2 ∨ s.domSt n = 3 → ∃ t, exec (.domRecount r n) s = .next t ∧ t.domSt n = 1 ∧ (t.domP n).shift = none ∧
      (t.domP n).latched = (s.domP n).latched ∧ (∀ m, m ≠ n.val → t.domP m = s.domP m) ∧
      t.rd (Reg.DOM.LAT_MISSED n) = (if (s.domP n).shift = none then s.rd (Reg.DOM.LAT_MISSED n) else satInc (s.rd (Reg.DOM.LAT_MISSED n))) ∧
      Notifies [80 + n] [Reg.DOM.LINE_STATUS n, Reg.DOM.LAT_MISSED n] { s.claimed (Reg.DOM.CMD n) with doms := t.doms } t) ∧
    (∀ r (n : Fin 16), s.passes r (Reg.DOM.CMD n) → s.domSt n = 1 → exec (.domRecount r n) s = .next ((s.claimed (Reg.DOM.CMD n)).err (80 + n))) ∧
    (∀ (n : Fin 16) (l : Fin 6145), s.domSt n = 1 → l ≠ 0 → ∃ t, exec (.domCountDone n (.length l)) s = .next t ∧ t.domSt n = 2 ∧ t.rd (Reg.DOM.CHAIN_LEN n) = W l ∧
      (80 + n.val) ∉ t.windows ∧ (fld (s.rd (Reg.DOM.CHAIN_LEN n)) 0 13 = l → t.plan = s.plan) ∧ (t.domP n).latched = (s.domP n).latched) ∧
    (∀ (n : Fin 16) b, s.domSt n = 1 → ∃ t, exec (.domCountDone n (.fault b)) s = .next t ∧ t.domSt n = 3 ∧ bit (t.rd (Reg.DOM.LINE_FAULT n)) b = true ∧
      t.rd (Reg.DOM.FAULT_CNT n) = satInc (s.rd (Reg.DOM.FAULT_CNT n)) ∧ bit (t.blk (80 + n)).evtRaw 1 = true) ∧
    (∀ n : Fin 16, s.domSt n = 3 → ∃ t, exec (.domFaultRecheck n 0) s = .next t ∧ t.domSt n = (if 2 ≤ (s.domP n).clean then 1 else 3) ∧
      (t.domP n).clean = (if 2 ≤ (s.domP n).clean then 0 else (s.domP n).clean + 1)) ∧
    (∀ (n : Fin 16) (f : BitVec 8), s.domSt n = 3 → f ≠ 0 → ∃ t, exec (.domFaultRecheck n f) s = .next t ∧ t.domSt n = 3 ∧ (t.domP n).clean = 0 ∧
      ∀ b, b < 8 → f.toNat.testBit b = true → bit (t.rd (Reg.DOM.LINE_FAULT n)) b = true) ∧
    (∀ (n : Fin 16) ret i stages, s.localStrike (80 + n) = some i → s.mode ≠ .hold → s.localHeld (80 + n) i.flags = false →
      stages = (if i.flags.testBit 2 then [] else State.domStages (s.localSlots (80 + n) (i.zone, i.k))) →
      ((s.domShiftNs n + 100 : Nat) : Int) ≤ (i.ps - (s.tb i.tb).count).toInt → s.domSt n = 2 → (s.domP n).shift = none → s.up (80 + n) = true →
      ret = (s.domP n).chain ∨ bit (s.rd (Reg.DOM.CFG n)) 4 = false → ∃ t, exec (.domShiftStart n ret) s = .next t ∧
        t.domP n = { s.domP n with shift := some { zone := i.zone, k := i.k, epoch := i.epoch, stages := stages }, chain := s.chainWords n stages, contErr := 0 } ∧
        s.outbox ++ [Emission.shift n (s.chainWords n stages)] <+: t.outbox ∧
        (s.frames = [] → t = { s with doms := t.doms, portQ := t.portQ, tileQ := t.tileQ, poolLow := t.poolLow, outbox := t.outbox })) ∧
    (∀ (n : Fin 16) ret i, s.localStrike (80 + n) = some i → s.mode ≠ .hold → s.localHeld (80 + n) i.flags = false →
      (i.ps - (s.tb i.tb).count).toInt < ((s.domShiftNs n + 100 : Nat) : Int) → ∃ t, exec (.domShiftStart n ret) s = .next t ∧ bit (t.blk (80 + n)).evtRaw 3 = true ∧
        t.rd (Reg.DOM.LAT_MISSED n) = satInc (s.rd (Reg.DOM.LAT_MISSED n)) ∧ t.doms = s.doms) ∧
    (∀ (n : Fin 16) f, (s.domP n).shift = some f → s.mode ≠ .hold → s.portHeld (80 + n) = false → ∃ t, exec (.domLat n) s = .next t ∧ t.domP n = { s.domP n with shift := none, latched := f.stages } ∧
      t.rd (Reg.DOM.LATCHES n) = s.rd (Reg.DOM.LATCHES n) + 1 ∧ t.outbox = s.outbox ++ [Emission.dom n (s.latWidth n) f.stages] ∧
      Writes [] [Reg.DOM.LATCHES n] { s with doms := t.doms, outbox := t.outbox } t) ∧
    (∀ (n : Fin 4) i, s.localStrike (96 + n) = some i → s.dmxOut n = true → s.mode ≠ .hold → s.localHeld (96 + n) i.flags = false →
      (((s.dmxPacket n + 1) * 1000 : Nat) : Int) ≤ (i.ps - (s.tb i.tb).count).toInt → s.dmxSt n = 1 → s.up (96 + n) = true → ∃ t l, exec (.dmxAlignedPacket n) s = .next t ∧
        l = State.dmxFill (s.dmxSlots n) (if i.flags.testBit 2 then [] else s.localSlots (96 + n) (i.zone, i.k)) ∧
        s.outbox ++ [Emission.dmx n (s.dmxBreak n) (s.dmxMab n) l] <+: t.outbox ∧ (t.dmxP n).slots = some l ∧ t.rd (Reg.DMX.TX_PKT n) = s.rd (Reg.DMX.TX_PKT n) + 1 ∧
        (s.frames = [] → Writes [] [Reg.DMX.TX_PKT n] { s with dmxs := t.dmxs, portQ := t.portQ, tileQ := t.tileQ, poolLow := t.poolLow, outbox := t.outbox } t)) ∧
    (∀ (n : Fin 4) l, (s.dmxP n).slots = some l → s.dmxOut n = true → s.dmxSt n = 1 → s.up (96 + n) = true → bit (s.rd (Reg.DMX.CFG n)) 1 = true →
      exec (.dmxRepeat n none) s = .next (s.emit (.dmx n (s.dmxBreak n) (s.dmxMab n) l))) ∧
    (∀ (n : Fin 4) brk mab c l f, brk < 88 ∨ mab < 8 → exec (.dmxPacketRx n brk mab c l f) s = .next s) ∧
    (∀ (n : Fin 4) brk mab c l, s.dmxOut n = false → s.dmxSt n = 1 → s.up (96 + n) = true → 88 ≤ brk → 8 ≤ mab →
      exec (.dmxPacketRx n brk mab c l true) s = .next (s.wr (Reg.DMX.RX_BAD n) (satInc (s.rd (Reg.DMX.RX_BAD n)))) ∧
      (l ≠ [] → c ≠ 0 → exec (.dmxPacketRx n brk mab c l false) s = .next (s.wr (Reg.DMX.ALT_SC n) (satInc (s.rd (Reg.DMX.ALT_SC n))))) ∧
      (l ≠ [] → ∃ t, exec (.dmxPacketRx n brk mab 0 l false) s = .next t ∧ t.rd (Reg.DMX.RX_PKT n) = s.rd (Reg.DMX.RX_PKT n) + 1 ∧
        t.dmxP n = { s.dmxP n with live := true } ∧ (∀ m, m ≠ n.val → t.dmxP m = s.dmxP m) ∧ t.plan = s.plan)) ∧
    (∀ n : Fin 4, s.dmxSt n ≠ 0 → s.dmxOut n = false → exec (.dmxLineFault n 4) s = .next (s.wr (Reg.DMX.LINE_STATUS n) (setBit (s.rd (Reg.DMX.LINE_STATUS n)) 4 true))) ∧
    (∀ (n : Fin 4) (b : Fin 5), s.dmxSt n ≠ 0 → b ≠ 4 → (b = 2 → s.dmxOut n = true) → ∃ t, exec (.dmxLineFault n b) s = .next t ∧ bit (t.rd (Reg.DMX.LINE_FAULT n)) b = true ∧ bit (t.blk (96 + n)).evtRaw 1 = true ∧
      (b = 2 → t.dmxSt n = s.dmxSt n) ∧ (b ≠ 2 → t.dmxSt n ≠ 1)) ∧
    (s.mode ≠ .hold → exec .safeLookResend s = .next s) ∧
    (s.mode = .hold → ∃ t l, exec .safeLookResend s = .next t ∧ t.outbox = s.outbox ++ l ∧ t.plan = s.plan ∧ t.mode = .hold ∧ t.frames = s.frames ∧ t.blocks = s.blocks)

/-- RDM and the site inputs and outputs (R301 to R306, R308): a request is staged with the next transaction number or answered BUSY; a response stores its data and its result; discovery stores at most 512 UIDs, which are read in turn; an input
reports its value and its status; an enabled edge is stamped and reported; an armed change is made at its instant on outputs without a fault. The fields of a request, a value that does not fit and
when staged outputs are read are the model's (log entries 39, 40 and 128). -/
def Obligations.RdmAndSiteIo : Prop :=
  ∀ s : State,
    (∀ r (n : Fin 4), s.passes r (Reg.DMX.RDM_CMD n) → s.dmxOut n = true → bit (s.rd (Reg.DMX.CFG n)) 2 = true → (s.dmxP n).rdm = none →
      (∃ t, exec (.rdmSend r n) s = .next t ∧ t.dmxP n = { s.dmxP n with rdm := some 1, req := s.rdmBytes n, acc := [], tn := ((s.dmxP n).tn + 1) % 256 } ∧
        t.rd (Reg.DMX.RDM_STATUS n) = 1 ∧ Writes [] [Reg.DMX.RDM_STATUS n] { s.claimed (Reg.DMX.RDM_CMD n) with dmxs := t.dmxs } t) ∧
      (∃ t, exec (.rdmDiscover r n) s = .next t ∧ (t.dmxP n).rdm = some 2 ∧ t.rd (Reg.DMX.RDM_STATUS n) = 1 ∧
        Writes [] [Reg.DMX.RDM_STATUS n] { s.claimed (Reg.DMX.RDM_CMD n) with dmxs := t.dmxs } t)) ∧
    (∀ r (n : Fin 4), s.passes r (Reg.DMX.RDM_CMD n) → s.dmxOut n = true → bit (s.rd (Reg.DMX.CFG n)) 2 = true → (s.dmxP n).rdm ≠ none → ∃ t, exec (.rdmSend r n) s = .next t ∧
      t.rd (Reg.DMX.RDM_STATUS n) = 8 ∧ bit (t.blk (96 + n)).evtRaw 2 = true ∧ Notifies [96 + n] [Reg.DMX.RDM_STATUS n] (s.claimed (Reg.DMX.RDM_CMD n)) t) ∧
    (∀ (n : Fin 4) d, (s.dmxP n).rdm = some 1 →
      (∃ t, exec (.rdmResponseRx n .ack d) s = .next t ∧ (t.dmxP n).rdm = none ∧
        t.rd (Reg.DMX.RDM_STATUS n) = W (2 + 0x10000 * ((((s.dmxP n).acc ++ d).take 1024).length)) ∧
        (∀ i, i < 256 → t.rd (Reg.DMX.RDM_RSP n i) = W (leAt (((s.dmxP n).acc ++ d).take 1024) (4 * i) 4)) ∧ bit (t.blk (96 + n)).evtRaw 2 = true) ∧
      (∃ t, exec (.rdmResponseRx n .ackOverflow d) s = .next t ∧ (t.dmxP n).rdm = some 1 ∧ (t.dmxP n).acc = ((s.dmxP n).acc ++ d).take 1024 ∧
        (t.dmxP n).tn = ((s.dmxP n).tn + 1) % 256) ∧
      (∃ t, exec (.rdmTimeout n) s = .next t ∧ (t.dmxP n).rdm = none ∧ t.rd (Reg.DMX.RDM_STATUS n) = 6 ∧ Emission.rdm n (s.dmxP n).req ∈ t.outbox) ∧
      (∃ t, exec (.rdmNoGap n) s = .next t ∧ (t.dmxP n).rdm = none ∧ t.rd (Reg.DMX.RDM_STATUS n) = 5 ∧
        Notifies [96 + n] [Reg.DMX.RDM_STATUS n] { s with dmxs := t.dmxs } t)) ∧
    (∀ (n : Fin 4) l, (s.dmxP n).rdm = some 2 → ∃ t, exec (.rdmDiscoveryDone n l) s = .next t ∧ (t.dmxP n).uids = l.take 512 ∧ (t.dmxP n).rdm = none ∧
      t.rd (Reg.DMX.UID_COUNT n) = W (l.take 512).length ∧ t.rd (Reg.DMX.RDM_STATUS n) = 9) ∧
    (∀ r (n : Fin 4), s.reads r (Reg.DMX.UID_DATA_HI n) → ∃ t, exec (.uidDataRead r n) s = .next t ∧
      t.outbox = s.outbox ++ [Emission.read r (Reg.DMX.UID_DATA_HI n) (W (s.uidAt n / 2 ^ 32))] ∧
      fld (t.rd (Reg.DMX.UID_INDEX n)) 0 9 = (fld (s.rd (Reg.DMX.UID_INDEX n)) 0 9 + 1) % 512 ∧ Writes [] [Reg.DMX.UID_INDEX n] { s with outbox := t.outbox } t) ∧
    (∀ (i : Fin 8) l p, s.up 100 = true → s.ainMean i l = none → exec (.ainUpdate i l p) s = .next s) ∧
    (∀ (i : Fin 8) l (v : Int) p, s.up 100 = true → s.ainMean i l = some v → 0 ≤ v → v < 65536 → fld (s.rd (Reg.SIO.AIN_CFG i)) 0 2 = 1 ∨ fld (s.rd (Reg.SIO.AIN_CFG i)) 0 2 = 2 →
      ∃ t, exec (.ainUpdate i l p) s = .next t ∧ (t.rd (Reg.SIO.AIN i)).toNat = v.toNat + 0x10000 * State.ainStatus (fld (s.rd (Reg.SIO.AIN_CFG i)) 0 2) v p ∧
        Notifies [100] [Reg.SIO.AIN i] s t) ∧
    (∀ (j : Fin 8) mv ua l, s.up 100 = true → bit (s.rd Reg.SIO.DIN_CFG) (4 * j) = true → s.mode ≠ .doze →
      (State.dinReads (bit (s.rd Reg.SIO.DIN_CFG) (4 * j + 1)) mv ua).1 = some l → ∃ t, exec (.dinEdge j mv ua) s = .next t ∧ bit (t.rd Reg.SIO.DIN_STATE) j = l ∧
      bit (t.rd Reg.SIO.DIN_STATE) (8 + j) = false ∧ bit (t.rd Reg.SIO.DIN_STATE) (16 + j) = decide (mv < -1000) ∧
      (bit (s.rd Reg.SIO.DIN_STATE) j ≠ l → s.dinEnabled j l = true → t.rd (Reg.SIO.DIN_STAMP j) = (s.tb 0).count ∧ bit (t.blk 100).evtRaw 1 = true) ∧
      (bit (s.rd Reg.SIO.DIN_STATE) j = l ∨ s.dinEnabled j l = false → Writes [] [Reg.SIO.DIN_STATE] s t)) ∧
    (∀ r v, s.passes r Reg.SIO.ACT_GO → (s.blk 100).hold = false →
      exec (.actGo r v) s = .next { s.claimed Reg.SIO.ACT_GO with actArm := s.actArm ++ [(fld v 0 4, s.rd Reg.SIO.ACT_PT, bit v 4 || serialLt (s.rd Reg.SIO.ACT_PT) (s.tb 0).count)] }) ∧
    (∀ r v, s.passes r Reg.SIO.ACT_GO → (s.blk 100).hold = true → exec (.actGo r v) s = .next ((s.claimed Reg.SIO.ACT_GO).err 100)) ∧
    (∀ mask pt now (m : Fin 4), s.actArm = [(mask, pt, now)] → mask.testBit m = true → now = true ∨ serialGe (s.tb 0).count pt = true →
      (s.blk 100).hold = false → s.mode ≠ .hold → s.mode ≠ .doze → s.up 100 = true → ∃ t, exec .actApply s = .next t ∧ t.actArm = [] ∧
        bit (t.rd Reg.SIO.ACT_STATUS) (4 * m) = (if fld (s.rd Reg.SIO.ACT_STATUS) (4 * m + 1) 3 = 0 then bit (s.rd (Reg.SIO.ACT_CTL m)) 0 else bit (s.rd Reg.SIO.ACT_STATUS) (4 * m)) ∧
        Writes [] [Reg.SIO.ACT_STATUS] { s with actArm := [] } t) ∧
    (∀ (m : Fin 4) (k : Fin 3), ∃ t, exec (.actFault m k) s = .next t ∧ bit (t.rd Reg.SIO.ACT_STATUS) (4 * m) = false ∧ bit (t.rd Reg.SIO.ACT_STATUS) (4 * m.val + 1 + k.val) = true ∧
      bit (t.blk 100).evtRaw 2 = true ∧ Notifies [100] [Reg.SIO.ACT_STATUS] s t) ∧
    (∀ r v (m : Fin 4), s.passes r Reg.SIO.ACT_CLEAR → ∃ t, exec (.actClear r v) s = .next t ∧
      fld (t.rd Reg.SIO.ACT_STATUS) (4 * m + 1) 3 = (if bit v m then 0 else fld (s.rd Reg.SIO.ACT_STATUS) (4 * m + 1) 3) ∧
      bit (t.rd Reg.SIO.ACT_STATUS) (4 * m) = bit (s.rd Reg.SIO.ACT_STATUS) (4 * m) ∧ Writes [] [Reg.SIO.ACT_STATUS] (s.claimed Reg.SIO.ACT_CLEAR) t)

/-- The Ethernet ports (R125, R126, R310 to R327): a frame in error, filtered, of another VLAN or unclaimed is counted and dropped and a claimed one is counted as received; the frame of an open queue leaves with its FCS and its stamp, and that of a paused or closed one waits; the SFP
reports; a gate list is staged, switched at its base and stepped; preemption verifies; pause frames and their watchdog act on the queues; a match wakes in DOZE. Stamps in whole ns are the model's reading (log entry 42), and the lengths of headers
and fragments are presumed (log entry 120). -/
def Obligations.EthernetPortsRun : Prop :=
  ∀ (n : Fin 4) (s : State),
    let len := fun (f : EthFrame) => f.bytes.length + 4
    let ok := fun (f : EthFrame) => 64 ≤ len f ∧ len f ≤ 1522
    let dest := fun (f : EthFrame) => (ethView f.bytes).dest
    let vlan := fun (f : EthFrame) => ((ethView f.bytes).tagged = true ∧ (ethView f.bytes).vid = s.ethVid n) ∨ ((ethView f.bytes).tagged = false ∧ s.ethVid n = 0)
    (∀ u (v : BitVec 3) fec, s.reach (104 + n) = true → s.code (104 + n) ≠ 0 → ∃ t, exec (.ethLinkChange n u v fec) s = .next t ∧
      bit (t.rd (Reg.ETH.LINK_STATUS n)) 0 = (u && s.linkCan n v.toNat fec) ∧
      (u = true → s.linkCan n v.toNat fec = true → fld (t.rd (Reg.ETH.LINK_STATUS n)) 1 3 = v.toNat) ∧ bit (t.blk (104 + n)).evtRaw 0 = true) ∧
    (∀ f, s.ethUp n = true → len f < 64 ∨ 9216 < len f → exec (.ethFrameRx n f) s = .next (s.wr (Reg.ETH.RX_LEN n) (satInc (s.rd (Reg.ETH.RX_LEN n))))) ∧
    (∀ f, s.ethUp n = true → ok f → f.fcsOk = false → exec (.ethFrameRx n f) s = .next (s.wr (Reg.ETH.RX_CRC n) (satInc (s.rd (Reg.ETH.RX_CRC n))))) ∧
    (∀ f, s.ethUp n = true → ok f → f.fcsOk = true → s.ethDest n (dest f) = none →
      exec (.ethFrameRx n f) s = .next (s.wr (Reg.ETH.RX_FILTERED n) (satInc (s.rd (Reg.ETH.RX_FILTERED n))))) ∧
    (∀ f km, s.ethUp n = true → ok f → f.fcsOk = true → s.ethDest n (dest f) = some km → ¬ vlan f →
      exec (.ethFrameRx n f) s = .next (s.wr (Reg.ETH.RX_VLAN n) (satInc (s.rd (Reg.ETH.RX_VLAN n))))) ∧
    (∀ f kind m, s.ethUp n = true → ok f → f.fcsOk = true → s.ethDest n (dest f) = some (kind, m) → vlan f →
      (s.ethClass n (ethView f.bytes) = none → exec (.ethFrameRx n f) s = .next (s.wr (Reg.ETH.RX_UNCLAIMED n) (satInc (s.rd (Reg.ETH.RX_UNCLAIMED n))))) ∧
      (∀ c page, s.ethClass n (ethView f.bytes) = some (c, page) → c ≠ 5 → (s.eth n).rxHold = [] → (s.rxPacket n c kind m f).length ≤ State.rxShare n c →
        let takes := if c = 0 then s.proc 0 == 2 else if c = 4 then s.proc 2 == 2 else s.grants page
        ∃ t, exec (.ethFrameRx n f) s = .next t ∧ t.rd (Reg.ETH.RX_OK n) = s.rd (Reg.ETH.RX_OK n) + 1 ∧
          t.outbox = s.outbox ++ (if takes then [Emission.rxFrame n c (s.rxPacket n c kind m f)] else []) ∧
          (t.eth n).rxHold = (if takes then [] else [(c, page, s.rxPacket n c kind m f)]) ∧ Writes [] [Reg.ETH.RX_OK n] { s with eths := t.eths, outbox := t.outbox } t) ∧
      (∀ page x, s.ethClass n (ethView f.bytes) = some (3, page) → s.grants page = false → (s.eth n).rxHold = [(3, page, x)] → State.rxShare n 3 < x.length + (s.rxPacket n 3 kind m f).length →
        ∃ t, exec (.ethFrameRx n f) s = .next t ∧ t.rd (Reg.ETH.RX_DROP n 3) = satInc (s.rd (Reg.ETH.RX_DROP n 3)) ∧ bit (t.blk (104 + n)).evtRaw 1 = true ∧
          (t.eth n).rxHold = (s.eth n).rxHold ∧ ∀ p, Emission.rxFrame n 3 p ∈ t.outbox → Emission.rxFrame n 3 p ∈ s.outbox)) ∧
    (∀ f, s.ethUp n = true → s.sfpTxOff n = false → (s.pq (16256 + 2 * n)).items.any (fun i => itemEop i.item) = false → (s.eth n).free ≤ s.clock → (s.eth n).left = none →
      (s.eth n).txq = [f] → f.queue < 8 → bit (s.rd (Reg.ETH.PAUSE_STATE n)) f.queue = false → s.gateFits n f.queue (State.lineNs n f.len) = true →
      ∃ t, exec (.ethFrameTx n) s = .next t ∧ t.rd (Reg.ETH.TX_OK n) = s.rd (Reg.ETH.TX_OK n) + 1 ∧ (t.eth n).cur = some (f, s.clock, 0) ∧
        (∀ l, f.body = .host l → (t.eth n).txq = [] ∧ Emission.eth n 0 (l ++ leBytes 4 (Crypto.crc32 l).toNat) ∈ t.outbox) ∧ (∀ e k, f.body = .own e k → e ∈ t.outbox) ∧
        (∀ id, f.stamp = some id → (s.eth n).tsq.length < 16 → (t.eth n).tsq.length = (s.eth n).tsq.length + 1) ∧ (f.stamp = none → (t.eth n).tsq = (s.eth n).tsq)) ∧
    (∀ f, s.ethUp n = true → (s.pq (16256 + 2 * n)).items.any (fun i => itemEop i.item) = false → (s.eth n).free ≤ s.clock → (s.eth n).left = none →
      (s.eth n).txq = [f] → bit (s.rd (Reg.ETH.PAUSE_STATE n)) f.queue = true ∨ s.gateFits n f.queue (State.lineNs n f.len) = false → exec (.ethFrameTx n) s = .next s) ∧
    (∀ r, s.reads r (Reg.ETH.TSQ_HI n) → ∃ t, exec (.tsqPop r n) s = .next t ∧ (t.eth n).tsq = (s.eth n).tsq.drop 1 ∧
      t.outbox = s.outbox ++ [Emission.read r (Reg.ETH.TSQ_HI n) (W (s.tsqHead n / 2 ^ 32))] ∧ t = { s with eths := t.eths, outbox := t.outbox }) ∧
    (∀ (m : Fin 2) i d, s.reach (104 + m) = true → ∃ t, exec (.sfpInsert m i d) s = .next t ∧
      t.rd (Reg.ETH.SFP_STATUS m) = W (if s.proc 2 = 2 then 1 + 4 * b2n i + 8 * b2n d else 1) ∧ bit (t.blk (104 + m)).evtRaw 4 = true ∧
      Notifies [104 + m] [Reg.ETH.SFP_STATUS m] s t) ∧
    (∀ m : Fin 2, s.reach (104 + m) = true → ∃ t, exec (.sfpRemove m) s = .next t ∧ t.rd (Reg.ETH.SFP_STATUS m) = 0 ∧ bit (t.blk (104 + m)).evtRaw 4 = true ∧
      Notifies [104 + m] [Reg.ETH.SFP_STATUS m, Reg.ETH.SFP_DIAG0 m, Reg.ETH.SFP_DIAG1 m, Reg.ETH.SFP_DIAG2 m] s t) ∧
    (∀ m : Fin 2, s.reach (104 + m) = true → bit (s.rd (Reg.ETH.SFP_STATUS m)) 0 = true → ∃ t, exec (.sfpTxFault m) s = .next t ∧
      bit (t.rd (Reg.ETH.SFP_STATUS m)) 1 = true ∧ t.sfpTxOff m = true ∧ bit (t.blk (104 + m)).evtRaw 4 = true ∧ Notifies [104 + m] [Reg.ETH.SFP_STATUS m] s t) ∧
    (∀ (m : Fin 2) a b c, s.proc 2 = 2 → s.mode ≠ .doze → bit (s.rd (Reg.ETH.SFP_STATUS m)) 0 = true → bit (s.rd (Reg.ETH.SFP_STATUS m)) 3 = true → ∃ t, exec (.sfpDiagPoll m a b c) s = .next t ∧
      t.rd (Reg.ETH.SFP_DIAG0 m) = a ∧ t.rd (Reg.ETH.SFP_DIAG1 m) = b ∧ t.rd (Reg.ETH.SFP_DIAG2 m) = c &&& 0xFFFF ∧
      Writes [] [Reg.ETH.SFP_DIAG0 m, Reg.ETH.SFP_DIAG1 m, Reg.ETH.SFP_DIAG2 m] s t) ∧
    (∀ r, s.passes r (Reg.ETH.GATE_CMD n) → n.val < 2 → 1000 ≤ (s.rd (Reg.ETH.ADMIN_CYCLE n)).toNat → (s.rd (Reg.ETH.ADMIN_CYCLE n)).toNat ≤ 1000000000 →
      1 ≤ (s.rd (Reg.ETH.ADMIN_LEN n)).toNat → (s.rd (Reg.ETH.ADMIN_LEN n)).toNat ≤ 64 → serialLt (s.rd (Reg.ETH.ADMIN_BASE n)) (s.tb 0).count = false →
      ∃ t l, exec (.gateApply r n) s = .next t ∧ (t.eth n).pend = some l ∧ l.base = s.rd (Reg.ETH.ADMIN_BASE n) ∧ l.cycle = (s.rd (Reg.ETH.ADMIN_CYCLE n)).toNat ∧
        (∀ i, i < (s.rd (Reg.ETH.ADMIN_LEN n)).toNat → l.entries[i]? = some (s.rd (Reg.ETH.GCL_ADMIN n i))) ∧ t.rd (Reg.ETH.GATE_STATUS n) = 1 ∧
        Writes [] [Reg.ETH.GATE_STATUS n] { s.claimed (Reg.ETH.GATE_CMD n) with eths := t.eths } t) ∧
    (∀ r, s.passes r (Reg.ETH.GATE_CMD n) → 2 ≤ n.val ∨ (s.rd (Reg.ETH.ADMIN_CYCLE n)).toNat < 1000 ∨ 64 < (s.rd (Reg.ETH.ADMIN_LEN n)).toNat →
      exec (.gateApply r n) s = .next ((s.claimed (Reg.ETH.GATE_CMD n)).err (104 + n))) ∧
    (∀ (m : Fin 2) l, (s.eth m).pend = some l → serialLt (s.tb 0).count l.base = false → ∃ t, exec (.gateListSwitch m) s = .next t ∧
      t.eth m = { s.eth m with pend := none, cyc := l.base, gi := 0 } ∧ t.rd (Reg.ETH.OPER_BASE m) = l.base ∧ t.rd (Reg.ETH.OPER_CYCLE m) = W l.cycle ∧
      (∀ i, i < 64 → t.rd (Reg.ETH.GCL_OPER m i) = l.entries.getD i 0) ∧ bit (t.rd (Reg.ETH.GATE_STATUS m)) 0 = false ∧ bit (t.blk (104 + m)).evtRaw 5 = true) ∧
    (∀ m : Fin 2, (s.rd (Reg.ETH.OPER_LEN m)).toNat = 1 → exec (.gateIntervalEnd m) s = .next (s.setEth m { s.eth m with gi := 0, cyc := (s.eth m).cyc + s.rd (Reg.ETH.OPER_CYCLE m) })) ∧
    (∀ ms, 2 ≤ n.val → fld (s.rd (Reg.ETH.PREEMPT_STATUS n)) 0 2 = 1 → (∃ t, exec (.preemptVerify n true ms) s = .next t ∧ t.rd (Reg.ETH.PREEMPT_STATUS n) = 2 ∧
      bit (t.rd (Reg.ETH.LINK_STATUS n)) 5 = true ∧ bit (t.blk (104 + n)).evtRaw 6 = true) ∧
      (ms < clampN 1 128 (fld (s.rd (Reg.ETH.PREEMPT_CFG n)) 16 8) → exec (.preemptVerify n false ms) s = .next s) ∧
      (clampN 1 128 (fld (s.rd (Reg.ETH.PREEMPT_CFG n)) 16 8) ≤ ms → ∃ t, exec (.preemptVerify n false ms) s = .next t ∧ (t.eth n).verify = (s.eth n).verify + 1 ∧
        fld (t.rd (Reg.ETH.PREEMPT_STATUS n)) 0 2 = (if 2 ≤ (s.eth n).verify then 3 else 1))) ∧
    (∀ qu : BitVec 16, s.ethUp n = true → ∃ t, exec (.pauseRx n qu) s = .next t ∧ t.rd (Reg.ETH.PAUSE_RX n) = satInc (s.rd (Reg.ETH.PAUSE_RX n)) ∧
      (∀ q, q < 8 → bit (t.rd (Reg.ETH.PAUSE_STATE n)) q = (if bit (s.rd (Reg.ETH.PAUSE_CFG n)) 0 && s.pauseObeys n q then decide (qu ≠ 0) else bit (s.rd (Reg.ETH.PAUSE_STATE n)) q)) ∧
      Writes [] [Reg.ETH.PAUSE_RX n, Reg.ETH.PAUSE_STATE n] { s with eths := t.eths } t) ∧
    (∀ (en : BitVec 8) (qu : BitVec 16), s.ethUp n = true → ∃ t, exec (.pfcRx n en qu) s = .next t ∧ t.rd (Reg.ETH.PAUSE_RX n) = satInc (s.rd (Reg.ETH.PAUSE_RX n)) ∧
      (∀ p, p < 8 → en.getLsbD p = true → bit (s.rd (Reg.ETH.PAUSE_CFG n)) (8 + p) = true → s.pauseObeys n (fld (s.rd (Reg.ETH.PFC_MAP n)) (3 * p) 3) = true →
        bit (t.rd (Reg.ETH.PAUSE_STATE n)) (fld (s.rd (Reg.ETH.PFC_MAP n)) (3 * p) 3) = decide (qu ≠ 0)) ∧ Writes [] [Reg.ETH.PAUSE_RX n, Reg.ETH.PAUSE_STATE n] { s with eths := t.eths } t) ∧
    (∀ q : Fin 8, ((s.eth n).paused.any (fun p => p.1 == q.val && decide (p.2.2 ≤ s.clock)) = true → ∃ t, exec (.pauseExpire n q) s = .next t ∧
        bit (t.rd (Reg.ETH.PAUSE_STATE n)) q = false ∧ Writes [] [Reg.ETH.PAUSE_STATE n] { s with eths := t.eths } t) ∧
      ((s.eth n).paused.any (fun p => p.1 == q.val && decide (p.2.2 ≤ s.clock)) = false → exec (.pauseExpire n q) s = .next s)) ∧
    (∀ q : Fin 8, s.pausedFor n q < s.pauseLimit n → exec (.pauseWatchdog n q) s = .next s) ∧
    (∀ q : Fin 8, s.pauseLimit n ≤ s.pausedFor n q → ∃ t, exec (.pauseWatchdog n q) s = .next t ∧
      bit (t.rd (Reg.ETH.PAUSE_STATE n)) q = false ∧ t.rd (Reg.ETH.PAUSE_BREAK n) = satInc (s.rd (Reg.ETH.PAUSE_BREAK n)) ∧ t.pauseObeys n q = false ∧ bit (t.blk (104 + n)).evtRaw 3 = true) ∧
    (∀ f, s.mode ≠ .doze ∨ s.wakeRules n f.bytes &&& fld (s.rd (Reg.ETH.WAKE_CFG n)) 0 3 = 0 → exec (.wakeMatchRx n f) s = .next s) ∧
    (∀ f, 2 ≤ n.val → s.mode = .doze → s.up (104 + n) = true → s.linkUp n = true → f.fcsOk = true → s.wakeRules n f.bytes &&& fld (s.rd (Reg.ETH.WAKE_CFG n)) 0 3 ≠ 0 →
      bit (s.rd Reg.SYS.WAKE_EN) (2 + n) = true → ∃ t, exec (.wakeMatchRx n f) s = .next t ∧
      t.rd (Reg.ETH.WAKE_STATUS n) = W (s.wakeRules n f.bytes &&& fld (s.rd (Reg.ETH.WAKE_CFG n)) 0 3) ∧ t.rd (Reg.ETH.WAKES n) = satInc (s.rd (Reg.ETH.WAKES n)) ∧ bit (t.rd Reg.SYS.WAKE_CAUSE) (2 + n) = true ∧ (s.trans = none → t.trans = some s.dozeFrom))

/-- The queues (R23 to R25, R92, R93, R335 to R348): an item joins its queue and leaves it first in, first out; an empty queue gives IDLE; a cell is allocated or its producer waits; a flush drops the oldest packet; a pointer mismatch empties an on-die queue;
errors in cells are counted; a doorbell posts a buffer or is refused; QM moves host buffers, and a DMA error drops the packet. The assignment of queues is opaque (log entry 41). -/
def Obligations.QueuesRun : Prop :=
  ∀ s : State,
    (∀ (q : Fin 256) i, s.consumes (.onDie q) = true → blockItem i = true → (s.oq q).cut = false → (s.oq q).items.length < (s.oq q).depth → ∃ t, exec (.itemEnqueue (.onDie q) i) s = .next t ∧
      (t.oq q).items.map (fun x => x.item) = (s.oq q).items.map (fun x => x.item) ++ [i] ∧ (∀ p, p ≠ q.val → t.oq p = s.oq p) ∧ t = { s with odq := t.odq }) ∧
    (∀ q i, s.consumes q = false → exec (.itemEnqueue q i) s = .next s ∧ exec (.itemDequeue q) s = .next s) ∧
    (∀ (q : Fin 256) x l, s.consumes (.onDie q) = true → (s.oq q).items = x :: l → (s.oq q).abort = false → (s.oq q).flush = false → (s.oq q).idle = false → ∃ t, exec (.itemDequeue (.onDie q)) s = .next t ∧
      (t.oq q).items = l ∧ t.outbox = s.outbox ++ [Emission.item false q x.item] ∧ (∀ p, p ≠ q.val → t.oq p = s.oq p) ∧ t = { s with odq := t.odq, outbox := t.outbox }) ∧
    (∀ q : Fin 256, s.consumes (.onDie q) = true → (s.oq q).items = [] ∨ (s.oq q).flush = true → (s.oq q).abort = false → ∃ t, exec (.itemDequeue (.onDie q)) s = .next t ∧
      t.outbox = s.outbox ++ [Emission.item false q itemIdle] ∧ t.oq q = s.oq q ∧ t = { s with odq := t.odq, outbox := t.outbox }) ∧
    (∀ (q : Fin 16384) x l, s.consumes (.pool q) = true → hostConsumes q = false → (s.pq q).items = x :: l → (s.pq q).abort = false → (s.pq q).flush = false → (s.pq q).idle = false →
      ∃ t, exec (.itemDequeue (.pool q)) s = .next t ∧ (t.pq q).items = l ∧ Emission.item true q x.item ∈ t.outbox ∧ ∀ p, p ≠ q.val → t.pq p = s.pq p) ∧
    (∀ q : Fin 16384, s.qmUp = true → s.allocMay q = true → ∃ t, exec (.cellAlloc q) s = .next t ∧ t.pq q = { s.pq q with spare := (s.pq q).spare + 1 } ∧ (∀ p, p ≠ q.val → t.pq p = s.pq p) ∧
      Notifies [26] [Reg.QM.POOL_FREE, Reg.QM.POOL_MIN_FREE] { s with poolq := t.poolq, poolLow := t.poolLow } t) ∧
    (∀ q : Fin 16384, s.qmUp = true → s.allocMay q = false → exec (.cellAlloc q) s = .next (s.wr Reg.QM.ALLOC_WAIT (s.rd Reg.QM.ALLOC_WAIT + 1))) ∧
    (∀ r (q : Fin 16384), s.passes r Reg.QM.Q_CMD → hostQueue q = true → ∃ t, exec (.flush r q) s = .next t ∧ t.pq q = (s.pq q).flushNow ∧ (∀ p, p ≠ q.val → t.pq p = s.pq p) ∧
      Notifies [26] [Reg.QM.POOL_FREE, Reg.QM.POOL_MIN_FREE] { s.claimed Reg.QM.Q_CMD with poolq := t.poolq, poolLow := t.poolLow } t) ∧
    (∀ r (q : Fin 16384), s.passes r Reg.QM.Q_CMD → hostQueue q = false → exec (.flush r q) s = .next ((s.claimed Reg.QM.Q_CMD).err 26)) ∧
    (∀ q : Fin 16384, (s.pq q).flush = true → ∃ t, exec (.flushApply q) s = .next t ∧ t.pq q = (s.pq q).flushNow ∧ ∀ p, p ≠ q.val → t.pq p = s.pq p) ∧
    (∀ (q : Fin 256) w lost, s.qmUp = true → ∃ t, exec (.pointerMismatch q w lost) s = .next t ∧ t.oq q = (s.oq q).reset ∧ (t.oq q).items = [] ∧
      (∀ e ∈ lost, ∀ f ∈ t.frames, ¬ (f.zone = e.1.val ∧ f.k = e.2)) ∧ (s.code (Config.onDie q).2 ≠ 0 → s.windows.contains (Config.onDie q).2.val = false → t.windows.contains (Config.onDie q).2.val = true) ∧
      t.rd Reg.QM.ONDIE_RESETS = satInc (s.rd Reg.QM.ONDIE_RESETS) ∧ (t.rd Reg.QM.LAST_ONDIE).toNat = q + 0x100 * (if w then 1 else 2) ∧ bit (t.blk 26).evtRaw 0 = true) ∧
    (∀ (q : Fin 16384) (c : Fin 8388608), s.qmUp = true → ∃ t, exec (.cellEccError q c .corrected) s = .next t ∧ t.rd Reg.QM.CELL_CORR = satInc (s.rd Reg.QM.CELL_CORR) ∧
      (t.rd Reg.QM.LAST_ERR).toNat = c + 0x1000000 ∧ Writes [] [Reg.QM.CELL_CORR, Reg.QM.LAST_ERR] s t) ∧
    (∀ (q : Fin 16384) (c : Fin 8388608), s.qmUp = true → ∃ t, exec (.cellEccError q c .uncorrLink) s = .next t ∧ t.pq q = (s.pq q).reset ∧
      (∀ e ∈ s.cellFrames q true, ∀ f ∈ t.frames, ¬ (f.zone = e.1 ∧ f.k = e.2)) ∧ t.rd Reg.QM.CELL_UNCORR = satInc (s.rd Reg.QM.CELL_UNCORR) ∧
      (t.rd Reg.QM.LAST_ERR).toNat = c + 0x3000000 ∧ bit (t.blk 26).evtRaw 1 = true) ∧
    (∀ sec c l, sec < s.scrubPeriod → exec (.scrubPass sec c l) s = .next s) ∧
    (∀ sec (c : Fin 8388608), s.qmUp = true → s.scrubPeriod ≤ sec → s.cellBad.contains c.val = true → ∃ t, exec (.scrubPass sec [] [c]) s = .next t ∧ t.rd Reg.QM.RETIRED = satInc (s.rd Reg.QM.RETIRED) ∧
      t.cellBad.contains c.val = false ∧ t.rd Reg.SYS.JOURNAL_SEQ = s.rd Reg.SYS.JOURNAL_SEQ + 1) ∧
    (∀ (q : Fin 16384) d bts, s.qmUp = true → hostProduces q = true → (s.pq q).fetch = [d] →
      (s.pq q).max < (s.pq q).cells + State.cellsFor (s.pq q) ((bufBytes d + 255) / 256) → exec (.hostDmaFetch q bts) s = .next (s.wr Reg.QM.ALLOC_WAIT (s.rd Reg.QM.ALLOC_WAIT + 1))) ∧
    (∀ (q : Fin 16384) d bts, s.qmUp = true → hostProduces q = true → (s.pq q).fetch = [d] →
      (s.pq q).cells + State.cellsFor (s.pq q) ((bufBytes d + 255) / 256) ≤ (s.pq q).max → s.reserved + State.cellsFor (s.pq q) ((bufBytes d + 255) / 256) ≤ s.poolFree →
      ∃ t, exec (.hostDmaFetch q bts) s = .next t ∧ (t.pq q).fetch = [] ∧ Emission.hostRead (bufAddr d) (bufBytes d) ∈ t.outbox ∧ ∀ p, p ≠ q.val → t.pq p = s.pq p) ∧
    (∀ (h : Fin 4) d x l, s.qmUp = true → bit (s.rd (Reg.QM.HR_EN h)) 0 = true → (s.pq (16257 + 2 * h)).posted = d :: l → (s.pq (16257 + 2 * h)).items = [x] → itemEop x.item = true →
      itemType x.item = 0 → (s.pq (16257 + 2 * h)).used = 0 → (s.pq (16257 + 2 * h)).abort = false → (s.pq (16257 + 2 * h)).flush = false → x.data.length ≤ bufBytes d → (s.eth h).rxHold = [] → ∃ t, exec (.hostRxFill h) s = .next t ∧
        (t.pq (16257 + 2 * h)).posted = l ∧ (t.pq (16257 + 2 * h)).items = [] ∧ Emission.hostWrite (bufAddr d) x.data ∈ t.outbox ∧
        fld (t.rd (Reg.QM.HR_HEAD h)) 0 12 = (fld (s.rd (Reg.QM.HR_HEAD h)) 0 12 + 1) % s.ringSize h ∧ bit (t.blk 26).evtRaw 2 = true) ∧
    (∀ q : Fin 16384, s.qmUp = true → hostProduces q = true → (s.pq q).fetch ≠ [] → ∃ t, exec (.hostDmaError q) s = .next t ∧
      (t.pq q).fetch = dropPacket itemEop (s.pq q).fetch ∧ t.rd Reg.QM.HOST_DMA_ERR = satInc (s.rd Reg.QM.HOST_DMA_ERR) ∧ bit (t.blk 26).evtRaw 4 = true)

/-- Doorbells and the merge of two paths (R92, R93, R328, R329): a valid descriptor takes a credit and is posted, one that finds no credit or no host queue is refused with its cause; the first copy of a packet is delivered, a second is
counted; a silent path is reported and opens a recovery window. MARK on a queue that the host consumes, and that the loss of another path is no second fault, are the model's readings (log entries 83 and 85). -/
def Obligations.DoorbellsAndMerge : Prop :=
  ∀ s : State,
    (∀ (q : Fin 16384) d, s.hostUp = true → s.mode ≠ .doze → descValid d = true → hostConsumes q = true → itemType d = 1 → queueCredits q (s.pq q) ≠ 0 → s.qmUp = true →
      ∃ t, exec (.doorbellWrite q d true) s = .next t ∧ t.pq q = { s.pq q with posted := (s.pq q).posted ++ [d] } ∧ (∀ p, p ≠ q.val → t.pq p = s.pq p) ∧
        Sparse.get (fun _ => 0) t.dbLast q = 1) ∧
    (∀ (q : Fin 16384) d, s.hostUp = true → s.mode ≠ .doze → descValid d = true → hostProduces q = false → hostConsumes q = false →
      ∃ t, exec (.doorbellWrite q d true) s = .next t ∧ t.rd Reg.HIF.DB_REFUSED_CNT = satInc (s.rd Reg.HIF.DB_REFUSED_CNT) ∧ (t.rd Reg.HIF.DB_LAST).toNat = q + 0xC000 ∧
        bit (t.blk 3).evtRaw 1 = true ∧ t.poolq = s.poolq ∧ Notifies [3] [Reg.HIF.DB_REFUSED_CNT, Reg.HIF.DB_LAST] { s with dbLast := t.dbLast } t) ∧
    (∀ (k : Fin 8) p h, s.up 108 = true → bit (s.rd (Reg.VIN.S_CTL k)) 0 = true → fld (s.rd (Reg.VIN.S_CTL k)) 1 2 = 2 → bit (s.rd (Reg.EDUP.S_PATH k)) 0 = true → (s.edup k).high = some h →
      serialLt h p.seq = false → (s.edup k).done.any (fun d => d.1 == p.seq) = true →
      exec (.edupPacketRx k .a p) s = .next (s.wr (Reg.EDUP.S_DUP k) (s.rd (Reg.EDUP.S_DUP k) + 1))) ∧
    (∀ (k : Fin 8) p, s.up 108 = true → bit (s.rd (Reg.VIN.S_CTL k)) 0 = true → fld (s.rd (Reg.VIN.S_CTL k)) 1 2 = 2 → (s.edup k).high = none →
      ∃ t, exec (.edupPacketRx k .b p) s = .next t ∧ t.rd (Reg.EDUP.S_HIGH k) = p.seq ∧ (t.edup k).high = some p.seq ∧ bit (t.rd (Reg.EDUP.S_PATH k)) 1 = true ∧
        t.rd (Reg.EDUP.S_PKT_B k) = s.rd (Reg.EDUP.S_PKT_B k) + 1 ∧ ∀ j, j ≠ k.val → t.edup j = s.edup j) ∧
    (∀ k : Fin 8, bit (s.rd (Reg.EDUP.S_PATH k)) 0 = true → ∃ t, exec (.edupPathLost k .a) s = .next t ∧ bit (t.rd (Reg.EDUP.S_PATH k)) 0 = false ∧ bit (t.blk 108).evtRaw 0 = true ∧
      (s.code 108 ≠ 0 → t.windows.contains 108 = true) ∧ Notifies [108] [Reg.EDUP.S_PATH k] { s with windows := t.windows } t) ∧
    (∀ (k : Fin 8) x, s.up 108 = true → bit (s.rd (Reg.VIN.S_CTL k)) 0 = true → fld (s.rd (Reg.VIN.S_CTL k)) 1 2 = 2 → ∃ t, exec (.edupSkewUpdate k x) s = .next t ∧
      t.rd (Reg.EDUP.S_SKEW k) = BitVec.ofInt 32 x ∧
      (s.skewWin / 1000 < 2 * x.natAbs → (s.edup k).skewHigh = false → (t.edup k).skewHigh = true ∧ bit (t.blk 108).evtRaw 3 = true) ∧
      Notifies [108] [Reg.EDUP.S_SKEW k] { s with edups := t.edups } t)

/-- The Tulle coordinator (R351 to R354, R358 to R366, R371, R373 to R375): the beacon leaves at its grid point or is skipped; a join request is acknowledged, and answered only after a beacon with JOIN_OPEN; a frame for a child leaves by its event or as a train, and a busy channel defers it; an
acknowledgement delivers it; a silent child is dropped; channel maps, radio settings and the child record follow their registers. The order of its checks and its free fields are the model's (log entries 43 to 46). -/
def Obligations.RadioServesItsChildren : Prop :=
  ∀ s : State,
    let sends := fun (c : Instr) (k : Fin 1024) (train : Bool) => ∀ x ns, s.child k = some x → s.childAir k = some ns → s.rpUp = true → s.isReady 113 = true → s.trainDue x = train →
      train = true ∨ s.radNow + ns ≤ s.radio.next ∨ s.radio.next + s.beaconAir ≤ s.radNow → s.dutyFits ns = true → ∃ t y, exec c s = .next t ∧ t.child k = some y ∧ y.fly = 1 ∧ y.sched = true ∧
        y.ext = x.ext ∧ y.falls = (if train then Nat.min 255 (x.falls + 1) else x.falls) ∧ s.outbox.length < t.outbox.length ∧ (∀ j, j ≠ k.val → t.child j = s.child j) ∧
        (train = true → t.rd Reg.RAD.DRIFT_FALLBACK = satInc (s.rd Reg.RAD.DRIFT_FALLBACK) ∧ bit (t.blk 112).evtRaw 2 = true)
    let defers := fun (c : Instr) (k : Fin 1024) (train : Bool) => ∀ x ns, s.child k = some x → s.childAir k = some ns → s.rpUp = true → s.isReady 113 = true → s.trainDue x = train →
      ∃ t, exec c s = .next t ∧ t.children = s.children ∧ t.rd Reg.RAD.CCA_DEFER = satInc (s.rd Reg.RAD.CCA_DEFER) ∧ t.rd Reg.RFE.CCA_BUSY = satInc (s.rd Reg.RFE.CCA_BUSY) ∧
        Notifies [113] [Reg.RAD.CCA_DEFER, Reg.RFE.CCA_BUSY] { s with radio := t.radio } t
    let heard := fun (from_ : Option Nat) (type len : Nat) (h : RadHead) (sfd : Word) =>
      s.radHears (s.radStamp sfd) = true ∧ s.radMatch from_ h = true ∧ h.type.toNat = type ∧ h.bytes = len
    (s.up 112 = true → bit (s.rd Reg.RAD.NET_CFG) 16 = true → s.radio.unlocked = false → s.isReady 113 = true → s.proc 3 = 2 → s.radio.bcast = [] →
      ∃ t, exec .beaconSend s = .next t ∧ t.rd Reg.RAD.BEACONS_TX = s.rd Reg.RAD.BEACONS_TX + 1 ∧ t.radio.next = s.radio.next + s.beaconNs ∧
        t.radio.joinOpen = bit (s.rd Reg.RAD.JOIN_CFG) 0 ∧
        t.outbox = s.outbox ++ [Emission.radio s.radPhy s.beaconCh (.beacon (bit (s.rd Reg.RAD.JOIN_CFG) 0)) s.radPreamble []
          (State.beaconBytes s.radTemplate (BitVec.ofInt 32 (if s.mode = .doze then s.radio.next else s.radNow)).toNat 0)] ∧
        Writes [] [Reg.RAD.BEACONS_TX] { s with radio := t.radio, outbox := t.outbox } t) ∧
    (s.up 112 = true → bit (s.rd Reg.RAD.NET_CFG) 16 = true → s.isReady 113 = false → ∃ t, exec .beaconSend s = .next t ∧ t.rd Reg.RAD.BEACON_SKIP = satInc (s.rd Reg.RAD.BEACON_SKIP) ∧
      bit (t.blk 112).evtRaw 7 = true ∧ Notifies [112] [Reg.RAD.BEACON_SKIP] { s with radio := t.radio, free := t.free } t) ∧
    (∀ h e sm sfd room, s.radHears (s.radStamp sfd) = false → exec (.joinReqRx h e sm sfd room) s = .next s) ∧
    (∀ h e sm sfd room, s.radHears (s.radStamp sfd) = true → s.radMatch none h = false ∨ h.type ≠ 4 ∨ h.bytes ≠ 3 →
      exec (.joinReqRx h e sm sfd room) s = .next (s.wr Reg.RAD.RX_FILTERED (satInc (s.rd Reg.RAD.RX_FILTERED)))) ∧
    (∀ h e sm sfd, heard none 4 3 h sfd → ∃ t, exec (.joinReqRx h e sm sfd false) s = .next t ∧
      t.rd Reg.RAD.RX_BUSY = satInc (s.rd Reg.RAD.RX_BUSY) ∧ bit (t.blk 112).evtRaw 9 = true ∧ Notifies [112] [Reg.RAD.RX_BUSY] s t) ∧
    (∀ h e sm sfd, heard none 4 3 h sfd → bit (s.rd Reg.RAD.NET_CFG) 16 = false ∨ s.radio.joinOpen = false → ∃ t, exec (.joinReqRx h e sm sfd true) s = .next t ∧
      t.outbox = s.outbox ++ [Emission.radioAck s.radPhy (.ext e) false] ∧ t.rd Reg.RAD.RX_OK = s.rd Reg.RAD.RX_OK + 1 ∧
      Writes [] [Reg.RAD.RX_OK, Reg.RFE.RSSI_LAST] { s with radio := t.radio, outbox := t.outbox } t) ∧
    (∀ h e (sm : BitVec 16) sfd f k, heard none 4 3 h sfd → bit (s.rd Reg.RAD.NET_CFG) 16 = true → s.radio.joinOpen = true → s.fpUp = true → s.childRecord e = some f →
      s.children.find? (fun x => match x.2 with | some c => c.ext == e | none => false) = none → k < 1024 → s.child k = none → (∀ j, j < k → s.child j ≠ none) → 100 ≤ sm.toNat → sm.toNat ≤ 10000 →
      ∃ t c, exec (.joinReqRx h e sm sfd true) s = .next t ∧ t.child k = some c ∧ c.ext = e ∧ c.sample = sm.toNat ∧ c.fleet = f ∧ c.map = s.chMap ∧ t.rd Reg.RAD.CHILDREN = s.rd Reg.RAD.CHILDREN + 1 ∧
        bit (t.blk 112).evtRaw 0 = true ∧ Emission.radioAck s.radPhy (.ext e) false ∈ t.outbox) ∧
    (∀ (k : Fin 1024) e, (s.ccaBusy e = false → sends (.scheduledTx k e) k false ∧ sends (.wakeTrainTx k e) k true) ∧
      (s.ccaBusy e = true → defers (.scheduledTx k e) k false ∧ defers (.wakeTrainTx k e) k true)) ∧
    (∀ (k : Fin 1024) c err sfd, s.up 112 = true → s.child k = some c → c.fly ≠ 0 → ∃ t y, exec (.ackTimeRx k err sfd) s = .next t ∧ t.child k = some y ∧ y.q = c.q.drop 1 ∧ y.fly = c.fly - 1 ∧
      y.failed = false ∧ y.heardAt = s.radStamp sfd ∧ ∀ j, j ≠ k.val → t.child j = s.child j) ∧
    (∀ (k : Fin 1024) c, s.child k = some c → c.fly ≠ 0 → ∃ t, exec (.ackTimeout k) s = .next t ∧ t.child k = some { c with fly := 0, failed := c.failed || c.sched } ∧
      ∀ j, j ≠ k.val → t.child j = s.child j) ∧
    (∀ h (k : Fin 1024) ev ph sfd room, s.radHears (s.radStamp sfd) = true → s.radMatch (some k) h = false ∨ h.type ≠ 9 ∨ h.bytes ≠ 9 →
      exec (.keepaliveRx h k ev ph sfd room) s = .next (s.wr Reg.RAD.RX_FILTERED (satInc (s.rd Reg.RAD.RX_FILTERED)))) ∧
    (∀ h (k : Fin 1024) ev ph sfd, heard (some k) 9 9 h sfd → s.child k = none → ∃ t, exec (.keepaliveRx h k ev ph sfd true) s = .next t ∧
      t.outbox = s.outbox ++ [Emission.radioAck s.radPhy (.short (s.childAddr k)) false] ∧ t.rd Reg.RAD.RX_OK = s.rd Reg.RAD.RX_OK + 1 ∧
      Writes [] [Reg.RAD.RX_OK, Reg.RFE.RSSI_LAST] { s with radio := t.radio, outbox := t.outbox } t) ∧
    (∀ h (k : Fin 1024) c ev ph sfd, heard (some k) 9 9 h sfd → s.child k = some c → ∃ t y, exec (.keepaliveRx h k ev ph sfd true) s = .next t ∧ t.child k = some y ∧
      t.rd Reg.RAD.RX_OK = s.rd Reg.RAD.RX_OK + 1 ∧ y.heardAt = s.radStamp sfd ∧
      Emission.radioAck s.radPhy (.short (s.childAddr k)) (!c.q.isEmpty || (c.newMap.isSome && c.mapAt.isNone)) ∈ t.outbox) ∧
    (∀ (k : Fin 1024) c ms, s.child k = some c → ms < 100 * c.sup → exec (.childSupTimeout k ms) s = .next s) ∧
    (∀ (k : Fin 1024) c ms, s.rpUp = true → s.child k = some c → 100 * c.sup ≤ ms → ∃ t, exec (.childSupTimeout k ms) s = .next t ∧ t.child k = none ∧ t.rd Reg.RAD.CHILDREN = s.rd Reg.RAD.CHILDREN - 1 ∧
      t.rd Reg.RAD.CHILD_LOST = satInc (s.rd Reg.RAD.CHILD_LOST) ∧ t.rd Reg.RAD.PENDING_DISCARD = satAdd (s.rd Reg.RAD.PENDING_DISCARD) c.q.length ∧ bit (t.blk 112).evtRaw 1 = true ∧
      ∀ j, j ≠ k.val → t.child j = s.child j) ∧
    (∀ r v, s.passes r Reg.RAD.CHMAP_LO → s.mapRefused v (s.rd Reg.RAD.CHMAP_HI) = false → v ≠ s.rd Reg.RAD.CHMAP_LO → ∃ t, exec (.chmapWrite r false v) s = .next t ∧ t.rd Reg.RAD.CHMAP_LO = v ∧
      t.rd Reg.RAD.CHMAP_HI = s.rd Reg.RAD.CHMAP_HI ∧ ∀ k c, k < 1024 → s.child k = some c → t.child k = some (State.newMap t.chMap c)) ∧
    (∀ r v, s.passes r Reg.RAD.CHMAP_LO → s.mapRefused v (s.rd Reg.RAD.CHMAP_HI) = true → ∃ t, exec (.chmapWrite r false v) s = .next t ∧ t.children = s.children ∧ bit (t.blk 113).evtRaw 1 = true ∧
      Notifies [112, 113] [] (s.claimed Reg.RAD.CHMAP_LO) t) ∧
    (∀ (k : Fin 1024) c m at_, s.child k = some c → c.newMap = some m → c.mapAt = some at_ → ∃ t, exec (.chmapInstant k) s = .next t ∧
      t.child k = some (if c.mapAck then { c with map := m, newMap := none, mapAt := none, mapAck := false } else State.newMap m c) ∧ ∀ j, j ≠ k.val → t.child j = s.child j) ∧
    (∀ r v, s.passes r Reg.RFE.CH0 → (s.blk 113).enable = false → State.bandOk (s.rd Reg.RFE.BAND_CFG) (v &&& 0x3FFFFF) (s.rd Reg.RFE.SPACING) = true →
      ∃ t, exec (.rfeConfigWrite r 1 v) s = .next t ∧ t.rd Reg.RFE.CH0 = v &&& 0x3FFFFF ∧ Writes [] [Reg.RFE.CH0, Reg.SYS.JOURNAL_SEQ] (s.claimed Reg.RFE.CH0) t) ∧
    (∀ r v, s.passes r Reg.RFE.CH0 → (s.blk 113).enable = true → v &&& 0x3FFFFF ≠ s.rd Reg.RFE.CH0 → exec (.rfeConfigWrite r 1 v) s = .next ((s.claimed Reg.RFE.CH0).err 113)) ∧
    (s.up 113 = true → ∃ t, exec .synthUnlock s = .next t ∧ t.radio = { s.radio with unlocked := true } ∧ t.rd Reg.RFE.SYNTH_UNLOCK = satInc (s.rd Reg.RFE.SYNTH_UNLOCK) ∧ bit (t.blk 113).evtRaw 0 = true) ∧
    (∀ k l, s.radio.waits = k :: l → s.childAir k = none → exec .dutyRelease s = .next { s with radio := { s.radio with waits := l } }) ∧
    (∀ k l ns, s.radio.waits = k :: l → s.childAir k = some ns → s.rpUp = true → s.isReady 113 = true → s.dutyFits ns = true → ∃ t y, exec .dutyRelease s = .next t ∧ t.child k = some y ∧ y.fly = 1 ∧
      t.radio.waits = l.filter (fun x => x != k)) ∧
    (∀ r v, s.passes r Reg.RAD.CHILD_SEL → ∃ t, exec (.childSel r v) s = .next t ∧ t.rd Reg.RAD.CHILD_SEL = W (fld v 0 10) ∧
      (∀ w, w < 8 → t.rd (Reg.RAD.CHILD w) = (s.childWords (fld v 0 10)).getD w 0) ∧
      Writes [] (Reg.RAD.CHILD_SEL :: (List.range 8).map Reg.RAD.CHILD) { s.claimed Reg.RAD.CHILD_SEL with free := t.free } t)

/-- The module as a member (R367, R368): enabled it scans, disabled it is OFF; a parent's beacon is answered with a join request, and a joined member follows the beacons inside its window; the third missed beacon in a row is reported, and a silent parent is LOST and sought again. The window in ms is the model's reading (log entry 45). -/
def Obligations.MemberJoinsAndFollows : Prop :=
  ∀ s : State,
    let good := fun (h : RadHead) => h.version = 2 ∧ h.secured = false ∧ h.dst = .absent ∧ h.type = 1 ∧ h.bytes = 24
    let answer := fun (h : RadHead) (sfd : Word) => s.radHears (s.radStamp sfd) = true ∧ s.radMatch none h = true ∧ h.type = 5 ∧ h.bytes = 20
    (∀ r, s.passes r Reg.RAD.NET_CFG → s.up 112 = true → s.memberSt = 0 → ∃ t, exec (.memberEnable r) s = .next t ∧ t.memberSt = 1 ∧ bit (t.rd Reg.RAD.NET_CFG) 17 = true ∧
      t.member.chan = s.memberChans.headD 0 ∧ bit (t.blk 112).evtRaw 6 = true) ∧
    (∀ r, s.passes r Reg.RAD.NET_CFG → ∃ t, exec (.memberDisable r) s = .next t ∧ t.memberSt = 0 ∧ bit (t.rd Reg.RAD.NET_CFG) 17 = false ∧ t.member = s.member) ∧
    (∀ ms, s.rpUp = true → s.memberSt = 1 → s.beaconNs / 1000000 + 10 ≤ ms →
      exec (.memberScanStep ms) s = .next { s with member := { s.member with chan := (s.memberChans.find? (fun c => s.member.chan < c)).getD (s.memberChans.headD 0) } }) ∧
    (∀ ms, ms < s.beaconNs / 1000000 + 10 → exec (.memberScanStep ms) s = .next s) ∧
    (∀ h pan sh d iv time sfd, s.radHears (s.radStamp sfd) = false → exec (.parentBeaconRx h pan sh d iv time sfd) s = .next s) ∧
    (∀ h pan sh d iv time sfd, s.radHears (s.radStamp sfd) = true → ¬ good h →
      exec (.parentBeaconRx h pan sh d iv time sfd) s = .next (s.wr Reg.RAD.RX_FILTERED (satInc (s.rd Reg.RAD.RX_FILTERED)))) ∧
    (∀ h pan sh d iv time sfd, s.radHears (s.radStamp sfd) = true → good h → pan.toNat ≠ fld (s.rd Reg.RAD.MEMBER_CFG) 0 16 →
      exec (.parentBeaconRx h pan sh d iv time sfd) s = .next (s.rxAccepted h.rssi)) ∧
    (∀ h pan sh d iv time sfd, s.radHears (s.radStamp sfd) = true → good h → s.rpUp = true → pan.toNat = fld (s.rd Reg.RAD.MEMBER_CFG) 0 16 → s.memberSt = 1 →
      ∃ t, exec (.parentBeaconRx h pan sh d iv time sfd) s = .next t ∧ t.memberSt = 2 ∧ t.rd Reg.RAD.RX_OK = s.rd Reg.RAD.RX_OK + 1 ∧
      fld (t.rd Reg.RAD.PARENT) 0 16 = sh.toNat ∧ t.member = { s.member with beaconAt := s.radStamp sfd, interval := iv.toNat, depth := d.toNat } ∧ s.outbox.length < t.outbox.length) ∧
    (∀ h pan sh d iv time sfd, s.radHears (s.radStamp sfd) = true → good h → s.rpUp = true → pan.toNat = fld (s.rd Reg.RAD.MEMBER_CFG) 0 16 → s.memberSt = 3 ∨ s.memberSt = 4 →
      let b := s.member.beaconAt + (s.member.interval * 1000000 : Nat)
      (s.radStamp sfd < b - (s.member.win * 500 : Nat) ∨ b + (s.member.win * 500 : Nat) ≤ s.radStamp sfd → exec (.parentBeaconRx h pan sh d iv time sfd) s = .next (s.rxAccepted h.rssi)) ∧
      (b - (s.member.win * 500 : Nat) ≤ s.radStamp sfd → s.radStamp sfd < b + (s.member.win * 500 : Nat) → ∃ t, exec (.parentBeaconRx h pan sh d iv time sfd) s = .next t ∧ t.memberSt = 3 ∧
        fld (t.rd Reg.RAD.MEMBER_STATUS) 8 8 = 0 ∧ t.member.beaconAt = s.radStamp sfd ∧ t.member.win = s.memberWinCfg)) ∧
    (s.rpUp = true → s.memberSt = 3 → ∃ t, exec .parentBeaconMiss s = .next t ∧ t.rd Reg.RAD.PARENT_MISSED = satInc (s.rd Reg.RAD.PARENT_MISSED) ∧
      fld (t.rd Reg.RAD.MEMBER_STATUS) 8 8 = Nat.min 255 (fld (s.rd Reg.RAD.MEMBER_STATUS) 8 8 + 1) ∧
      t.memberSt = (if fld (s.rd Reg.RAD.MEMBER_STATUS) 8 8 < 2 then 3 else 4) ∧ (2 ≤ fld (s.rd Reg.RAD.MEMBER_STATUS) 8 8 → bit (t.blk 112).evtRaw 4 = true)) ∧
    (s.rpUp = true → s.memberSt = 4 → ∃ t, exec .parentBeaconMiss s = .next t ∧ t.memberSt = 4 ∧ t.member.win = Nat.min (2 * s.member.win) (s.member.interval * 1000)) ∧
    (∀ h sh sfd, answer h sfd → s.rpUp = true → s.memberSt = 2 → ∃ t, exec (.memberJoinRsp h 0 sh sfd true) s = .next t ∧ t.memberSt = 3 ∧
      (t.rd (Reg.RAD.SHORT_MATCH 1)).toNat = sh.toNat + 0x10000 ∧ t.member.rejoin = false ∧
      Emission.radioAck s.radPhy (.short (fld (s.rd Reg.RAD.PARENT) 0 16)) false ∈ t.outbox) ∧
    (∀ h res sh sfd, answer h sfd → s.rpUp = true → s.memberSt = 2 → res ≠ 0 → ∃ t, exec (.memberJoinRsp h res sh sfd true) s = .next t ∧ t.memberSt = 1 ∧
      t.member = { s.member with chan := s.memberChans.headD 0 } ∧ Notifies [112] [Reg.RAD.MEMBER_STATUS, Reg.RAD.RX_OK, Reg.RFE.RSSI_LAST] { s with member := t.member, radio := t.radio } t) ∧
    (∀ ms, s.rpUp = true → s.memberSt = 2 → 1000 ≤ ms → ∃ t, exec (.memberJoinTimeout ms) s = .next t ∧ t.memberSt = 1 ∧ Notifies [112] [Reg.RAD.MEMBER_STATUS] { s with member := t.member } t) ∧
    (∀ ms, ms < 1000 → exec (.memberJoinTimeout ms) s = .next s) ∧
    (∀ ms, s.rpUp = true → s.memberSt = 3 ∨ s.memberSt = 4 → 100 * clampN 1 6000 (fld (s.rd Reg.RAD.MEMBER_CFG) 16 16) ≤ ms → ∃ t, exec (.parentSupTimeout ms) s = .next t ∧
      t.memberSt = 1 ∧ t.member.rejoin = true ∧ bit (t.blk 112).evtRaw 5 = true ∧
      Notifies [112] [Reg.RAD.MEMBER_STATUS] { s with member := t.member, radio := t.radio, windows := t.windows } t)

/-- Fleet records (R376 to R383, R385, R389, R390, R393 to R395): each waits while FP is away, is refused under a reserved KEY, with a wrong TAG or a SEQ that is not new, and otherwise counts in RX_OK, takes the sender's SEQ and has the effect of its
type: status words, sensor values, campaign reports, images, staged and committed registry records, schedule entries and rules. The answers that the rules leave open are the model's choices (log entries 48 and 87). -/
def Obligations.FleetRecordsAreChecked : Prop :=
  ∀ (s : State) (r : FleetRec) (path : FleetPath),
    let f := r.id.toNat % 131072
    let b := fitBytes 40 r.body
    let host := fun (t : State) => t.rd Reg.FLT.RX_OK = s.rd Reg.FLT.RX_OK + 1 ∧ t.rd Reg.FLT.HOST_SEQ = r.seq
    let node := s.pathSender path = some .node
    let hostPath := s.pathSender path = some .hostClient
    (∀ c ∈ fleetCommands, s.pathSender path = none → exec (c.1 path r) s = .next s) ∧
    (∀ c ∈ fleetCommands, ∀ via, s.pathSender path = some via →
      (s.fpUp = true → r.key.toNat < 2 → s.tagOk c.2 r → (s.lastSeq via r).toNat < r.seq.toNat → s.recSender c.2 via r = false → ∃ t, exec (c.1 path r) s = .next t ∧
        t.rd Reg.FLT.REFUSED = satInc (s.rd Reg.FLT.REFUSED) ∧ bit (t.blk 28).evtRaw 3 = true ∧ Notifies [28] [Reg.FLT.REFUSED] s t) ∧
      (s.fpUp = false → exec (c.1 path r) s = .next { s with fpWait := s.fpWait ++ [FpWork.record c.2 via r] }) ∧
      (s.fpUp = true → 2 ≤ r.key.toNat → ∃ t, exec (c.1 path r) s = .next t ∧ t.rd Reg.FLT.REFUSED = satInc (s.rd Reg.FLT.REFUSED) ∧ bit (t.blk 28).evtRaw 3 = true ∧
        Notifies [28] [Reg.FLT.REFUSED] s t) ∧
      (s.fpUp = true → r.key.toNat < 2 → ¬ s.tagOk c.2 r → ∃ t, exec (c.1 path r) s = .next t ∧ t.rd Reg.FLT.AUTH_FAIL = satInc (s.rd Reg.FLT.AUTH_FAIL) ∧ bit (t.blk 28).evtRaw 3 = true ∧
        Notifies [28] [Reg.FLT.AUTH_FAIL] s t) ∧
      (s.fpUp = true → r.key.toNat < 2 → s.tagOk c.2 r → r.seq.toNat ≤ (s.lastSeq via r).toNat → ∃ t, exec (c.1 path r) s = .next t ∧
        t.rd Reg.FLT.REPLAY = satInc (s.rd Reg.FLT.REPLAY) ∧ bit (t.blk 28).evtRaw 3 = true ∧ Notifies [28] [Reg.FLT.REPLAY] s t)) ∧
    (node → s.accepts 2 .node r → ∃ t, exec (.statusRecord path r) s = .next t ∧ t.rd Reg.FLT.RX_OK = s.rd Reg.FLT.RX_OK + 1 ∧ t.regw f 24 = r.seq ∧
      t.regw f 20 = W (leAt b 4 2 + 0x10000 * leAt b 0 2) ∧ t.regw f 18 = bodyWord b 8 ∧ t.regw f 22 = bodyWord b 20 ∧ t.regw f 23 = bodyWord b 16 ∧
      Sparse.get (fun _ => []) t.energyLog f = Sparse.get (fun _ => []) s.energyLog f ++ [(s.utcNow, leAt b 8 4)]) ∧
    (∀ i, node → s.accepts 5 .node r → s.triggered 0 f = [i] → s.schRuns = true → bit (s.rulew i 0) 3 = false → ∃ t, exec (.presenceRecord path r) s = .next t ∧ t.regw f 24 = r.seq ∧
      t.rd Reg.SCH.TRIGGERS = s.rd Reg.SCH.TRIGGERS + 1 ∧ Sparse.get (fun _ => 0) t.ruleEnds i = s.utcNow + fld (s.rulew i 3) 0 16) ∧
    (node → s.accepts 6 .node r → ∃ t, exec (.sensorRecord path r) s = .next t ∧ t.regw f 24 = r.seq ∧
      Sparse.get (fun _ => SensorRead.init) t.sensors (16 * f + byteAt b 0) = { value := sleAt b 4 4, utc := s.utcNow, has := true }) ∧
    (node → s.accepts 9 .node r → s.mode ≠ .hold → (s.img s.camp.image).state = 4 → byteAt b 0 = s.camp.image → s.campLeft.contains f = true → ∃ t l, exec (.imgNack path r) s = .next t ∧ t.regw f 24 = r.seq ∧
      t.camp.miss = s.camp.miss.filter (fun e => e.1 != f) ++ [(f, l)] ∧ (∀ i, i < 256 → (leAt b 4 32).testBit i = true → leAt b 1 3 + i ∈ l) ∧ t.images = s.images) ∧
    (node → s.accepts 10 .node r → s.mode ≠ .hold → (s.img s.camp.image).state = 4 → byteAt b 0 = s.camp.image → byteAt b 1 = 0 → s.campLeft.contains f = true → s.imgQueue = [] →
      ∃ t, exec (.imgDone path r) s = .next t ∧ t.regw f 24 = r.seq ∧ t.camp.acked = s.camp.acked ++ [f] ∧ t.rd Reg.FLT.IMG_ACKED = W (s.camp.acked.length + 1)) ∧
    (hostPath → s.accepts 7 .hostClient r → s.mode ≠ .hold → 1 ≤ leAt b 8 4 → leAt b 8 4 ≤ 8388608 → (s.img (byteAt b 0)).state ≠ 4 → ∃ t, exec (.imgOffer path r) s = .next t ∧ host t ∧
      (t.img (byteAt b 0)).state = 1 ∧ (t.img (byteAt b 0)).size = leAt b 8 4 ∧ (t.img (byteAt b 0)).version = bodyWord b 4 ∧ (t.img (byteAt b 0)).chunks = [] ∧
      ∀ i, i ≠ byteAt b 0 → t.img i = s.img i) ∧
    (hostPath → s.accepts 8 .hostClient r → s.mode ≠ .hold → (s.img (byteAt b 0)).state = 1 → 32 * leAt b 1 3 < (s.img (byteAt b 0)).size → ∃ t, exec (.imgChunk path r) s = .next t ∧ host t ∧
      Sparse.get (fun _ => []) (t.img (byteAt b 0)).chunks (leAt b 1 3) = (b.drop 4).take 32 ∧ ∀ i, i ≠ byteAt b 0 → t.img i = s.img i) ∧
    (hostPath → s.accepts 20 .hostClient r → s.mode ≠ .hold → (s.img (byteAt b 0)).state = 1 →
      (∀ c, c < ((s.img (byteAt b 0)).size + 31) / 32 → Sparse.get (fun _ => []) (s.img (byteAt b 0)).chunks c ≠ []) →
      ∃ t, exec (.imgSeal path r) s = .next t ∧ host t ∧ (t.img (byteAt b 0)).state =
        (if Crypto.sha256 ((((List.range (((s.img (byteAt b 0)).size + 31) / 32)).map (fun c => Sparse.get (fun _ => []) (s.img (byteAt b 0)).chunks c)).flatten).take (s.img (byteAt b 0)).size) =
          (b.drop 4).take 32 then 2 else 1)) ∧
    (hostPath → s.accepts 16 .hostClient r → s.mode ≠ .hold → byteAt b 0 ≤ 7 → byteAt b 0 ≠ 2 → byteAt b 0 ≠ 3 → ∃ t l, exec (.regWrite path r) s = .next t ∧ host t ∧
      Sparse.get (fun _ => []) t.stageReg f = l ∧ l.length = 64 ∧
      (∀ w, w < 64 → l.getD w 0 = if w / 8 = byteAt b 0 then bodyWord b (4 + 4 * (w % 8)) else (s.stagedOf f f).getD w 0) ∧ t.registry = s.registry) ∧
    (∀ l, hostPath → s.accepts 17 .hostClient r → s.mode ≠ .hold → Sparse.get (fun _ => []) s.stageReg f = l → l ≠ [] → s.regCheck f l = 0 → ∃ t, exec (.regCommit path r) s = .next t ∧ host t ∧
      (∀ w, w < 16 ∨ (32 ≤ w ∧ w < 64) → t.regw f w = l.getD w 0) ∧ (bit (l.getD 0 0) 0 = false → ∀ w, 16 ≤ w → w < 32 → t.regw f w = 0) ∧ Sparse.get (fun _ => []) t.stageReg f = []) ∧
    (∀ l, hostPath → s.accepts 17 .hostClient r → s.mode ≠ .hold → Sparse.get (fun _ => []) s.stageReg f = l → l ≠ [] → s.regCheck f l ≠ 0 → ∃ t, exec (.regCommit path r) s = .next t ∧ host t ∧
      t.registry = s.registry ∧ t.stageReg = s.stageReg ∧ t.rd Reg.FLT.REFUSED = satInc (s.rd Reg.FLT.REFUSED)) ∧
    (hostPath → s.accepts 18 .hostClient r → s.mode ≠ .hold → leAt b 0 2 < 16384 →
      let l := (List.range 8).map (fun w => bodyWord b (4 + 4 * w))
      (State.schOk l = true → ∃ t, exec (.schedSet path r) s = .next t ∧ host t ∧ (∀ w, w < 8 → t.schw (leAt b 0 2) w = l.getD w 0) ∧
        ∀ i w, i ≠ leAt b 0 2 → w < 8 → t.schw i w = s.schw i w) ∧
      (State.schOk l = false → ∃ t, exec (.schedSet path r) s = .next t ∧ host t ∧ t.sched = s.sched ∧ bit (t.blk 29).evtRaw 3 = true)) ∧
    (hostPath → s.accepts 19 .hostClient r → s.mode ≠ .hold → leAt b 0 2 < 4096 →
      let l := (List.range 8).map (fun w => bodyWord b (4 + 4 * w))
      (State.ruleOk l = true → ∃ t, exec (.ruleSet path r) s = .next t ∧ host t ∧ (∀ w, w < 8 → t.rulew (leAt b 0 2) w = l.getD w 0)) ∧
      (State.ruleOk l = false → ∃ t, exec (.ruleSet path r) s = .next t ∧ host t ∧ t.rules = s.rules ∧ bit (t.blk 29).evtRaw 3 = true)) ∧
    (∀ h (k : Fin 1024) c ev ph sfd (ty : Byte), s.radHears (s.radStamp sfd) = true → s.radMatch (some k) h = true → h.type = 2 → h.bytes = 73 → s.mode ≠ .doze → s.child k = some c →
      s.accepts ty.toNat .node r → ∃ t, exec (.tulleFleetRx h k ev ph sfd ty r true) s = .next t ∧ t.regw f 24 = r.seq ∧ t.rd Reg.FLT.RX_OK = s.rd Reg.FLT.RX_OK + 1 ∧
      t.rd Reg.RAD.RX_OK = s.rd Reg.RAD.RX_OK + 1)

/-- Schedules, rules, campaigns and the selections (R380, R382, R386, R388, R390 to R392, R394 to R396): every group takes its winner at a whole second, ramps run, a rule's end leads back to the schedule; a campaign starts, queues, stops, is deleted, activated and
goes round; a loss period is reckoned or skipped; the selections copy what they name. Roundings and the open cases are the model's choices (log entries 23, 47, 48, 49, 87). -/
def Obligations.FleetRuns : Prop :=
  ∀ s : State,
    let i := s.imgSel
    let cmd := Reg.FLT.IMG_CMD
    (∀ r, s.passes r Reg.FLT.MB_GO → fld (s.rd Reg.FLT.MB_STATUS) 0 2 ≠ 1 → s.fpUp = false → ∃ t, exec (.mbGo r) s = .next t ∧ t.rd Reg.FLT.MB_STATUS = 1 ∧
      t.fpWait = s.fpWait ++ [FpWork.mailbox] ∧ Writes [] [Reg.FLT.MB_STATUS] { s.claimed Reg.FLT.MB_GO with fpWait := t.fpWait } t) ∧
    (∀ r, s.passes r Reg.FLT.MB_GO → fld (s.rd Reg.FLT.MB_STATUS) 0 2 ≠ 1 → s.fpUp = true → ∃ t, exec (.mbGo r) s = .next t ∧
      let b := ((List.range 16).map (fun w => leBytes 4 (s.rd (Reg.FLT.MB_IN w)).toNat)).flatten
      t.rd Reg.FLT.MB_STATUS = W (2 + 0x100 * (State.hostRecord (recOf b).1 1 (recOf b).2 (s.claimed Reg.FLT.MB_GO)).2)) ∧
    (∀ (f : Fin 131072) n, s.fpUp = true → bit (s.regw f 0) 0 = true → fld (s.regw f 0) 1 3 = 3 ∨ fld (s.regw f 0) 1 3 = 4 ∨ fld (s.regw f 0) 1 3 = 5 → bit (s.regw f 16) 0 = true →
      3 * Sparse.get (fun _ => 0) s.reports f ≤ n → ∃ t, exec (.nodeReportTimeout f n) s = .next t ∧ bit (t.regw f 16) 0 = false ∧
        (fld (s.regw f 0) 1 3 ≠ 4 → t = { s with registry := t.registry }) ∧ (∀ g w, g ≠ f.val → w < 64 → t.regw g w = s.regw g w)) ∧
    (∀ (f : Fin 131072) n, s.fpAway = false → n < 3 * Sparse.get (fun _ => 0) s.reports f → exec (.nodeReportTimeout f n) s = .next s) ∧
    (s.fpAway = false → s.schRuns = false → exec .scheduleEval s = .next s ∧ exec .rampTick s = .next s) ∧
    (s.fpAway = true → ∀ (f : Fin 131072) n (k : Fin 4096),
      exec (.nodeReportTimeout f n) s = .next { s with fpWait := s.fpWait ++ [FpWork.silent f n] } ∧ exec .scheduleEval s = .next { s with fpWait := s.fpWait ++ [FpWork.schedule] } ∧
      exec .rampTick s = .next { s with fpWait := s.fpWait ++ [FpWork.ramp] } ∧ exec (.ruleHoldEnd k) s = .next { s with fpWait := s.fpWait ++ [FpWork.ruleEnd k] } ∧
      exec .lossPeriodEnd s = .next { s with fpWait := s.fpWait ++ [FpWork.loss] } ∧ exec .imgRound s = .next { s with fpWait := s.fpWait ++ [FpWork.imgRound] } ∧
      ∀ r, s.passes r cmd → ∀ c ∈ [(Instr.imgStart r, (1 : Word)), (Instr.imgStop r, 2), (Instr.imgDelete r, 4), (Instr.imgActivate r, 8)],
        exec c.1 s = .next { s.claimed cmd with fpWait := s.fpWait ++ [FpWork.image i c.2] }) ∧
    (s.schRuns = true → bit (s.rd Reg.RTC.STATUS) 0 = true → ∃ t, exec .scheduleEval s = .next t ∧ (∀ g ∈ s.schGroups, (t.group g).win = s.winnerAt s.utcNow g) ∧
      t.rd Reg.SCH.NEXT_CHANGE = W (s.nextChange s.utcNow) ∧ fld (t.rd Reg.SCH.LOCAL_TIME) 0 17 = (s.localSec s.utcNow % 86400).toNat ∧ t.sched = s.sched) ∧
    (∀ g r, s.schRuns = true → Sparse.wf (fun _ => GroupRun.none) s.groups = true → Sparse.get (fun _ => GroupRun.none) s.groups g = some r → r.sched.runs = true →
      ∃ t, exec .rampTick s = .next t ∧ (t.group g).sched = r.sched.pass s.rampMs ∧ (t.group g).win = r.win) ∧
    (∀ (k : Fin 4096) x, let e := Sparse.get (fun _ => 0) s.ruleEnds k
      let g := fld (s.rulew k 0) 16 12
      s.schRuns = true → e ≠ 0 → e ≤ s.utcNow → (s.group g).rule = some x → State.rulesHeld { s with ruleEnds := Sparse.drop s.ruleEnds k } g s.utcNow = [] →
      ∃ t, exec (.ruleHoldEnd k) s = .next t ∧ (t.group g).ending = true ∧ t.ruleEnds = Sparse.drop s.ruleEnds k ∧
      (t.group g).rule = some { start := s.outNow (s.group g), stop := s.schedNow (s.group g), len := 100 * fld (s.rulew k 3) 16 16, at_ := 0 }) ∧
    (s.fpAway = false → s.periodEnd ≤ s.lossLast → exec .lossPeriodEnd s = .next s) ∧
    (s.fpUp = true → s.lossLast < s.periodEnd → s.lossFrom = none → ∃ t, exec .lossPeriodEnd s = .next t ∧ t.lossLast = s.periodEnd ∧
      t.rd Reg.FLT.LOSS_SKIPPED = satInc (s.rd Reg.FLT.LOSS_SKIPPED) ∧
      Writes [] [Reg.FLT.LOSS_SKIPPED] { s with lossLast := t.lossLast, lossPrev := t.lossPrev, energyLog := t.energyLog, feedMarks := t.feedMarks } t) ∧
    (∀ t0 (x : Nat → Rat), let e := s.periodEnd
      let a := e - s.lossPeriod
      let nodes := (s.registry.filter (fun y => y.1 % 64 == 0 && bit y.2 0 && bit y.2 7)).map (fun y => y.1 / 64)
      let eF : Rat := ((((s.feedAt e).total + 2 ^ 64 - (s.feedAt a).total) % 2 ^ 64 : Nat) : Rat) / 1000
      let eN : Rat := (nodes.map x).foldl (· + ·) 0
      s.fpUp = true → s.lossLast < e → s.lossFrom = some t0 → t0 ≤ a → (s.feedAt a).gap = false → (s.feedAt e).gap = false → (s.feedAt a).gaps = (s.feedAt e).gaps →
      (∀ f ∈ nodes, s.nodeEnergy a e f = some (x f)) → ∃ t, exec .lossPeriodEnd s = .next t ∧ t.lossLast = e ∧ t.rd Reg.FLT.FEEDER_E = State.whOf eF ∧ t.rd Reg.FLT.NODES_E = State.whOf eN ∧
        t.rd Reg.FLT.LOSS_LAST = State.whOf (eF - eN - ((fld (s.rd Reg.FLT.LOSS_FIXED) 0 16 * s.lossPeriod : Nat) : Rat) / 36000) ∧ fld (t.rd Reg.FLT.LOSS_STATUS) 0 16 = 1000) ∧
    (∀ r, s.passes r cmd → s.fpUp = true → (s.img i).state = 2 → s.images.any (fun e => e.2.state == 4) = false → s.campTargets i = [] → s.imgQueue = [] →
      ∃ t, exec (.imgStart r) s = .next t ∧ (t.img i).state = 5 ∧ t.rd Reg.FLT.IMG_TARGETS = 0 ∧ bit (t.blk 28).evtRaw 2 = true) ∧
    (∀ r, s.passes r cmd → s.fpUp = true → (s.img i).state = 2 ∨ (s.img i).state = 5 ∨ (s.img i).state = 6 → s.images.any (fun e => e.2.state == 4) = false → s.campTargets i ≠ [] →
      ∃ t, exec (.imgStart r) s = .next t ∧ (t.img i).state = 4 ∧ t.camp.image = i ∧ t.camp.round = 1 ∧ t.camp.targets = s.campTargets i ∧ t.camp.acked = [] ∧
        t.rd Reg.FLT.IMG_TARGETS = W (s.campTargets i).length ∧ bit (t.blk 28).evtRaw 2 = true) ∧
    (∀ r, s.passes r cmd → s.fpUp = true → (s.img i).state = 2 → s.images.any (fun e => e.2.state == 4) = true → ∃ t, exec (.imgStart r) s = .next t ∧ (t.img i).state = 3 ∧
      t.imgQueue = s.imgQueue ++ [i] ∧ t.camp = s.camp) ∧
    (∀ r, s.passes r cmd → s.fpUp = true → (s.img i).state = 0 ∨ (s.img i).state = 1 → exec (.imgStart r) s = .next ((s.claimed cmd).err 28) ∧ exec (.imgStop r) s = .next ((s.claimed cmd).err 28)) ∧
    (∀ r, s.passes r cmd → s.fpUp = true → (s.img i).state = 4 → s.imgQueue = [] → ∃ t, exec (.imgStop r) s = .next t ∧ (t.img i).state = 6 ∧ t.camp = s.camp) ∧
    (∀ r, s.passes r cmd → s.fpUp = true → (s.img i).state = 2 → ∃ t, exec (.imgDelete r) s = .next t ∧ t.img i = NodeImg.init ∧ (∀ k, k ≠ i → t.img k = s.img k) ∧ bit (t.blk 28).evtRaw 2 = true) ∧
    (∀ r, s.passes r cmd → s.fpUp = true → (s.img i).state = 4 ∨ (s.img i).state = 3 → exec (.imgDelete r) s = .next ((s.claimed cmd).err 28)) ∧
    (∀ r k, s.passes r cmd → s.fpUp = true → 4 ≤ (s.img i).state → s.camp.image = i → s.fleetKey (bit (s.rd Reg.FLT.KEY_CFG) 16) = some k → ∃ t, exec (.imgActivate r) s = .next t ∧
      t.fleetSeq = s.fleetSeq + W s.camp.acked.length ∧ t.images = s.images ∧ t.camp = s.camp) ∧
    (s.fpUp = true → s.mode ≠ .hold → (s.img s.camp.image).state = 4 → s.camp.round < Nat.max 1 (fld (s.rd Reg.FLT.IMG_CFG) 0 4) → ∃ t, exec .imgRound s = .next t ∧
      t.camp = { s.camp with round := s.camp.round + 1 } ∧ t.images = s.images) ∧
    (s.fpUp = true → s.mode ≠ .hold → (s.img s.camp.image).state = 4 → Nat.max 1 (fld (s.rd Reg.FLT.IMG_CFG) 0 4) ≤ s.camp.round → s.imgQueue = [] → ∃ t, exec .imgRound s = .next t ∧
      t.camp.failed = s.camp.failed ++ s.campLeft ∧ (t.img s.camp.image).state = 5) ∧
    (∀ r v, s.passes r Reg.FLT.LOG_SEL → (∀ x ∈ s.faults, x.seq ≠ v) → ∃ t, exec (.logSel r v) s = .next t ∧ t.rd Reg.FLT.LOG_SEL = v ∧ (∀ w, w < 8 → t.rd (Reg.FLT.LOG_REC w) = 0) ∧
      Writes [] (Reg.FLT.LOG_SEL :: (List.range 8).map Reg.FLT.LOG_REC) (s.claimed Reg.FLT.LOG_SEL) t) ∧
    (∀ r v, s.passes r Reg.SCH.GROUP_SEL → ∃ t, exec (.groupSel r v) s = .next t ∧ fld (t.rd Reg.SCH.GROUP_WIN) 0 16 = (match (s.group (fld v 0 12)).win with | some e => e % 65536 | none => 0x8000) ∧
      Writes [] [Reg.SCH.GROUP_SEL, Reg.SCH.GROUP_WIN, Reg.SCH.GROUP_OUT] (s.claimed Reg.SCH.GROUP_SEL) t) ∧
    (∀ r, s.reads r Reg.FLT.IMG_MAP_DATA → ∃ t, exec (.imgMapRead r) s = .next t ∧ t.outbox = s.outbox ++ [Emission.read r Reg.FLT.IMG_MAP_DATA s.imgMapWord] ∧
      t.rd Reg.FLT.IMG_MAP_INDEX = W ((fld (s.rd Reg.FLT.IMG_MAP_INDEX) 0 12 + 1) % 4096) ∧ Writes [] [Reg.FLT.IMG_MAP_INDEX] { s with outbox := t.outbox } t)

/-- The key store (R415 to R417, R419 to R421, R423, R428, R435): an operation is queued with its operands, refused with BUSY while the requester's last one is not done, and with TAMPER while KEY is locked; it ends with its result, its output and KEY event bit 0;
GENERATE fills an EMPTY slot, FREE empties one, and REVOKE takes a slot and its descendants at once. REVOKE at once is the model's choice (log entry 17). -/
def Obligations.KeysAreUsed : Prop :=
  ∀ (s : State) (r : Requester) (i x : BitVec 6),
    let ops : List ((Requester → BitVec 6 → BitVec 6 → Instr) × Nat) :=
      [(.keyGenerate, 0x01), (.keyDerive, 0x02), (.keyImport, 0x03), (.keyFree, 0x05), (.gcmEncrypt, 0x10), (.gcmDecrypt, 0x11), (.hmac, 0x12), (.hmacVerify, 0x13), (.sha256, 0x14),
       (.ecdsaSign, 0x15), (.ecdsaVerify, 0x16), (.pubkey, 0x17), (.attest, 0x18), (.random, 0x19)]
    let cmd := Reg.KEY.OP_CMD
    (∀ c ∈ ops, s.passes r cmd → s.keyLocked = false → s.code 6 = 2 ∨ s.code 6 = 6 → s.keyJobs.any (fun j => j.req == r) = false → ∃ t, exec (c.1 r i x) s = .next t ∧
      t.keyJobs = s.keyJobs ++ [{ req := r, op := c.2, slot := i.toNat, aux := x.toNat, len := fld (s.kreg r 0x64) 0 11, attr := s.kreg r 0x68, inp := s.opIn r (fld (s.kreg r 0x64) 0 11) }] ∧
      t.kreg r 0x6C = (if s.keyJobs.isEmpty then 2 else 1) ∧ t = { s.claimed cmd with keyJobs := t.keyJobs, keyRegs := t.keyRegs }) ∧
    (∀ c ∈ ops, s.passes r cmd → s.keyLocked = false → s.code 6 = 2 ∨ s.code 6 = 6 → s.keyJobs.any (fun j => j.req == r) = true → ∃ t, exec (c.1 r i x) s = .next t ∧
      fld (t.kreg r 0x6C) 4 8 = 11 ∧ t = { s.claimed cmd with keyRegs := t.keyRegs }) ∧
    (∀ c ∈ (Instr.keyRevoke, 4) :: ops, s.passes r cmd → s.keyLocked = true → ∃ t, exec (c.1 r i x) s = .next t ∧ t.kreg r 0x6C = 0x63 ∧ bit (t.blk 6).evtRaw 0 = true ∧
      Notifies [6] [] { s.claimed cmd with keyRegs := t.keyRegs } t) ∧
    (s.passes r cmd → s.keyLocked = false → s.code 6 = 2 ∨ s.code 6 = 6 → s.keyJobs.any (fun j => j.req == r) = false → (s.slot i.toNat).state = 1 → bit (s.slot i.toNat).attr (16 + reqIdx r) = true →
      ∃ t, exec (.keyRevoke r i x) s = .next t ∧ (∀ k ∈ s.revokeSet i.toNat, (t.slot k).state = 2) ∧ (∀ k, k ∉ s.revokeSet i.toNat → t.slot k = s.slot k) ∧ t.kreg r 0x6C = 3 ∧
        bit (t.blk 6).evtRaw 1 = true) ∧
    (∀ j l, s.keyJobs = j :: l → ∃ t, exec .keyOpDone s = .next t ∧ t.keyJobs = l ∧ fld (t.kreg j.req 0x6C) 4 8 = (keyOp s j).1 % 256 ∧ bit (t.blk 6).evtRaw 0 = true ∧
      ((keyOp s j).1 = 0 → ∀ k, k < 256 → k < ((keyOp s j).2.1.length + 3) / 4 → t.kreg j.req (0x800 + 4 * k) = W (ofLE (((keyOp s j).2.1.drop (4 * k)).take 4)))) ∧
    (∀ j l, s.keyJobs = j :: l → j.op = 1 → (s.slot j.slot).state = 0 → fld j.attr 10 2 < 2 → j.slot ≠ 0 → ∃ t, exec .keyOpDone s = .next t ∧ (t.slot j.slot).state = 1 ∧ (t.slot j.slot).origin = 2 ∧
      (t.slot j.slot).depth = 0 ∧ (t.slot j.slot).attr = j.attr &&& attrMask ∧ ∀ k, k ≠ j.slot → t.slot k = s.slot k) ∧
    (∀ j l, s.keyJobs = j :: l → j.op = 5 → (s.slot j.slot).state = 2 → bit (s.slot j.slot).attr (16 + reqIdx j.req) = true → ∃ t, exec .keyOpDone s = .next t ∧ t.slot j.slot = KeySlot.init ∧
      ∀ k, k ≠ j.slot → t.slot k = s.slot k) ∧
    (∀ j l, s.keyJobs = j :: l → (0x10 ≤ j.op ∧ j.op ≤ 0x13) ∨ j.op = 0x15 → (s.slot j.slot).state = 2 → ∃ t, exec .keyOpDone s = .next t ∧ fld (t.kreg j.req 0x6C) 4 8 = 5 ∧ t.slots = s.slots) ∧
    (∀ ms, Nat.max 1 (fld (s.rd Reg.KEY.CFG) 0 8) ≤ ms → exec (.keyRemask ms) s = .next (s.wr Reg.KEY.REMASKS (s.rd Reg.KEY.REMASKS + 1))) ∧
    (∀ ms, ms < Nat.max 1 (fld (s.rd Reg.KEY.CFG) 0 8) → exec (.keyRemask ms) s = .next s) ∧
    (∀ v, s.passes r Reg.KEY.SLOT_SEL → ∃ t, exec (.slotSel r v) s = .next t ∧ t.rd Reg.KEY.SLOT_SEL = v &&& 0x3F ∧ (∀ w, w < 4 → t.rd (Reg.KEY.SLOT_INFO w) = (s.slotInfo (fld v 0 6)).getD w 0) ∧
      Writes [] (Reg.KEY.SLOT_SEL :: (List.range 4).map Reg.KEY.SLOT_INFO) (s.claimed Reg.KEY.SLOT_SEL) t)

/-- Tamper, safe look and fuses (R426 to R428, R430, R432, R433, R436, R437): a new active source latches, zeroises the key RAM and leads to HOLD; levels are staged in turn, sealed under the next SAFE_SEQ and pinned; a burn needs its arm and its conditions, and what it
burns is in force when it is done. The tag, the fairness of rows, several burn bits and the response at the sample are the model's readings (log entries 19, 20, 63, 65). -/
def Obligations.TamperSafeLookAndFuses : Prop :=
  ∀ s : State,
    let fuse := fun (k : Nat) => Sparse.get (fun _ => FuseRow.init) s.fuseRows k
    let burns : List ((Requester → Instr) × Nat) := [(.burnRow, 0), (.burnSeal, 1), (.burnTampWipe, 2), (.burnTampForce, 3), (.burnJtagLock, 4), (.burnConsoleLock, 5)]
    let seen := fun (x : TamperInputs) => State.internalTamper x + (s.rd Reg.TAMP.NOW).toNat % 8
    let sampled := fun (a b : Nat) (m : BitVec 16) => State.externalTamper a b m + (s.rd Reg.TAMP.NOW).toNat % 128 / 8 * 8
    let period := clampN 1 125 (fld (s.rd Reg.TAMP.CFG) 8 8)
    let trips := fun (c : Instr) (hit : Nat) => hit &&& s.tamperEnabled ≠ 0 → s.rd Reg.TAMP.LATCH = 0 → s.mode = .show_ ∨ s.mode = .fleet ∨ s.mode = .grow ∨ s.mode = .service →
      fld (s.rd Reg.BIST.STATUS) 0 2 ≠ 1 → ∃ t, exec c s = .next t ∧ t.rd Reg.TAMP.LATCH = W (hit &&& s.tamperEnabled) ∧ t.rd Reg.TAMP.NOW = W hit ∧ t.keyLocked = true ∧ t.keyJobs = [] ∧
        t.mode = .hold ∧ (∀ k, t.slot k = KeySlot.init)
    (∀ x : TamperInputs, (seen x).testBit 3 = decide (x.mv < 1800 ∨ 3700 < x.mv ∨ 50 < x.glitch) ∧ (seen x).testBit 4 = decide (x.temp.toInt < -440 ∨ 1040 < x.temp.toInt) ∧
      (seen x).testBit 5 = decide (1000 ≤ x.still) ∧ (seen x).testBit 6 = x.shield) ∧
    (∀ a b m, (sampled a b m).testBit 0 = decide (a < 5000 ∨ 50000 < a) ∧ (sampled a b m).testBit 1 = decide (b < 5000 ∨ 50000 < b) ∧ (sampled a b m).testBit 2 = decide (m ≠ 0)) ∧
    (∀ x, trips (.tamperDetect x) (seen x)) ∧
    (∀ ms a b m, period ≤ ms → trips (.tamperSample ms a b m) (sampled a b m)) ∧
    (∀ x, seen x &&& s.tamperEnabled = 0 → s.rd Reg.TAMP.LATCH = 0 → ∃ t, exec (.tamperDetect x) s = .next t ∧ t.rd Reg.TAMP.NOW = W (seen x) ∧
      fld (t.rd Reg.PWR.AON_TEMP) 0 16 = x.temp.toNat ∧ Writes [] [Reg.TAMP.NOW, Reg.PWR.AON_TEMP] s t) ∧
    (∀ ms a b m, ms < period → exec (.tamperSample ms a b m) s = .next s) ∧
    (∀ ms a b m, period ≤ ms → sampled a b m &&& s.tamperEnabled = 0 → s.rd Reg.TAMP.LATCH = 0 → exec (.tamperSample ms a b m) s = .next (s.wr Reg.TAMP.NOW (W (sampled a b m)))) ∧
    (∀ r v, s.passes r Reg.TAMP.SAFE_DATA → fld (s.rd Reg.TAMP.SAFE_INDEX) 0 9 ≤ 415 → ∃ t, exec (.safeDataAccess r (some v)) s = .next t ∧
      t.safeLevel (fld (s.rd Reg.TAMP.SAFE_INDEX) 0 9) = fld v 0 16 ∧ (∀ k, k ≠ fld (s.rd Reg.TAMP.SAFE_INDEX) 0 9 → t.safeLevel k = s.safeLevel k) ∧
      fld (t.rd Reg.TAMP.SAFE_INDEX) 0 9 = (fld (s.rd Reg.TAMP.SAFE_INDEX) 0 9 + 1) % 416 ∧ Writes [] [Reg.TAMP.SAFE_INDEX] { s.claimed Reg.TAMP.SAFE_DATA with safeStage := t.safeStage } t) ∧
    (∀ r, s.reads r Reg.TAMP.SAFE_DATA → ∃ t, exec (.safeDataAccess r none) s = .next t ∧
      t.outbox = s.outbox ++ [Emission.read r Reg.TAMP.SAFE_DATA (W (s.safeLevel (fld (s.rd Reg.TAMP.SAFE_INDEX) 0 9)))] ∧ Writes [] [Reg.TAMP.SAFE_INDEX] { s with outbox := t.outbox } t) ∧
    (∀ r k, s.passes r Reg.TAMP.SAFE_CMD → s.rootDerived [0x53, 0x41, 0x46, 0x45] = some k → s.sealing = none → s.failSeq = false → ∃ t rec_, exec (.safeSeal r) s = .next t ∧ t.sealing = some rec_ ∧
      rec_.seq = s.rd Reg.TAMP.SAFE_SEQ + 1 ∧ rec_.tag = Crypto.hmac k (State.safeBytes { rec_ with tag := [] }) ∧ (∀ i, i < 416 → Sparse.get (fun _ => 0) rec_.levels i = s.safeLevel i) ∧
      fld (t.rd Reg.TAMP.SAFE_STATUS) 0 2 = 3 ∧ t.safe = s.safe) ∧
    (∀ r, s.passes r Reg.TAMP.SAFE_CMD → s.keyLocked = true → exec (.safeSeal r) s = .next ((s.claimed Reg.TAMP.SAFE_CMD).err 7)) ∧
    (∀ rec_, s.sealing = some rec_ → ∃ t, exec .safeSealDone s = .next t ∧ t.safe = some rec_ ∧ t.sealing = none ∧ t.safePin = State.safeDigest rec_ ∧ t.rd Reg.TAMP.SAFE_SEQ = rec_.seq ∧
      bit (t.blk 7).evtRaw 1 = true) ∧
    (∀ r v, s.passes r Reg.FUSE.ROW_SEL → ∃ t, exec (.rowSel r v) s = .next t ∧ t.rd Reg.FUSE.ROW_SEL = W (fld v 0 9) ∧ t.rd Reg.FUSE.ROW_FUSE = s.rowFuse (fld v 0 9) ∧
      t.rd Reg.FUSE.ROW_EFFECT = s.accessRow (fld v 0 9) ∧ Writes [] [Reg.FUSE.ROW_SEL, Reg.FUSE.ROW_FUSE, Reg.FUSE.ROW_EFFECT] (s.claimed Reg.FUSE.ROW_SEL) t) ∧
    (∀ r v, s.passes r Reg.FUSE.BURN_ARM → exec (.burnArm r v) s = .next { s.claimed Reg.FUSE.BURN_ARM with burnArmed := s.burnArmed || (v == 0x46555345 && !s.failSeq) }) ∧
    exec .burnArmExpire s = .next { s with burnArmed := false } ∧
    (∀ c ∈ burns, ∀ r, s.passes r Reg.FUSE.BURN_CMD → s.burnRefusal c.2 = 0 → ∃ t, exec (c.1 r) s = .next t ∧
      t.burn = some { kind := c.2, row := fld (s.rd Reg.FUSE.ROW_SEL) 0 9, stage := s.rd Reg.FUSE.ROW_STAGE &&& 0x3F3F } ∧ t.burnArmed = false ∧ t.rd Reg.FUSE.BURN_STATUS = 1 ∧
      Writes [] [Reg.FUSE.BURN_STATUS] { s.claimed Reg.FUSE.BURN_CMD with burn := t.burn, burnArmed := false } t) ∧
    (∀ c ∈ burns, ∀ r, s.passes r Reg.FUSE.BURN_CMD → s.burnRefusal c.2 ≠ 0 → ∃ t, exec (c.1 r) s = .next t ∧ t.burn = s.burn ∧ t.rd Reg.FUSE.BURN_STATUS = W (3 + 0x10 * s.burnRefusal c.2) ∧
      Writes [] [Reg.FUSE.BURN_STATUS] { s.claimed Reg.FUSE.BURN_CMD with burnArmed := false } t) ∧
    (∀ b ok, s.burn = some b → b.kind = 0 → ∃ t, exec (.burnDone ok) s = .next t ∧ t.burn = none ∧ t.rd Reg.FUSE.BURN_STATUS = (if ok then 2 else 0x72) ∧
      Sparse.get (fun _ => FuseRow.init) t.fuseRows b.row = (if ok then { copies := (fuse b.row).copies + 1, valid := true, row := b.stage } else { fuse b.row with copies := (fuse b.row).copies + 1 }) ∧
      (∀ k, k ≠ b.row → Sparse.get (fun _ => FuseRow.init) t.fuseRows k = fuse k) ∧ Writes [] [Reg.FUSE.BURN_STATUS] { s with burn := none, fuseRows := t.fuseRows } t) ∧
    (∀ b, s.burn = some b → b.kind = 1 → ∃ t, exec (.burnDone true) s = .next t ∧ bit (t.rd Reg.FUSE.LIFECYCLE) 0 = true ∧ t.fuseRows = s.fuseRows ∧
      ∀ i : Nat, i < 256 → populated i = true → t.accessRow i = s.burnedRow i)

/-- Firmware update (R438 to R449): a load begins in the inactive slot, takes pushed bytes, ends in the check whose first failure it reports, or is aborted; ACTIVATE pauses or is refused with its cause; the pause ends in a trial, which COMMIT makes durable and REVERT,
or its timer, undoes. NO_TRIAL and one pause are the model's choices (log entries 50 and 79). -/
def Obligations.ImagesLoadAndActivate : Prop :=
  ∀ s : State,
    let i := s.updSel
    let lc := Reg.UPD.LOAD_CMD
    let ac := Reg.UPD.ACT_CMD
    let firstEnd := fun (k : Nat) => (List.range 32).find? (fun n => k ≤ n && (s.blk (32 + n)).enable && s.up (32 + n))
    (∀ r, s.passes r lc → s.upd.load = none → s.inTrial i = false → ∃ t, exec (.loadBegin r) s = .next t ∧ t.upd.load = some i ∧ t.imgSlot (s.spareSlot i) = ImgSlot.init ∧ t.loadState = 1 ∧
      t.rd Reg.UPD.LOAD_OFFSET = 0 ∧ (∀ k, k ≠ s.spareSlot i → t.imgSlot k = s.imgSlot k) ∧ Writes [] [Reg.UPD.LOAD_STATUS, Reg.UPD.LOAD_OFFSET] { s.claimed lc with upd := t.upd } t) ∧
    (∀ r, s.passes r lc → s.upd.load ≠ none → ∃ t, exec (.loadBegin r) s = .next t ∧ fld (t.rd Reg.UPD.LOAD_STATUS) 8 8 = 14 ∧ Writes [] [Reg.UPD.LOAD_STATUS] (s.claimed lc) t) ∧
    (∀ r v k, s.passes r Reg.UPD.LOAD_PUSH → s.upd.load = some k → s.loadState = 1 → 1 ≤ fld v 0 12 → fld v 0 12 ≤ 2048 → (s.imgSlot (s.spareSlot k)).bytes.length + fld v 0 12 ≤ 16 * 2 ^ 20 →
      ∃ t, exec (.loadPush r v) s = .next t ∧ (t.imgSlot (s.spareSlot k)).bytes = (s.imgSlot (s.spareSlot k)).bytes ++ s.loadBytes (fld v 0 12) ∧
        t.rd Reg.UPD.LOAD_OFFSET = W ((s.imgSlot (s.spareSlot k)).bytes.length + fld v 0 12) ∧ Writes [] [Reg.UPD.LOAD_OFFSET] { s.claimed Reg.UPD.LOAD_PUSH with upd := t.upd } t) ∧
    (∀ r v, s.passes r Reg.UPD.LOAD_PUSH → s.upd.load = none ∨ fld v 0 12 = 0 → exec (.loadPush r v) s = .next ((s.claimed Reg.UPD.LOAD_PUSH).err 8)) ∧
    (∀ r k, s.passes r lc → s.upd.load = some k → s.loadState = 1 → ∃ t, exec (.loadEnd r) s = .next t ∧ t.loadState = 2 ∧ Writes [] [Reg.UPD.LOAD_STATUS] (s.claimed lc) t) ∧
    (∀ r k, s.passes r lc → s.upd.load = some k → ∃ t, exec (.loadAbort r) s = .next t ∧ t.loadState = 0 ∧ t.upd.load = none ∧ t.imgSlot (s.spareSlot k) = ImgSlot.init ∧
      Writes [] [Reg.UPD.LOAD_STATUS] { s.claimed lc with upd := t.upd } t) ∧
    (∀ k, k < 5 → s.upd.load = some k → s.loadState = 2 → ∃ t, exec .loadCheckDone s = .next t ∧ t.upd.load = none ∧
      fld (t.rd Reg.UPD.LOAD_STATUS) 8 8 = s.imageCheck k (s.imgSlot (s.spareSlot k)).bytes ∧ bit (t.blk 8).evtRaw 0 = true ∧
      (t.imgSlot (s.spareSlot k)).valid = ((s.imgSlot (s.spareSlot k)).valid || s.imageCheck k (s.imgSlot (s.spareSlot k)).bytes == 1) ∧
      Notifies [8] [Reg.UPD.LOAD_STATUS] { s with upd := t.upd } t) ∧
    (∀ r, s.passes r ac → s.failSeq = false → (s.actRefusal i).1 ≠ 0 → ∃ t, exec (.activate r) s = .next t ∧ fld (t.rd Reg.UPD.ACT_STATUS) 8 8 = (s.actRefusal i).1 ∧ bit (t.blk 8).evtRaw 1 = true ∧
      Notifies [8] [Reg.UPD.ACT_STATUS] (s.claimed ac) t) ∧
    (∀ r, s.passes r ac → s.failSeq = false → (s.actRefusal i).1 = 0 → ∃ t, exec (.activate r) s = .next t ∧ fld (t.rd Reg.UPD.ACT_STATUS) 0 2 = 1 ∧
      (i < 4 → t.proc i = 1 ∧ t.upd = { s.upd with pause := some (i, false) }) ∧ (4 ≤ i → t.upd = { s.upd with pause := some (i, false), port := firstEnd 0 })) ∧
    (∀ us n rv, s.upd.pause = some (4, rv) → s.upd.port = some n → firstEnd (n + 1) ≠ none → ∃ t, exec (.activationPauseEnd us) s = .next t ∧ t.rd Reg.UPD.PAUSE_LAST = us ∧
      t.upd = { s.upd with port := firstEnd (n + 1) }) ∧
    (∀ us n, s.upd.pause = some (4, false) → s.upd.port = some n → firstEnd (n + 1) = none → ∃ t, exec (.activationPauseEnd us) s = .next t ∧ t.rd Reg.UPD.PAUSE_LAST = us ∧
      t.upd = { s.upd with port := none, pause := none, activeB := s.upd.activeB ^^^ 2 ^ 4, trial := some 4 } ∧ fld (t.rd Reg.UPD.ACT_STATUS) 0 2 = 2) ∧
    (∀ (k : Fin 4) us, s.upd.pause = some (k.val, false) → s.upd.port = none → s.fpWait = [] → ∃ t, exec (.activationPauseEnd us) s = .next t ∧ t.upd.trial = some k.val ∧ t.upd.pause = none ∧
      t.upd.activeB = s.upd.activeB ^^^ 2 ^ k.val ∧ t.rd Reg.UPD.PAUSE_LAST = us ∧ fld (t.rd Reg.UPD.ACT_STATUS) 0 2 = 2 ∧ t.proc k = 2 ∧ bit (t.blk 8).evtRaw 1 = true) ∧
    (∀ us, s.upd.pause = none → exec (.activationPauseEnd us) s = .next s) ∧
    (∀ r k, s.passes r ac → s.mode ≠ .hold → s.upd.trial = some k → s.upd.pause = none → s.upd.committing = false → (s.imgSlot (s.activeSlot k)).sec ≤ s.arbOf k →
      ∃ t, exec (.commit r) s = .next t ∧ t.upd = { s.upd with committing := true } ∧ fld (t.rd Reg.UPD.ACT_STATUS) 0 2 = 3 ∧ Writes [] [Reg.UPD.ACT_STATUS] { s.claimed ac with upd := t.upd } t) ∧
    (∀ r, s.passes r ac → s.mode ≠ .hold → s.upd.trial = none → ∃ t, exec (.commit r) s = .next t ∧ fld (t.rd Reg.UPD.ACT_STATUS) 8 8 = 9 ∧ bit (t.blk 8).evtRaw 1 = true ∧
      Notifies [8] [Reg.UPD.ACT_STATUS] (s.claimed ac) t) ∧
    (∀ k, s.upd.trial = some k → s.upd.committing = true → ∃ t, exec .updCommitDone s = .next t ∧ t.upd.trial = none ∧ t.upd.committing = false ∧
      t.arbOf k = Nat.max (s.arbOf k) (s.imgSlot (s.activeSlot k)).sec ∧ t.rd Reg.UPD.TRIAL_LEFT = 0 ∧ t.rd Reg.SYS.JOURNAL_SEQ = s.rd Reg.SYS.JOURNAL_SEQ + 1 ∧ bit (t.blk 8).evtRaw 1 = true) ∧
    (∀ r k, s.passes r ac → s.upd.trial = some k → s.upd.pause = none → s.upd.committing = false → ∃ t, exec (.revert r) s = .next t ∧
      (k < 4 → t.proc k = 1 ∧ t.upd = { s.upd with pause := some (k, true) }) ∧ (4 ≤ k → t.upd = { s.upd with pause := some (k, true), port := firstEnd 0 })) ∧
    (∀ k, s.upd.trial = some k → s.upd.pause = none → s.upd.committing = false → ∃ t, exec .trialExpire s = .next t ∧
      t.upd = { s.upd with pause := some (k, true), port := if k < 4 then s.upd.port else firstEnd 0 } ∧ t.rd Reg.UPD.TRIAL_LEFT = 0) ∧
    (s.upd.trial = none → exec .trialExpire s = .next s)

/-- Calibration (R458 to R462, R464): SEL shows a set; WRITE stores the staged words with their CHECK or reports 8; CLEAR empties a set; RUN begins or reports why not; a run that meets its limit stores its set at its point, and one that does not, or is aborted, stores
nothing. The order of refusals is the model's reading (log entry 51), and the rounding of MTR's gains its choice (log entry 125). -/
def Obligations.CalibrationSetsAreKept : Prop :=
  ∀ s : State,
    let cmd := Reg.CAL.CMD
    let kind := s.calKind
    let inst := s.calInst
    let point := s.calPoint
    let staged := (List.range 15).map (fun w => s.rd (Reg.CAL.SET_DATA w))
    let ends := fun (t : State) (res : Nat) => fld (t.rd Reg.CAL.STATUS) 8 8 = res ∧ bit (t.blk 10).evtRaw (if res = 1 then 0 else 1) = true ∧ t.calRun = s.calRun
    (∀ r v, s.passes r Reg.CAL.SEL → ∃ t, exec (.calSel r v) s = .next t ∧ t.rd Reg.CAL.SEL = v &&& 0x000F1F03 ∧ (∀ w, w < 16 → t.rd (Reg.CAL.SET_DATA w) = (s.calSet (fld v 0 2) (fld v 8 5) (fld v 16 4)).getD w 0) ∧
      ((s.calPoints (fld v 0 2) (fld v 8 5)).length < 16 → fld (t.rd Reg.CAL.STATUS) 16 4 = (s.calPoints (fld v 0 2) (fld v 8 5)).length) ∧ t.cal = s.cal ∧ t.calRun = s.calRun) ∧
    (∀ r, s.passes r cmd → s.mode ≠ .hold → s.calBusy kind inst = false → State.calInstOk kind inst = true → s.calSetOk kind inst point staged = true → ∃ t, exec (.calWrite r) s = .next t ∧ ends t 1 ∧
      t.calSet kind inst point = State.calSealed staged ∧ (∀ k i p, State.calKey k i p ≠ State.calKey kind inst point → t.calSet k i p = s.calSet k i p)) ∧
    (∀ r, s.passes r cmd → s.mode ≠ .hold → s.calBusy kind inst = false → State.calInstOk kind inst = false ∨ s.calSetOk kind inst point staged = false → ∃ t, exec (.calWrite r) s = .next t ∧ ends t 8 ∧
      Notifies [10] [Reg.CAL.STATUS] (s.claimed cmd) t) ∧
    (∀ r, s.passes r cmd → s.mode = .hold → ∃ t, exec (.calWrite r) s = .next t ∧ ends t 10 ∧ Notifies [10] [Reg.CAL.STATUS] (s.claimed cmd) t) ∧
    (∀ r, s.passes r cmd → s.mode ≠ .hold → s.calBusy kind inst = false → State.calInstOk kind inst = true → ∃ t, exec (.calClear r) s = .next t ∧ ends t 1 ∧
      t.calSet kind inst point = [] ∧ (∀ k i p, State.calKey k i p ≠ State.calKey kind inst point → t.calSet k i p = s.calSet k i p)) ∧
    (∀ r temp ref, s.passes r cmd → s.calRefusal temp.toInt ref ≠ 0 → ∃ t, exec (.calRun r temp ref) s = .next t ∧ ends t (s.calRefusal temp.toInt ref) ∧ Notifies [10] [Reg.CAL.STATUS] (s.claimed cmd) t) ∧
    (∀ r temp ref, s.passes r cmd → s.calRefusal temp.toInt ref = 0 → ∃ t, exec (.calRun r temp ref) s = .next t ∧ t.calRun = some { kind := kind, inst := inst, temp := temp } ∧
      fld (t.rd Reg.CAL.STATUS) 0 2 = 1 ∧ (kind = 0 → t.code (32 + inst) = 5) ∧ (kind = 1 → t.code 30 = 5) ∧ t.cal = s.cal) ∧
    (∀ c q w a, s.calRun = none → exec (.calRunDone c q w a) s = .next s) ∧
    (∀ c q w j, s.calRun = some j → ∃ t, exec (.calRunDone c q w true) s = .next t ∧ t.calRun = none ∧ fld (t.rd Reg.CAL.STATUS) 8 8 = 7 ∧ bit (t.blk 10).evtRaw 1 = true ∧ t.cal = s.cal) ∧
    (∀ c (q : Word) w j, s.calRun = some j → s.calGood j q.toInt = false → ∃ t, exec (.calRunDone c q w false) s = .next t ∧ t.calRun = none ∧ fld (t.rd Reg.CAL.STATUS) 8 8 = 9 ∧ bit (t.blk 10).evtRaw 1 = true ∧
      t.cal = s.cal ∧ t.rd Reg.CAL.QUALITY = q) ∧
    (∀ c (q : Word) w j p, let gain := fun (ref : Nat) (m : Word) => (roundQ (mkRat (fld (s.rd ref) 0 24 * 4194304) m.toNat)).toNat
      let coef : List Word := if j.kind = 0 then (List.range 12).map (fun i => c.getD i 0)
        else if j.kind = 1 then W (gain Reg.CAL.REF_V (c.getD 0 0)) :: W (gain Reg.CAL.REF_I (c.getD 1 0)) :: (s.rd Reg.CAL.REF_PHI - c.getD 2 0) :: List.replicate 9 0
        else c.getD 0 0 :: List.replicate 11 0
      s.calRun = some j → (j.kind = 1 → c.getD 0 0 ≠ 0 ∧ c.getD 1 0 ≠ 0 ∧ gain Reg.CAL.REF_V (c.getD 0 0) < 2 ^ 24 ∧ gain Reg.CAL.REF_I (c.getD 1 0) < 2 ^ 24) → s.calGood j q.toInt = true → s.calNear j.kind (if j.kind = 0 then s.gzRate j.inst else j.inst) j.temp.toInt = some p →
      ∃ t, exec (.calRunDone c q w false) s = .next t ∧ t.calRun = none ∧ fld (t.rd Reg.CAL.STATUS) 8 8 = 1 ∧ bit (t.blk 10).evtRaw 0 = true ∧ t.rd Reg.CAL.QUALITY = q ∧
        t.rd Reg.CAL.RUNS = s.rd Reg.CAL.RUNS + 1 ∧ t.calSet j.kind (if j.kind = 0 then s.gzRate j.inst else j.inst) p =
          State.calSealed (W ((if j.kind = 0 then encS 16 (State.calFixed p) else j.temp.toNat) + 0x30000) :: coef ++ [q, w]) ∧ (j.kind = 1 → (t.blk 30).swapPend = true))

/-- Register accesses (R8, R9, R75, R77, R86, R88): an aligned read that nothing stops answers the register's value and has its side effect, one of 64 bits the lower word first; a write sets the writable bits of an RW register, clears those of a W1C one but what hardware
sets in the same cycle, and goes to the inactive bank of an RWS one; writes of one cycle take effect in the order HOST, PRT, RP, FP, PP, SC; an access that is not whole and aligned is counted, and nothing is written; a doorbell reads its credits and LAST. That RW stores the
masked value and where the doorbells lie in the host's address are the model's readings (log entries 2, 58 and 101). -/
def Obligations.RegistersReadAndWrite : Prop :=
  ∀ (s : State) (r : Requester) (a : Word) (v : Word),
    let n := a.toNat
    let old := s.claimed n
    let plain := n / 0x1000 ∈ [1, 18, 30, 101, 108] ∧ n % 4 = 0 ∧ 0x40 ≤ n % 0x1000
    let counted := fun (t : State) => t.rd Reg.HIF.BAD_ACCESS_CNT = satInc (s.rd Reg.HIF.BAD_ACCESS_CNT) ∧ bit (t.blk 3).evtRaw 3 = true ∧ Notifies [3] [Reg.HIF.BAD_ACCESS_CNT] s t
    (n % 4 = 0 → s.reads r n → exec (.registerRead r a false) s = .next ((State.readEffect r n s).emit (.read r n (s.readValue r n)))) ∧
    (∀ row, plain → s.passes r n → regRow n = some row → row.acc = .rw → ∃ t, exec (.registerWrite r a v none 0 []) s = .next t ∧ t.rd n = v &&& row.mask ∧ Writes [] [n, Reg.SYS.JOURNAL_SEQ] old t) ∧
    (∀ row sets, plain → s.passes r n → regRow n = some row → row.acc = .w1c → ∃ t, exec (.registerWrite r a v none sets []) s = .next t ∧
      t.rd n = (s.rd n &&& ~~~(v &&& row.mask)) ||| (s.rd n &&& v &&& sets &&& row.mask) ∧
      Writes [] [n, Reg.SYS.JOURNAL_SEQ] old t) ∧
    (∀ row, plain → s.passes r n → regRow n = some row → row.acc = .rws → (s.blk (n / 0x1000)).swapPend = false → ∃ t, exec (.registerWrite r a v none 0 []) s = .next t ∧ t.rd n = s.rd n ∧
      (∀ d, Sparse.get d t.shadow n = v &&& row.mask ∧ ∀ b, b ≠ n → Sparse.get d t.shadow b = Sparse.get d s.shadow b) ∧ t = { old with shadow := t.shadow }) ∧
    (∀ row, plain → s.passes r n → regRow n = some row → row.acc = .rws → (s.blk (n / 0x1000)).swapPend = true → ∃ t, exec (.registerWrite r a v none 0 []) s = .next t ∧
      t.blk (n / 0x1000) = { s.blk (n / 0x1000) with errCnt := satInc (s.blk (n / 0x1000)).errCnt } ∧ Writes [n / 0x1000] [] old t) ∧
    (∀ row, plain → s.passes r n → regRow n = some row → row.acc = .ro → exec (.registerWrite r a v none 0 []) s = .next old) ∧
    (n % 4 ≠ 0 → s.mode ≠ .doze → s.hostUp = true → ∃ t, exec (.registerWrite .host a v none 0 []) s = .next t ∧ counted t) ∧
    (∀ q, q < 16384 → n = 0x100000 + 8 * q → s.mode ≠ .doze → s.hostUp = true → exec (.registerRead .host a true) s = .next (s.emit (.doorbell q (s.doorbellWord q)))) ∧
    (∀ t, n % 8 = 0 → (r = .host → n < 0x100000 ∨ 0x120000 ≤ n) → exec (.registerRead r a false) s = .next t → exec (.registerRead r a true) s = exec (.registerRead r (a + 4) false) t) ∧
    (∀ w t, n % 8 = 0 → exec (.registerWrite r a v none 0 []) s = .next t → exec (.registerWrite r a v (some w) 0 []) s = exec (.registerWrite r (a + 4) w none 0 []) t) ∧
    (∀ q (b w : Word) t, q ≠ r → b.toNat / 0x1000 = n / 0x1000 →
      (arrivalRank q < arrivalRank r → exec (.registerWrite q b w none 0 []) s = .next t → exec (.registerWrite r a v none 0 [(q, b, w)]) s = exec (.registerWrite r a v none 0 []) t) ∧
      (arrivalRank r < arrivalRank q → exec (.registerWrite r a v none 0 []) s = .next t → exec (.registerWrite r a v none 0 [(q, b, w)]) s = exec (.registerWrite q b w none 0 []) t)) ∧
    (n % 4 ≠ 0 → n < 0x100000 → s.mode ≠ .doze → s.hostUp = true → ∃ t, exec (.registerRead .host a false) s = .next t ∧ counted t ∧ t.outbox.getLast? = some (.read .host n 0)) ∧
    (∀ strobe : BitVec 4, n % 4 ≠ 0 ∨ strobe ≠ 15 → s.mode ≠ .doze → s.hostUp = true → ∃ t, exec (.badAccess .host true a strobe v) s = .next t ∧ counted t) ∧
    (∀ strobe : BitVec 4, n % 4 = 0 → n < 0x100000 → exec (.badAccess r false a strobe v) s = exec (.registerRead r a false) s) ∧
    (∀ strobe : BitVec 4, n % 4 = 0 → strobe = 15 → exec (.badAccess r true a strobe v) s = exec (.registerWrite r a v none 0 []) s) ∧
    (∀ strobe : BitVec 4, n % 4 ≠ 0 ∨ strobe ≠ 15 → r ≠ .host → r ≠ .prt → s.reach 3 = true → ∃ t, exec (.badAccess r true a strobe v) s = .next t ∧ counted t) ∧
    (∀ strobe : BitVec 4, n % 4 ≠ 0 → r ≠ .host → r ≠ .prt → s.reach 3 = true → ∃ t, exec (.badAccess r false a strobe v) s = .next t ∧ counted t ∧ t.outbox.getLast? = some (.read r n 0)) ∧
    (∀ (c : Fin 8), s.passes r (Reg.PRT.CLIENT_CFG c) → ∃ t, exec (.clientCfgWrite r c v) s = .next t ∧ t.rd (Reg.PRT.CLIENT_CFG c) = v &&& 0x3F01 ∧
      (fld (s.rd (Reg.PRT.CLIENT_CFG c)) 8 6 ≠ fld v 8 6 → t.prtLastSeq c = 0 ∧ Sparse.get (fun _ => []) t.prtLast c = []) ∧
      (fld (s.rd (Reg.PRT.CLIENT_CFG c)) 8 6 = fld v 8 6 → t.prtLastSeq c = s.prtLastSeq c ∧ t.prtLast = s.prtLast) ∧
      (s.rd (Reg.PRT.CLIENT_CFG c) ≠ v &&& 0x3F01 → bit (t.blk 4).evtRaw 3 = true) ∧
      Notifies [4] [Reg.PRT.CLIENT_CFG c, Reg.PRT.LAST_SEQ_LO c, Reg.PRT.LAST_SEQ_HI c, Reg.SYS.JOURNAL_SEQ] { s.claimed (Reg.PRT.CLIENT_CFG c) with prtLast := t.prtLast } t)

/-- The table windows (R88, R90, R91): a read inside a table that the host may read gives its bytes; a write inside the shadow bank of a banked table replaces those bytes and no other; beyond the table, to an active bank, or during a swap it is counted and dropped. Accesses beyond the table and the shadow solver tables are the model's choices (log entry 56). -/
def Obligations.TableWindows : Prop :=
  ∀ s : State, s.mode ≠ .doze → s.hostUp = true →
    let n := s.winTable
    let counted := fun (t : State) => t.rd Reg.HIF.BAD_ACCESS_CNT = satInc (s.rd Reg.HIF.BAD_ACCESS_CNT) ∧ bit (t.blk 3).evtRaw 3 = true ∧ Notifies [3] [Reg.HIF.BAD_ACCESS_CNT] s t
    (∀ off len, off + len ≤ 2 ^ 28 → 1 ≤ n → n ≤ 8 → s.allowed .host (256 + n) false = true → s.winBase off + len ≤ State.tableSize n →
      exec (.tableWindowRead off len) s = .next (s.emit (.tableRead ((List.range len).map (fun i => s.tableByte n s.winShadow (s.winBase off + i)))))) ∧
    (∀ off len, off + len ≤ 2 ^ 28 → 1 ≤ n → n ≤ 8 → s.allowed .host (256 + n) false = true → State.tableSize n < s.winBase off + len →
      ∃ t, exec (.tableWindowRead off len) s = .next t ∧ counted t ∧ t.outbox.getLast? = some (.tableRead (List.replicate len 0))) ∧
    (∀ off len, off + len ≤ 2 ^ 28 → 1 ≤ n → n ≤ 8 → s.allowed .host (256 + n) false = false →
      ∃ t, exec (.tableWindowRead off len) s = .next t ∧ t.rd Reg.HIF.DENIED_CNT = satInc (s.rd Reg.HIF.DENIED_CNT) ∧ bit (t.blk 3).evtRaw 0 = true ∧
        t.outbox.getLast? = some (.tableRead (List.replicate len 0)) ∧ Notifies [3] [Reg.HIF.DENIED_CNT] s t) ∧
    (∀ off l, off + l.length ≤ 2 ^ 28 → 1 ≤ n → n ≤ 3 → s.allowed .host (256 + n) true = true → s.winBase off + l.length ≤ State.tableSize n → s.winShadow = true → (s.blk 18).swapPend = false →
      ∃ t, exec (.tableWindowWrite off l) s = .next t ∧
        (∀ o, t.tableByte n true o = (if s.winBase off ≤ o ∧ o < s.winBase off + l.length then l.getD (o - s.winBase off) 0 else s.tableByte n true o)) ∧
        (∀ k, 1 ≤ k → k ≤ 3 → k ≠ n → ∀ o, t.tableByte k true o = s.tableByte k true o) ∧ t = { s with mapSh := t.mapSh, zoneSh := t.zoneSh, profSh := t.profSh }) ∧
    (∀ off l, off + l.length ≤ 2 ^ 28 → 1 ≤ n → n ≤ 8 → s.allowed .host (256 + n) true = true →
      State.tableSize n < s.winBase off + l.length ∨ 4 ≤ n ∨ s.winShadow = false ∨ (s.blk 18).swapPend = true → ∃ t, exec (.tableWindowWrite off l) s = .next t ∧ counted t) ∧
    (n = 0 → ∀ off l, off + l.length ≤ 2 ^ 28 → exec (.tableWindowWrite off l) s = .next s)

/-- Watchdogs, recovery windows and memory errors (R13, R14, R30, R31, R33, R49, R70, R159, R209, R228): a watchdog stops its own processor, which runs again; the first fault of a block opens a recovery window and a second inside it is FAULT; a reload ends the window. Bit 31, the counting of corrected errors and the reach of a damaged region are the model's choices (log entries 11 and 53). -/
def Obligations.FaultsAreRecovered : Prop :=
  ∀ s : State,
    let quiet := s.fpWait = [] ∧ s.faultWait = [] ∧ (∀ n, n < 4 → (s.eth n).rxHold = [])
    let tables := fun (x : EccSite) => (∃ e, x = .mapEntry e) ∨ (∃ p, x = .solver p) ∨ ∃ pg, x = .table pg
    (∀ p, s.proc (procIdx p) = 2 → s.upd.trial ≠ some (procIdx p) → (p = .sc → ∀ t0, s.scReset = some t0 → t0 + 10000000000 ≤ s.clock) → ∃ t, exec (.procWatchdogReset p) s = .next t ∧
      t.proc (procIdx p) = 3 ∧ (∀ q, q < 8 → q ≠ procIdx p → t.proc q = s.proc q) ∧ t.rd Reg.SYS.WDOG_CNT = satIncFld (s.rd Reg.SYS.WDOG_CNT) (8 * procIdx p) 8 ∧ bit (t.blk 0).evtRaw 3 = true ∧
      t.scReset = (if p = .sc then some s.clock else s.scReset) ∧ Notifies [0] [Reg.SYS.PROC_STATE, Reg.SYS.WDOG_CNT] { s with scReset := t.scReset, children := t.children } t) ∧
    (∀ t0, s.proc 0 = 2 → s.upd.trial ≠ some 0 → s.scReset = some t0 → s.clock < t0 + 10000000000 → s.mode = .show_ ∨ s.mode = .fleet ∨ s.mode = .grow ∨ s.mode = .service → fld (s.rd Reg.BIST.STATUS) 0 2 ≠ 1 →
      ∃ t, exec (.procWatchdogReset .sc) s = .next t ∧ t.proc 0 = 3 ∧ t.mode = .hold ∧ fld (t.rd Reg.SYS.MODE_STATUS) 16 8 = 5) ∧
    (∀ p, s.proc (procIdx p) ≠ 2 → exec (.procWatchdogReset p) s = .next s) ∧
    (∀ p d, s.proc (procIdx p) = 3 → quiet → journalGood d none s.jrnl = s.jrnl → ∃ t, exec (.procRestarted p d) s = .next t ∧ t.proc (procIdx p) = 2 ∧ t.jrnl = [] ∧
      (p = .rp → s.up 112 = true → bit (t.blk 112).evtRaw 11 = true) ∧ (p ≠ .fp → (∀ n, t.eth n = s.eth n) ∧ Notifies [112] [Reg.SYS.PROC_STATE] { s with eths := t.eths, jrnl := [] } t)) ∧
    (∀ p d r l, s.proc (procIdx p) = 3 → quiet → s.jrnl = journalGood d none s.jrnl ++ r :: l → ∃ t, exec (.procRestarted p d) s = .next t ∧ t.proc (procIdx p) = 2 ∧ t.jrnl = [] ∧
      t.rd Reg.SYS.JOURNAL_SEQ = r.seq - 1 ∧ bit (t.blk 0).evtRaw 7 = true ∧
      (∀ k o v, l = [] → r.items = [.word .registry k o v] → Sparse.get (fun _ => 0) t.registry k = o) ∧ (∀ k o v, l = [] → r.items = [.word .reg k o v] → keptReg k = true → t.rd k = o)) ∧
    (∀ p bad, s.proc (procIdx p) ≠ 3 → exec (.procRestarted p bad) s = .next s) ∧
    (∀ pg : Fin 256, ∃ t, exec (.recoveryWindowEnd pg) s = .next t ∧ pg.val ∉ t.windows ∧ (∀ p : Nat, p ≠ pg → (p ∈ t.windows ↔ p ∈ s.windows)) ∧
      t = { s with windows := t.windows, radio := if pg = 112 then { s.radio with lost := [] } else s.radio }) ∧
    (∀ e, s.up 18 = true → ∃ t, exec (.correctedError (.mapEntry e)) s = .next t ∧ t.rd Reg.MAP.ECC_CORR = satInc (s.rd Reg.MAP.ECC_CORR) ∧ Writes [] [Reg.MAP.ECC_CORR] s t) ∧
    (∀ pg : Fin 256, s.up pg = true → ∃ t, exec (.correctedError (.table pg)) s = .next t ∧ t.blk pg = { s.blk pg with errCnt := satInc (s.blk pg).errCnt } ∧ Writes [pg.val] [] s t) ∧
    (∀ x, s.up (State.sitePage x) = false → exec (.correctedError x) s = .next s ∧ exec (.uncorrectableError x) s = .next s) ∧
    (∀ x, tables x → s.up (State.sitePage x) = true → State.sitePage x ∉ s.windows → s.frames.filter (s.eccReads x) = [] →
      exec (.uncorrectableError x) s = .next { s with windows := s.windows ++ [State.sitePage x], reloads := s.reloads ++ [x] }) ∧
    (∀ x f, tables x → s.up (State.sitePage x) = true → f ∈ s.frames → s.eccReads x f = true → ∃ t, exec (.uncorrectableError x) s = .next t ∧ ∀ g ∈ t.frames, g.zone = f.zone → g.k ≠ f.k) ∧
    (∀ n, s.up 21 = true → exec (.uncorrectableError (.frameStore n)) s = .next (s.setVin n { s.vin n with done := [] })) ∧
    (∀ n : Fin 9, n ≠ 8 → s.up 21 = true → exec (.uncorrectableError (.ingest n)) s = .next (s.setVin n { s.vin n with cur := [] })) ∧
    (s.up 25 = true → exec (.uncorrectableError (.ingest 8)) s = .next { s with audBuf := [] }) ∧
    (∀ x, tables x → s.up (State.sitePage x) = true → State.sitePage x ∈ s.windows → s.frames.filter (s.eccReads x) = [] → ∃ t, exec (.uncorrectableError x) s = .next t ∧
      t.code (State.sitePage x) = 7 ∧ bit (t.blk (State.sitePage x)).evtRaw 31 = true ∧ ∀ y ∈ t.reloads, State.sitePage y ≠ State.sitePage x) ∧
    (∀ c : BitVec 16, s.up 22 = true → c.toNat ∈ s.clipCache → ∃ t, exec (.uncorrectableError (.clipCache c)) s = .next t ∧ c.toNat ∉ t.clipCache ∧
      t = { s with clipCache := t.clipCache, reloads := s.reloads ++ [.clipCache c] }) ∧
    (∀ e, EccSite.mapEntry e ∈ s.reloads → ∃ t, exec (.tableReloadDone (.mapEntry e)) s = .next t ∧ t.rd Reg.MAP.RELOADS = satInc (s.rd Reg.MAP.RELOADS) ∧ bit (t.blk 18).evtRaw 1 = true ∧
      18 ∉ t.windows ∧ EccSite.mapEntry e ∉ t.reloads ∧ Notifies [18] [Reg.MAP.RELOADS] { s with windows := t.windows, reloads := t.reloads } t) ∧
    (∀ pg : Fin 256, EccSite.table pg ∈ s.reloads → ∃ t, exec (.tableReloadDone (.table pg)) s = .next t ∧ pg.val ∉ t.windows ∧ EccSite.table pg ∉ t.reloads ∧
      t = { s with windows := t.windows, reloads := t.reloads }) ∧
    (∀ (c : BitVec 16) kept, EccSite.clipCache c ∈ s.reloads → s.cacheFit c.toNat = some kept → s.clipStored c.toNat = true → exec (.tableReloadDone (.clipCache c)) s =
      .next { s with reloads := s.reloads.filter (fun y => y != .clipCache c), clipCache := kept ++ [c.toNat] }) ∧
    (∀ x, x ∉ s.reloads → exec (.tableReloadDone x) s = .next s) ∧
    (∀ p, EccSite.solver p ∈ s.reloads → ∃ t, exec (.solverRebuildDone p) s = .next t ∧ t.rd Reg.CLR.RELOADS = satInc (s.rd Reg.CLR.RELOADS) ∧ bit (t.blk 19).evtRaw 2 = true ∧ 19 ∉ t.windows ∧
      EccSite.solver p ∉ t.reloads ∧ Notifies [19] [Reg.CLR.RELOADS] { s with windows := t.windows, reloads := t.reloads } t) ∧
    (∀ p, EccSite.solver p ∉ s.reloads → exec (.solverRebuildDone p) s = .next s)

/-- The Pleano register transport (R102 to R106): a datagram whose TAG is wrong, or whose SEQ is not above the last, is counted and not answered, but that the last one is answered again from the stored response; every other is answered with its STATUS, and only one with
STATUS OK has an effect beyond that. The order of STATUS and the open cases are the model's choices (log entry 55). -/
def Obligations.PrtAnswersRequests : Prop :=
  ∀ (s : State) (q : PrtReq) (bad : Byte),
    let ops : List ((PrtReq → Instr) × Byte) := [(.prtRead, 1), (.prtWrite, 2), (.prtReadTable, 3), (.prtWriteTable, 4), (.prtNop, 5), (.prtBadOpcode bad, bad)]
    let c := q.client.val
    let taken := State.journal ((s.wr (Reg.PRT.LAST_SEQ_LO c) (W q.seq.toNat)).wr (Reg.PRT.LAST_SEQ_HI c) (W (q.seq.toNat / 2 ^ 32))) s
    let stored := fun (t : State) => Sparse.get (fun _ => []) t.prtLast c
    (∀ o ∈ ops, s.up 4 = false ∨ s.prtHears q = false → exec (o.1 q) s = .next s) ∧
    (∀ o ∈ ops, s.up 4 = true → s.prtHears q = true → s.prtKey c = none → ∃ t, exec (o.1 q) s = .next t ∧ t.rd Reg.PRT.AUTH_FAIL = satInc (s.rd Reg.PRT.AUTH_FAIL) ∧
      bit (t.blk 4).evtRaw 0 = true ∧ Notifies [4] [Reg.PRT.AUTH_FAIL] s t) ∧
    ∀ key hop, s.up 4 = true → s.prtHears q = true → s.prtKey c = some key → s.ethHop q.eth q.v6 q.src = some hop →
    let answers := fun (u t : State) => u.sends t q.eth 6 (.prt c q.eth q.src hop q.srcPort.toNat (stored t))
    (∀ o ∈ ops, State.prtTag key (State.prtBytes o.2 q) ≠ q.tag → ∃ t, exec (o.1 q) s = .next t ∧ t.rd Reg.PRT.AUTH_FAIL = satInc (s.rd Reg.PRT.AUTH_FAIL) ∧ bit (t.blk 4).evtRaw 0 = true ∧
      Notifies [4] [Reg.PRT.AUTH_FAIL] s t) ∧
    (∀ o ∈ ops, State.prtTag key (State.prtBytes o.2 q) = q.tag → q.seq.toNat < s.prtLastSeq c → ∃ t, exec (o.1 q) s = .next t ∧ t.rd Reg.PRT.REPLAY = satInc (s.rd Reg.PRT.REPLAY) ∧ bit (t.blk 4).evtRaw 1 = true ∧
      Notifies [4] [Reg.PRT.REPLAY] s t) ∧
    (∀ o ∈ ops, State.prtTag key (State.prtBytes o.2 q) = q.tag → q.seq.toNat = s.prtLastSeq c → stored s ≠ [] → ∃ t, exec (o.1 q) s = .next t ∧ answers s t ∧ t = { s with eths := t.eths }) ∧
    (∀ o ∈ ops, State.prtTag key (State.prtBytes o.2 q) = q.tag → s.prtLastSeq c < q.seq.toNat → s.prtStatus o.2.toNat q ≠ 0 → ∃ t, exec (o.1 q) s = .next t ∧ t.prtLastSeq c = q.seq.toNat ∧
      stored t = State.prtResponse o.2 q (s.prtStatus o.2.toNat q) [] key ∧ answers s t ∧ t.rd Reg.PRT.REFUSED = satInc (s.rd Reg.PRT.REFUSED) ∧
      Notifies [4, q.addr.toNat / 0x1000] [Reg.PRT.REFUSED, Reg.PRT.LAST_SEQ_LO c, Reg.PRT.LAST_SEQ_HI c, Reg.SYS.JOURNAL_SEQ] { s with prtLast := t.prtLast, eths := t.eths } t) ∧
    (State.prtTag key (State.prtBytes 5 q) = q.tag → s.prtLastSeq c < q.seq.toNat → s.prtStatus 5 q = 0 → ∃ t, exec (.prtNop q) s = .next t ∧ t.prtLastSeq c = q.seq.toNat ∧ stored t = State.prtResponse 5 q 0 [] key ∧
      answers s t ∧ t.rd Reg.PRT.RX_OK = s.rd Reg.PRT.RX_OK + 1 ∧
      Notifies [] [Reg.PRT.RX_OK, Reg.PRT.LAST_SEQ_LO c, Reg.PRT.LAST_SEQ_HI c, Reg.SYS.JOURNAL_SEQ] { s with prtLast := t.prtLast, eths := t.eths } t) ∧
    (State.prtTag key (State.prtBytes 1 q) = q.tag → s.prtLastSeq c < q.seq.toNat → s.prtStatus 1 q = 0 → q.count = 1 → populated (q.addr.toNat / 0x1000) = true → s.code (q.addr.toNat / 0x1000) ≠ 1 →
      ∃ t, exec (.prtRead q) s = .next t ∧ stored t = State.prtResponse 1 q 0 [taken.readValue .prt q.addr.toNat] key ∧ answers s t) ∧
    (State.prtTag key (State.prtBytes 2 q) = q.tag → s.prtLastSeq c < q.seq.toNat → s.prtStatus 2 q = 0 → ∀ w, q.data = [w] →
      let u := State.registerWrite .prt q.addr.toNat w 0 taken
      u.ethHop q.eth q.v6 q.src = some hop → u.up (104 + q.eth) = true → ∃ t, exec (.prtWrite q) s = .next t ∧ stored t = State.prtResponse 2 q 0 [] key ∧ answers u t ∧
        (∀ a, a ≠ Reg.PRT.RX_OK → t.rd a = u.rd a) ∧ t.blocks = u.blocks) ∧
    (State.prtTag key (State.prtBytes 3 q) = q.tag → s.prtLastSeq c < q.seq.toNat → s.prtStatus 3 q = 0 →
      ∃ t, exec (.prtReadTable q) s = .next t ∧ stored t = State.prtResponse 3 q 0 ((List.range q.count.toNat).map (fun i => taken.tableWord q.table.toNat false (q.addr.toNat / 4 + i))) key ∧
        answers s t) ∧
    (State.prtTag key (State.prtBytes 4 q) = q.tag → s.prtLastSeq c < q.seq.toNat → s.prtStatus 4 q = 0 → 1 ≤ q.table.toNat → (s.blk 18).swapPend = false →
      ∃ t, exec (.prtWriteTable q) s = .next t ∧ stored t = State.prtResponse 4 q 0 [] key ∧ answers s t ∧
        (∀ i, i < q.count.toNat → t.tableWord q.table.toNat true (q.addr.toNat / 4 + i) = q.data.getD i 0) ∧ t.regs = (taken.bumpWrap Reg.PRT.RX_OK).regs ∧ t.blocks = s.blocks)

/-- The access matrix keeps a requester out (R41, R87, R88): a write that a page's row denies has the same effect whatever value it carries, and changes nothing but the page's ERR_CNT and, for HOST and PRT, the report of the denial; a denied read answers zero, with the
same report. -/
def Obligations.DeniedAccessLearnsNothing : Prop :=
  ∀ (s : State) (r : Requester) (a v w : Word),
    let n := a.toNat
    let pg := n / 0x1000
    n % 4 = 0 → s.gate r pg (n % 0x1000) = .denied →
    (∀ sets, exec (.registerWrite r a v none sets []) s = exec (.registerWrite r a w none sets []) s) ∧
    (∃ t, exec (.registerWrite r a v none 0 []) s = .next t ∧ (t.blk pg).errCnt = satInc (s.blk pg).errCnt ∧ Notifies [pg, 3, 4] [Reg.HIF.DENIED_CNT] s t ∧
      (∀ p, t.blk p = { s.blk p with errCnt := (t.blk p).errCnt, evtRaw := (t.blk p).evtRaw }) ∧
      (r = .host → t.rd Reg.HIF.DENIED_CNT = satInc (s.rd Reg.HIF.DENIED_CNT) ∧ bit (t.blk 3).evtRaw 0 = true) ∧ (r = .prt → bit (t.blk 4).evtRaw 2 = true) ∧
      (r ≠ .host → r ≠ .prt → Writes [pg] [] s t)) ∧
    (s.allowed r pg false = false → n % 0x1000 ≠ 0 → n % 0x1000 ≠ 0xC → n % 0x1000 ≠ 0x24 → ∃ t, exec (.registerRead r a false) s = .next t ∧ t.outbox.getLast? = some (.read r n 0) ∧
      (t.blk pg).errCnt = satInc (s.blk pg).errCnt ∧ Notifies [pg, 3, 4] [Reg.HIF.DENIED_CNT] s t)

/-- While CTL is off and the module is not in DOZE, no command that comes from outside has any effect (R41, R59, R76, R102). That an access which cannot reach the module changes nothing is the model's choice (log entry 2). -/
def Obligations.OutsideFindsNothingWhenDark : Prop :=
  ∀ (c : Instr) (s : State), fromOutside c = true → s.dom 1 = 0 → s.mode ≠ .doze → exec c s = .next s

/-- Every step keeps a module in COLD and dark: neither HOST, nor PRT, nor time, nor an alarm of the RTC brings it out of a COLD that it did not enter by command, and every step is taken (R49, R76). That time passes on an empty queue is the model's choice (log entry 1). -/
def Obligations.ColdStaysDark : Prop :=
  ∀ s : State, ColdAndDark s → ∃ t, step s = .next t ∧ ColdAndDark t

/-- The module is in COLD and dark at reset (R49). State.reset is the model's (log entry 3). -/
def Obligations.ResetIsDark : Prop :=
  ColdAndDark State.reset

/-- R99 whole: SWGEN with SET makes a source from 200 up active and with CLR inactive, and changes no other source; a write with both bits, with neither, or with a source below 200 is ignored and counted. SWGEN_SET and SWGEN_CLR are such writes. -/
def Obligations.SwgenDrivesItsSources : Prop :=
  ∀ (r : Requester) (s : State) (v : Word), s.passes r Reg.EVR.SWGEN →
    let src := fld v 0 8
    let others := fun (t : State) => ∀ x, x < 256 → x ≠ src → t.srcActive x = s.srcActive x
    (bit v 8 = true → bit v 9 = false → 200 ≤ src → ∃ t, exec (.registerWrite r 0x2040 v none 0 []) s = .next t ∧ t.srcActive src = true ∧ others t ∧
      Notifies [] [] { s.claimed Reg.EVR.SWGEN with swgen := t.swgen } t ∧ exec (.swgenSet r (Fin.ofNat 256 src)) s = .next t) ∧
    (bit v 8 = false → bit v 9 = true → 200 ≤ src → ∃ t, exec (.registerWrite r 0x2040 v none 0 []) s = .next t ∧ t.srcActive src = false ∧ others t ∧
      t = { s.claimed Reg.EVR.SWGEN with swgen := t.swgen } ∧ exec (.swgenClr r (Fin.ofNat 256 src)) s = .next t) ∧
    (bit v 8 = bit v 9 ∨ src < 200 → ∃ t, exec (.registerWrite r 0x2040 v none 0 []) s = .next t ∧ t.blk 2 = { s.blk 2 with errCnt := satInc (s.blk 2).errCnt } ∧
      Writes [2] [] (s.claimed Reg.EVR.SWGEN) t)

/-- R407 whole: while DOZE_CFG.AUTO is 1, any write to a register of alarm 1 by another requester than FP is dropped and counted; otherwise DISARM of an armed alarm disarms it with RESULT 6 and DISARM of one that is not armed changes nothing. R407 is read to include writes of ALM_STATUS and of ALM_CTL without a bit (log entry 86). -/
def Obligations.AlarmOneBelongsToFp : Prop :=
  ∀ (r : Requester) (s : State),
    let taken := bit (s.rd Reg.SYS.DOZE_CFG) 1 = true ∧ r ≠ .fp
    (∀ (k : Fin 4) v, taken → s.passes r (Reg.RTC.ALM_TIME 1 + 4 * k) →
      exec (.registerWrite r (BitVec.ofNat 32 (Reg.RTC.ALM_TIME 1 + 4 * k)) v none 0 []) s = .next ((s.claimed (Reg.RTC.ALM_TIME 1 + 4 * k)).err 11)) ∧
    (taken → s.passes r (Reg.RTC.ALM_CTL 1) → exec (.alarmArm r 1) s = .next ((s.claimed (Reg.RTC.ALM_CTL 1)).err 11) ∧
      exec (.alarmDisarm r 1) s = .next ((s.claimed (Reg.RTC.ALM_CTL 1)).err 11)) ∧
    (∀ a : Fin 2, s.passes r (Reg.RTC.ALM_CTL a) → ¬ (a = 1 ∧ taken) → s.almArmed a = true → ∃ t, exec (.alarmDisarm r a) s = .next t ∧ t.almArmed a = false ∧
      fld (t.rd (Reg.RTC.ALM_STATUS a)) 1 3 = 6 ∧ Writes [] [Reg.RTC.ALM_STATUS a] (s.claimed (Reg.RTC.ALM_CTL a)) t) ∧
    (∀ a : Fin 2, s.passes r (Reg.RTC.ALM_CTL a) → ¬ (a = 1 ∧ taken) → s.almArmed a = false → exec (.alarmDisarm r a) s = .next (s.claimed (Reg.RTC.ALM_CTL a)))

/-- R427 whole: after SEAL a write to TAMP.CFG can set EN bits and cannot clear them; with TAMP_FORCE burned every EN bit reads 1. -/
def Obligations.SealedTamperEnablesStaySet : Prop :=
  ∀ (r : Requester) (s : State) (v : Word),
    (bit (s.rd Reg.FUSE.LIFECYCLE) 0 = true → s.passes r Reg.TAMP.CFG → ∃ t, exec (.registerWrite r 0x7040 v none 0 []) s = .next t ∧
      ∀ k, k < 6 → bit (t.rd Reg.TAMP.CFG) k = (bit (s.rd Reg.TAMP.CFG) k || bit v k)) ∧
    (bit (s.rd Reg.FUSE.LIFECYCLE) 2 = true → s.reads r Reg.TAMP.CFG → ∃ w, exec (.registerRead r 0x7040 false) s = .next (s.emit (.read r Reg.TAMP.CFG w)) ∧ ∀ k, k < 6 → bit w k = true)

/-- R335 whole: a doorbell takes a HOST_BUF or MARK with every reserved bit 0; any other descriptor, like a narrow write, is dropped and counted in BAD_ACCESS_CNT, takes no credit and leaves LAST. -/
def Obligations.DoorbellsTakeWholeDescriptors : Prop :=
  ∀ (q : Fin 16384) (d : DWord) (wide : Bool) (s : State), s.hostUp = true → s.mode ≠ .doze →
    let good := (d.toNat / 2 ^ 60 = 1 ∧ d.toNat / 2 ^ 56 % 8 = 0) ∨ (d.toNat / 2 ^ 60 = 3 ∧ d.toNat / 2 ^ 48 % 2 ^ 11 = 0)
    (¬ good ∨ wide = false → ∃ t, exec (.doorbellWrite q d wide) s = .next t ∧ t.rd Reg.HIF.BAD_ACCESS_CNT = satInc (s.rd Reg.HIF.BAD_ACCESS_CNT) ∧
      (∀ p, queueCredits p (t.pq p) = queueCredits p (s.pq p)) ∧ t.dbLast = s.dbLast ∧ Notifies [3] [Reg.HIF.BAD_ACCESS_CNT] s t) ∧
    (good → wide = true → hostProduces q = true → queueCredits q (s.pq q) ≠ 0 → s.qmUp = true → ∃ t, exec (.doorbellWrite q d wide) s = .next t ∧
      Sparse.get (fun _ => 0) t.dbLast q = 1 ∧ t.rd Reg.HIF.BAD_ACCESS_CNT = s.rd Reg.HIF.BAD_ACCESS_CNT)
end

