-- ==== Sys2Proof/Laws/Sparse.lean ====
section
/-!
SUPPORT. What reading a sparse table after a write gives, and that every write keeps the canonical form.
-/
namespace Sys2Proof.Machine

variable {α : Type}

theorem Sparse.get_put_self (d : Nat → α) (m : Sparse α) (k : Nat) (v : α) :
    Sparse.get d (Sparse.put m k v) k = v := by
  induction m with
  | nil => simp [Sparse.put, Sparse.get]
  | cons e t ih =>
    obtain ⟨k', v'⟩ := e
    unfold Sparse.put
    split
    · simp [Sparse.get]
    · split
      · simp [Sparse.get]
      · rename_i h; simp [Sparse.get, h, ih]

theorem Sparse.get_put_ne (d : Nat → α) (m : Sparse α) {k j : Nat} (v : α) (h : j ≠ k) :
    Sparse.get d (Sparse.put m k v) j = Sparse.get d m j := by
  induction m with
  | nil => simp [Sparse.put, Sparse.get, h]
  | cons e t ih =>
    obtain ⟨k', v'⟩ := e
    unfold Sparse.put
    split
    · simp [Sparse.get, h]
    · split
      · rename_i h2; subst h2; simp [Sparse.get, h]
      · simp only [Sparse.get, ih]

theorem Sparse.get_drop_self (d : Nat → α) (m : Sparse α) (k : Nat) :
    Sparse.get d (Sparse.drop m k) k = d k := by
  induction m with
  | nil => rfl
  | cons e t ih =>
    obtain ⟨k', v'⟩ := e
    unfold Sparse.drop at ih ⊢
    by_cases h : k' = k
    · simp [List.filter, h, ih]
    · have h' : ¬ k = k' := fun e => h e.symm
      have hb : (k' != k) = true := by simp [h]
      simp [List.filter, hb, Sparse.get, h', ih]

theorem Sparse.get_drop_ne (d : Nat → α) (m : Sparse α) {k j : Nat} (h : j ≠ k) :
    Sparse.get d (Sparse.drop m k) j = Sparse.get d m j := by
  induction m with
  | nil => rfl
  | cons e t ih =>
    obtain ⟨k', v'⟩ := e
    unfold Sparse.drop at ih ⊢
    by_cases hk : k' = k
    · subst hk
      simp [List.filter, ih, Sparse.get, h]
    · have hb : (k' != k) = true := by simp [hk]
      simp only [List.filter, hb, Sparse.get, ih]

/-- A read of the key written gives the value written. -/
@[simp] theorem Sparse.get_set_self [DecidableEq α] (d : Nat → α) (m : Sparse α) (k : Nat) (v : α) :
    Sparse.get d (Sparse.set d m k v) k = v := by
  unfold Sparse.set
  split
  · rename_i h; rw [Sparse.get_drop_self, h]
  · exact Sparse.get_put_self d m k v

/-- A read of any other key gives what it gave before. -/
theorem Sparse.get_set_ne [DecidableEq α] (d : Nat → α) (m : Sparse α) {k j : Nat} (v : α) (h : j ≠ k) :
    Sparse.get d (Sparse.set d m k v) j = Sparse.get d m j := by
  unfold Sparse.set
  split
  · exact Sparse.get_drop_ne d m h
  · exact Sparse.get_put_ne d m v h

theorem Sparse.get_set [DecidableEq α] (d : Nat → α) (m : Sparse α) (k j : Nat) (v : α) :
    Sparse.get d (Sparse.set d m k v) j = if j = k then v else Sparse.get d m j := by
  split
  · rename_i h; subst h; simp
  · rename_i h; exact Sparse.get_set_ne d m v h

theorem Sparse.mem_put (m : Sparse α) (k : Nat) (v : α) (e : Nat × α) (h : e ∈ Sparse.put m k v) :
    e = (k, v) ∨ (e ∈ m ∧ e.1 ≠ k) ∨ e ∈ m := by
  induction m with
  | nil => simp [Sparse.put] at h; exact Or.inl h
  | cons a t ih =>
    obtain ⟨k', v'⟩ := a
    unfold Sparse.put at h
    split at h
    · rcases List.mem_cons.1 h with h | h
      · exact Or.inl h
      · exact Or.inr (Or.inr h)
    · split at h
      · rcases List.mem_cons.1 h with h | h
        · exact Or.inl h
        · exact Or.inr (Or.inr (List.mem_cons_of_mem _ h))
      · rcases List.mem_cons.1 h with h | h
        · exact Or.inr (Or.inr (by simp [h]))
        · rcases ih h with h | h | h
          · exact Or.inl h
          · exact Or.inr (Or.inr (List.mem_cons_of_mem _ h.1))
          · exact Or.inr (Or.inr (List.mem_cons_of_mem _ h))

theorem Sparse.rising_put (m : Sparse α) (k : Nat) (v : α) (h : Sparse.rising m = true) :
    Sparse.rising (Sparse.put m k v) = true := by
  induction m with
  | nil => simp [Sparse.put, Sparse.rising]
  | cons a t ih =>
    obtain ⟨k', v'⟩ := a
    simp only [Sparse.rising, Bool.and_eq_true, List.all_eq_true, decide_eq_true_eq] at h
    obtain ⟨h1, h2⟩ := h
    unfold Sparse.put
    split
    · rename_i hlt
      simp only [Sparse.rising, Bool.and_eq_true, List.all_eq_true, decide_eq_true_eq]
      refine ⟨?_, h1, h2⟩
      intro e he
      rcases List.mem_cons.1 he with he | he
      · subst he; exact hlt
      · exact Nat.lt_trans hlt (h1 e he)
    · split
      · rename_i hk; subst hk
        simp only [Sparse.rising, Bool.and_eq_true, List.all_eq_true, decide_eq_true_eq]
        exact ⟨h1, h2⟩
      · rename_i hn hk
        simp only [Sparse.rising, Bool.and_eq_true, List.all_eq_true, decide_eq_true_eq]
        refine ⟨?_, ih h2⟩
        intro e he
        rcases Sparse.mem_put t k v e he with he | he | he
        · subst he; simp only; omega
        · exact h1 e he.1
        · exact h1 e he

theorem Sparse.rising_filter (p : Nat × α → Bool) (m : Sparse α) (h : Sparse.rising m = true) :
    Sparse.rising (m.filter p) = true := by
  induction m with
  | nil => rfl
  | cons a t ih =>
    simp only [Sparse.rising, Bool.and_eq_true, List.all_eq_true, decide_eq_true_eq] at h
    obtain ⟨h1, h2⟩ := h
    rw [List.filter_cons]
    split
    · simp only [Sparse.rising, Bool.and_eq_true, List.all_eq_true, decide_eq_true_eq]
      exact ⟨fun e he => h1 e (List.mem_filter.1 he).1, ih h2⟩
    · exact ih h2

/-- Removing entries keeps the canonical form. -/
theorem Sparse.wf_filter [DecidableEq α] (d : Nat → α) (p : Nat × α → Bool) (m : Sparse α)
    (h : Sparse.wf d m = true) : Sparse.wf d (m.filter p) = true := by
  unfold Sparse.wf at h ⊢
  simp only [Bool.and_eq_true, List.all_eq_true] at h ⊢
  exact ⟨Sparse.rising_filter p m h.1, fun e he => h.2 e (List.mem_filter.1 he).1⟩

/-- A write keeps the canonical form. -/
theorem Sparse.wf_set [DecidableEq α] (d : Nat → α) (m : Sparse α) (k : Nat) (v : α)
    (h : Sparse.wf d m = true) : Sparse.wf d (Sparse.set d m k v) = true := by
  unfold Sparse.set
  split
  · exact Sparse.wf_filter d _ m h
  · rename_i hv
    unfold Sparse.wf at h ⊢
    simp only [Bool.and_eq_true, List.all_eq_true] at h ⊢
    refine ⟨Sparse.rising_put m k v h.1, ?_⟩
    intro e he
    rcases Sparse.mem_put m k v e he with he | he | he
    · subst he; simpa using hv
    · exact h.2 e he.1
    · exact h.2 e he

/-- A change keeps the canonical form. -/
theorem Sparse.wf_upd [DecidableEq α] (d : Nat → α) (m : Sparse α) (k : Nat) (f : α → α)
    (h : Sparse.wf d m = true) : Sparse.wf d (Sparse.upd d m k f) = true :=
  Sparse.wf_set d m k _ h

end Sys2Proof.Machine
end

