-- ==== Sys2Proof/Laws/State.lean ====
section
/-!
SUPPORT. What each update of the state leaves and gives: registers, headers, emissions.
-/
namespace Sys2Proof.Machine

variable (s : State) (a b v : Nat)

/-! A register write. -/

@[simp] theorem State.rd_wr_self (w : Word) : (s.wr a w).rd a = w := Sparse.get_set_self _ _ _ _

theorem State.rd_wr_ne (w : Word) (h : b ≠ a) : (s.wr a w).rd b = s.rd b := Sparse.get_set_ne _ _ _ h

theorem State.rd_wr (w : Word) : (s.wr a w).rd b = if b = a then w else s.rd b := Sparse.get_set _ _ _ _ _

@[simp] theorem State.blk_wr (w : Word) (p : Nat) : (s.wr a w).blk p = s.blk p := rfl

@[simp] theorem State.code_wr (w : Word) (p : Nat) : (s.wr a w).code p = s.code p := rfl

@[simp] theorem State.mode_wr (w : Word) : (s.wr a w).mode = s.mode := rfl

@[simp] theorem State.wrBit_eq (n : Nat) (x : Bool) : s.wrBit a n x = s.wr a (setBit (s.rd a) n x) := rfl

@[simp] theorem State.wrFld_eq (lo len : Nat) : s.wrFld a lo len v = s.wr a (setFld (s.rd a) lo len v) := rfl

@[simp] theorem State.bump_eq : s.bump a = s.wr a (satInc (s.rd a)) := rfl

@[simp] theorem State.bumpWrap_eq : s.bumpWrap a = s.wr a (s.rd a + 1) := rfl

/-! A header write. -/

@[simp] theorem State.blk_setBlk_self (p : Nat) (k : Block) : (s.setBlk p k).blk p = k := Sparse.get_set_self _ _ _ _

theorem State.blk_setBlk_ne (p q : Nat) (k : Block) (h : q ≠ p) : (s.setBlk p k).blk q = s.blk q := Sparse.get_set_ne _ _ _ h

@[simp] theorem State.rd_setBlk (p : Nat) (k : Block) : (s.setBlk p k).rd a = s.rd a := rfl

@[simp] theorem State.blk_updBlk_self (p : Nat) (f : Block → Block) : (s.updBlk p f).blk p = f (s.blk p) :=
  Sparse.get_set_self _ _ _ _

theorem State.blk_updBlk_ne (p q : Nat) (f : Block → Block) (h : q ≠ p) : (s.updBlk p f).blk q = s.blk q :=
  Sparse.get_set_ne _ _ _ h

@[simp] theorem State.rd_updBlk (p : Nat) (f : Block → Block) : (s.updBlk p f).rd a = s.rd a := rfl

@[simp] theorem State.mode_updBlk (p : Nat) (f : Block → Block) : (s.updBlk p f).mode = s.mode := rfl

/-! What leaves the module. -/

@[simp] theorem State.rd_emit (e : Emission) : (s.emit e).rd a = s.rd a := rfl

@[simp] theorem State.blk_emit (e : Emission) (p : Nat) : (s.emit e).blk p = s.blk p := rfl

@[simp] theorem State.outbox_emit (e : Emission) : (s.emit e).outbox = s.outbox ++ [e] := rfl

@[simp] theorem State.rd_useFree : s.useFree.rd a = s.rd a := rfl

@[simp] theorem State.blk_useFree (p : Nat) : s.useFree.blk p = s.blk p := rfl

@[simp] theorem State.rd_claimed : (s.claimed b).rd a = s.rd a := rfl

@[simp] theorem State.blk_claimed (p : Nat) : (s.claimed b).blk p = s.blk p := rfl

@[simp] theorem State.code_claimed (p : Nat) : (s.claimed b).code p = s.code p := rfl

@[simp] theorem State.mode_claimed : (s.claimed b).mode = s.mode := rfl

/-! Time bases, port ends, zones and streams. -/

@[simp] theorem State.tb_setTb_self (x : TB) : (s.setTb a x).tb a = x := Sparse.get_set_self _ _ _ _

theorem State.tb_setTb_ne (x : TB) (h : b ≠ a) : (s.setTb a x).tb b = s.tb b := Sparse.get_set_ne _ _ _ h

@[simp] theorem State.rd_setTb (x : TB) : (s.setTb a x).rd b = s.rd b := rfl

@[simp] theorem State.blk_setTb (x : TB) : (s.setTb a x).blk b = s.blk b := rfl

@[simp] theorem State.gz_setGz_self (x : GzPort) : (s.setGz a x).gz a = x := Sparse.get_set_self _ _ _ _

theorem State.gz_setGz_ne (x : GzPort) (h : b ≠ a) : (s.setGz a x).gz b = s.gz b := Sparse.get_set_ne _ _ _ h

@[simp] theorem State.rd_setGz (x : GzPort) : (s.setGz a x).rd b = s.rd b := rfl

@[simp] theorem State.blk_setGz (x : GzPort) : (s.setGz a x).blk b = s.blk b := rfl

@[simp] theorem State.zrun_setZrun_self (x : ZoneRun) : (s.setZrun a x).zrun a = x := Sparse.get_set_self _ _ _ _

theorem State.zrun_setZrun_ne (x : ZoneRun) (h : b ≠ a) : (s.setZrun a x).zrun b = s.zrun b := Sparse.get_set_ne _ _ _ h

@[simp] theorem State.rd_setZrun (x : ZoneRun) : (s.setZrun a x).rd b = s.rd b := rfl

@[simp] theorem State.blk_setZrun (x : ZoneRun) : (s.setZrun a x).blk b = s.blk b := rfl

@[simp] theorem State.vin_setVin_self (x : VinStream) : (s.setVin a x).vin a = x := Sparse.get_set_self _ _ _ _

theorem State.vin_setVin_ne (x : VinStream) (h : b ≠ a) : (s.setVin a x).vin b = s.vin b := Sparse.get_set_ne _ _ _ h

@[simp] theorem State.rd_setVin (x : VinStream) : (s.setVin a x).rd b = s.rd b := rfl

@[simp] theorem State.blk_setVin (x : VinStream) : (s.setVin a x).blk b = s.blk b := rfl

/-! The journal (R34): a change that becomes durable is one record at its end. -/

@[simp] theorem State.jrnl_wr (w : Word) : (s.wr a w).jrnl = s.jrnl := rfl

@[simp] theorem State.jrnl_emit (e : Emission) : (s.emit e).jrnl = s.jrnl := rfl

@[simp] theorem State.blk_journal (old : State) (p : Nat) : (s.journal old).blk p = s.blk p := rfl

theorem State.jrnl_journal (old : State) : ∃ r, (s.journal old).jrnl = s.jrnl ++ [r] := ⟨_, rfl⟩

/-! The queues of the output ports (R189). -/

@[simp] theorem State.tileQ_lessTiles (q : Sparse (List TileOut)) : (s.lessTiles q).tileQ = q := by
  simp only [State.lessTiles]; split <;> rfl

/-! The canonical form. -/

theorem State.wr_keeps (w : Word) (h : Canonical s) : Canonical (s.wr a w) := ⟨Sparse.wf_set _ _ _ _ h.1, h.2⟩

theorem State.setBlk_keeps (p : Nat) (k : Block) (h : Canonical s) : Canonical (s.setBlk p k) :=
  ⟨h.1, Sparse.wf_set _ _ _ _ h.2⟩

theorem State.updBlk_keeps (p : Nat) (f : Block → Block) (h : Canonical s) : Canonical (s.updBlk p f) :=
  s.setBlk_keeps p _ h

end Sys2Proof.Machine
end

