-- ==== Sys2Proof/Laws/Frame.lean ====
section
/-!
SUPPORT. How the frames of Safety compose, and the frame of each shared operation: everything it can change.
-/
namespace Sys2Proof.Machine

variable {s t u : State} {P Q : List Nat} {R S : List Nat}

/-! Writes. -/

theorem JournalGrows.refl (s : State) : JournalGrows R s s := ⟨List.prefix_rfl, fun _ => rfl⟩

theorem JournalGrows.trans (h : JournalGrows R s t) (k : JournalGrows R t u) : JournalGrows R s u :=
  ⟨h.1.trans k.1, fun m => (k.2 m).trans (h.2 m)⟩

theorem JournalGrows.mono (h : JournalGrows R s t) (hr : R ⊆ S) : JournalGrows S s t := ⟨h.1, fun m => h.2 fun k => m (hr k)⟩

theorem JournalGrows.of_eq (h : t.jrnl = s.jrnl) : JournalGrows R s t := ⟨h ▸ List.prefix_rfl, fun _ => h⟩

theorem Writes.refl (s : State) : Writes P R s s := ⟨rfl, fun _ _ => rfl, fun _ _ => rfl, .refl s⟩

theorem Writes.trans (h : Writes P R s t) (k : Writes P R t u) : Writes P R s u := by
  refine ⟨?_, fun p hp => (k.2.1 p hp).trans (h.2.1 p hp), fun a ha => (k.2.2.1 a ha).trans (h.2.2.1 a ha), h.2.2.2.trans k.2.2.2⟩
  exact k.1.trans (by rw [h.1])

theorem Writes.mono (h : Writes P R s t) (hp : P ⊆ Q) (hr : R ⊆ S) : Writes Q S s t :=
  ⟨h.1, fun p k => h.2.1 p fun m => k (hp m), fun a k => h.2.2.1 a fun m => k (hr m), h.2.2.2.mono hr⟩

theorem Writes.wr (a : Nat) (v : Word) (h : Writes P R s t) (m : a ∈ R) : Writes P R s (t.wr a v) :=
  h.trans ⟨rfl, fun _ _ => rfl, fun b k => t.rd_wr_ne a b v fun e => k (e ▸ m), .of_eq rfl⟩

theorem Writes.setBlk (p : Nat) (k : Block) (h : Writes P R s t) (m : p ∈ P) : Writes P R s (t.setBlk p k) :=
  h.trans ⟨rfl, fun q hq => t.blk_setBlk_ne p q k fun e => hq (e ▸ m), fun _ _ => rfl, .of_eq rfl⟩

theorem Writes.updBlk (p : Nat) (f : Block → Block) (h : Writes P R s t) (m : p ∈ P) : Writes P R s (t.updBlk p f) :=
  h.setBlk p _ m

/-! Notifies. -/

theorem Notifies.refl (s : State) : Notifies P R s s := ⟨rfl, List.prefix_rfl, fun _ _ => rfl, fun _ _ _ => rfl, .refl s⟩

theorem Notifies.trans (h : Notifies P R s t) (k : Notifies P R t u) : Notifies P R s u := by
  refine ⟨?_, h.2.1.trans k.2.1, fun p hp => (k.2.2.1 p hp).trans (h.2.2.1 p hp),
    fun a ha hm => (k.2.2.2.1 a ha hm).trans (h.2.2.2.1 a ha hm), h.2.2.2.2.trans k.2.2.2.2⟩
  exact k.1.trans (by rw [h.1])

theorem Notifies.mono (h : Notifies P R s t) (hp : P ⊆ Q) (hr : R ⊆ S) : Notifies Q S s t :=
  ⟨h.1, h.2.1, fun p k => h.2.2.1 p fun m => k (hp m), fun a k => h.2.2.2.1 a fun m => k (hr m), h.2.2.2.2.mono hr⟩

theorem Writes.notifies (h : Writes P R s t) : Notifies P R s t := by
  obtain ⟨e, hp, hr, hj⟩ := h
  have ho : t.outbox = s.outbox := by rw [e]
  refine ⟨?_, ho ▸ List.prefix_rfl, hp, fun a k _ => hr a k, hj⟩
  have h1 : t.wakeN = s.wakeN := by rw [e]
  have h2 : t.pinPulse = s.pinPulse := by rw [e]
  have h3 : t.deferred = s.deferred := by rw [e]
  rw [ho, h1, h2, h3]
  exact e

theorem Notifies.wr (a : Nat) (v : Word) (h : Notifies P R s t) (m : a ∈ R) : Notifies P R s (t.wr a v) :=
  h.trans (Writes.notifies ((Writes.refl t).wr a v m))

theorem Notifies.updBlk (p : Nat) (f : Block → Block) (h : Notifies P R s t) (m : p ∈ P) : Notifies P R s (t.updBlk p f) :=
  h.trans (Writes.notifies ((Writes.refl t).updBlk p f m))

theorem Notifies.ite {c : Prop} [Decidable c] {x y : State} (h : Notifies P R s x) (k : Notifies P R s y) :
    Notifies P R s (if c then x else y) := by split <;> assumption

theorem Writes.ite {c : Prop} [Decidable c] {x y : State} (h : Writes P R s x) (k : Writes P R s y) :
    Writes P R s (if c then x else y) := by split <;> assumption

/-- Frames with further fields compose: `m s t` is `s` with those fields as `t` has them. -/
theorem Notifies.compose (m : State → State → State) (h1 : ∀ x y z, m (m x y) z = m x z)
    (h2 : ∀ x y z : State,
      m { x with blocks := y.blocks, regs := y.regs, outbox := y.outbox, wakeN := y.wakeN, pinPulse := y.pinPulse, deferred := y.deferred, jrnl := y.jrnl } z =
        { m x z with blocks := y.blocks, regs := y.regs, outbox := y.outbox, wakeN := y.wakeN, pinPulse := y.pinPulse, deferred := y.deferred, jrnl := y.jrnl })
    (h3 : ∀ x y : State, (m x y).outbox = x.outbox ∧ (m x y).blocks = x.blocks ∧ (m x y).regs = x.regs ∧ (m x y).jrnl = x.jrnl)
    (h : Notifies P R (m s t) t) (k : Notifies P R (m t u) u) : Notifies P R (m s u) u := by
  obtain ⟨e, o, p, r, j⟩ := h
  obtain ⟨e', o', p', r', j'⟩ := k
  refine ⟨?_, ?_, ?_, ?_, ?_⟩
  · have : m t u = { m s u with blocks := t.blocks, regs := t.regs, outbox := t.outbox, wakeN := t.wakeN, pinPulse := t.pinPulse,
                                deferred := t.deferred, jrnl := t.jrnl } := by
      have k := (congrArg (fun x => m x u) e).trans (h2 (m s t) t u)
      rw [h1 s t u] at k
      exact k
    rw [this] at e'
    exact e'
  · rw [(h3 s t).1] at o
    rw [(h3 t u).1] at o'
    rw [(h3 s u).1]
    exact o.trans o'
  · intro q hq
    have a := p q hq
    have b := p' q hq
    simp only [State.blk, (h3 _ _).2.1] at a b ⊢
    exact b.trans a
  · intro q hq hm
    have a := r q hq hm
    have b := r' q hq hm
    simp only [State.rd, (h3 _ _).2.2.1] at a b ⊢
    exact b.trans a
  · have e1 := (h3 s t).2.2.2
    have e2 := (h3 t u).2.2.2
    have e3 := (h3 s u).2.2.2
    refine ⟨?_, fun k => ?_⟩
    · rw [e3]; exact (e1 ▸ j.1).trans (e2 ▸ j'.1)
    · rw [e3]; exact ((j'.2 k).trans e2).trans ((j.2 k).trans e1)

/-- An event notified to a target changes no header and no register but MSIX_PBA. -/
theorem State.notifyTo_frame (s : State) (src k : Nat) : Notifies P R s (s.notifyTo src k) := by
  unfold State.notifyTo
  split
  · exact ⟨rfl, List.prefix_append _ _, fun _ _ => rfl, fun _ _ _ => rfl, .of_eq rfl⟩
  · split
    · unfold State.sendMsix
      simp only
      split
      · exact .refl s
      · split
        · exact ⟨rfl, List.prefix_rfl, fun _ _ => rfl, fun b _ k => s.rd_wr_ne _ b _ k, .of_eq rfl⟩
        · exact ⟨rfl, List.prefix_append _ _, fun _ _ => rfl, fun _ _ _ => rfl, .of_eq rfl⟩
    · simp only
      split
      · split
        · exact .refl s
        · exact ⟨rfl, List.prefix_append _ _, fun _ _ => rfl, fun _ _ _ => rfl, .of_eq rfl⟩
      · exact .refl s

theorem Notifies.foldl {α : Type} (f : State → α → State) (l : List α) (h : ∀ t x, x ∈ l → Notifies P R t (f t x)) (s : State) :
    Notifies P R s (l.foldl f s) := by
  induction l generalizing s with
  | nil => exact .refl s
  | cons x l ih => exact (h s x (List.mem_cons_self ..)).trans (ih (fun t y m => h t y (List.mem_cons_of_mem _ m)) _)

theorem Writes.foldl {α : Type} (f : State → α → State) (l : List α) (h : ∀ t x, x ∈ l → Writes P R t (f t x)) (s : State) :
    Writes P R s (l.foldl f s) := by
  induction l generalizing s with
  | nil => exact .refl s
  | cons x l ih => exact (h s x (List.mem_cons_self ..)).trans (ih (fun t y m => h t y (List.mem_cons_of_mem _ m)) _)

theorem State.deliver_frame (s : State) (src mask : Nat) : Notifies P R s (s.deliver src mask) := by
  unfold State.deliver
  simp only
  split
  · exact Notifies.foldl _ _ (fun t x _ => t.notifyTo_frame src x) s
  · exact (Notifies.foldl _ _ (fun t x _ => t.notifyTo_frame src x) s).trans
      ⟨rfl, List.prefix_rfl, fun _ _ => rfl, fun _ _ _ => rfl, .of_eq rfl⟩

theorem State.rise_frame (s : State) (src : Nat) : Notifies P R s (s.rise src) := by
  unfold State.rise
  simp only
  split
  · exact Notifies.trans ⟨rfl, List.prefix_rfl, fun _ _ => rfl, fun _ _ _ => rfl, .of_eq rfl⟩ (State.deliver_frame _ _ _)
  · exact s.deliver_frame _ _

/-- A change of causes writes EVT_RAW and EVT_EN of its page and notifies. -/
theorem State.withCauses_frame (s : State) (pg : Nat) (f g : Word → Word) (m : pg ∈ P) : Notifies P R s (s.withCauses pg f g) := by
  unfold State.withCauses
  split
  · exact (Notifies.refl s).updBlk pg _ m
  · exact ((Notifies.refl s).updBlk pg _ m).trans (Notifies.foldl _ _ (fun t x _ => t.rise_frame _) _)

theorem State.raise_frame (s : State) (pg n : Nat) (m : pg ∈ P) : Notifies P R s (s.raise pg n) := s.withCauses_frame pg _ _ m

theorem Notifies.raise (pg n : Nat) (h : Notifies P R s t) (m : pg ∈ P) : Notifies P R s (t.raise pg n) :=
  h.trans (t.raise_frame pg n m)

/-- A rise writes no header. -/
theorem Notifies.blk_eq (h : Notifies [] R s t) (p : Nat) : t.blk p = s.blk p := h.2.2.1 p (List.not_mem_nil)

theorem State.withCauses_blk (s : State) (pg : Nat) (f g : Word → Word) :
    (s.withCauses pg f g).blk pg = { s.blk pg with evtRaw := f (s.blk pg).evtRaw, evtEn := g (s.blk pg).evtEn } := by
  unfold State.withCauses
  split
  · exact s.blk_updBlk_self _ _
  · exact ((Notifies.foldl (R := []) _ _ (fun t x _ => t.rise_frame _) _).blk_eq pg).trans (s.blk_updBlk_self _ _)

/-- A cause latches its EVT_RAW bit and nothing else of the header. -/
@[simp] theorem State.raise_blk (s : State) (pg n : Nat) :
    (s.raise pg n).blk pg = { s.blk pg with evtRaw := setBit (s.blk pg).evtRaw n true } := s.withCauses_blk pg _ _

theorem State.raise_blk_ne (s : State) (pg n : Nat) {q : Nat} (h : q ≠ pg) : (s.raise pg n).blk q = s.blk q :=
  (s.raise_frame (P := [pg]) (R := []) pg n (List.mem_singleton_self pg)).2.2.1 q (fun m => h (List.mem_singleton.1 m))

theorem State.raise_rd (s : State) (pg n : Nat) {a : Nat} (h : a ≠ Reg.HIF.MSIX_PBA 0) : (s.raise pg n).rd a = s.rd a :=
  (s.raise_frame (P := [pg]) (R := []) pg n (List.mem_singleton_self pg)).2.2.2.1 a (List.not_mem_nil) h

/-- The fields that an event never changes, one equation for the whole state. -/
theorem State.raise_eq (s : State) (pg n : Nat) :
    s.raise pg n = { s with blocks := (s.raise pg n).blocks, regs := (s.raise pg n).regs, outbox := (s.raise pg n).outbox,
                            wakeN := (s.raise pg n).wakeN, pinPulse := (s.raise pg n).pinPulse,
                            deferred := (s.raise pg n).deferred } := by
  have h := s.raise_frame (P := [pg]) (R := []) pg n (List.mem_singleton_self pg)
  have e := h.1
  rw [h.2.2.2.2.2 (List.not_mem_nil)] at e
  exact e

@[simp] theorem State.raise_mode (s : State) (pg n : Nat) : (s.raise pg n).mode = s.mode := by rw [s.raise_eq pg n]

/-- STATE.CODE takes its value; READY_MAP's event is that of page 0. -/
theorem State.setCode_frame (s : State) (pg c : Nat) (m : pg ∈ P) (z : 0 ∈ P) : Notifies P R s (s.setCode pg c) := by
  unfold State.setCode
  simp only
  split
  · exact (Notifies.refl s).updBlk pg _ m
  · exact ((Notifies.refl s).updBlk pg _ m).raise 0 6 z

@[simp] theorem State.setCode_code (s : State) (pg c : Nat) : (s.setCode pg c).code pg = c := by
  unfold State.setCode State.code
  simp only
  split
  · simp
  · by_cases h : pg = 0
    · subst h; simp
    · rw [State.raise_blk_ne _ _ _ h]; simp

end Sys2Proof.Machine
end

