-- ==== Sys2Proof/Laws/Access.lean ====
section
/-!
SUPPORT. What a register write or read gives when nothing stops it, and what it leaves when something does.
-/
namespace Sys2Proof.Machine

variable {s : State} {r : Requester} {a pg : Nat} {v : Word} {eff : State → State}

/-- A write that passes takes its effect on the state with what was set aside for the register gone, and is made durable. -/
theorem State.access_pass (h : s.passes r a) : s.access r a v eff = (eff (s.claimed a)).journalWrite s a := by
  unfold State.access State.accessBy
  rw [h]
  rfl

/-- A write to a register that is not durable writes no journal record. -/
theorem State.journalWrite_plain (t : State) (h : durableReg a = false) (h8 : (a % 0x1000 == 8) = false) :
    t.journalWrite s a = t := by
  unfold State.journalWrite
  rw [h, h8]
  simp

/-- A journal record changes JOURNAL_SEQ and the journal. -/
theorem State.journal_frame (t old : State) (P : List Nat) (R : List Nat) (m : Reg.SYS.JOURNAL_SEQ ∈ R) : Writes P R t (t.journal old) :=
  ⟨rfl, fun _ _ => rfl, fun b k => t.rd_wr_ne _ b _ fun e => k (e ▸ m), List.prefix_append _ _, fun k => (k m).elim⟩

/-- A journal record for a durable register changes nothing else. -/
theorem State.journalWrite_frame (t old : State) (P : List Nat) (R : List Nat) (m : Reg.SYS.JOURNAL_SEQ ∈ R) :
    Writes P R t (t.journalWrite old a) := by
  unfold State.journalWrite
  split
  · exact t.journal_frame old P R m
  · exact .refl t

/-- A read that nothing stops gives the value, after what the read does. -/
theorem State.readAccess_pass {val : Word} (h : s.reads r a) : s.readAccess r a val eff = (eff s).emit (.read r a val) := by
  obtain ⟨h1, h2, h3, h4, h5⟩ := h
  unfold State.readAccess
  simp only
  have e1 : (r == .host && s.mode == .doze) = false := by
    cases hr : (r == Requester.host)
    · rfl
    · simp [(h1 (by simpa using hr)).1]
  have e2 : (r == .host && !s.hostUp) = false := by
    cases hr : (r == Requester.host)
    · rfl
    · simp [(h1 (by simpa using hr)).2]
  have e4 : (!s.allowed r (a / 0x1000) false && !(a % 0x1000 == 0 || a % 0x1000 == 0xC || a % 0x1000 == 0x24)) = false := by
    rcases h4 with h | h | h | h <;> simp [h]
  rw [e1, e2, e4, if_neg (by decide), if_neg (by decide), if_neg (by simp [h2]), if_neg (by simp [h3]), if_neg (by decide), if_neg]
  intro k
  simp only [Bool.and_eq_true, Bool.or_eq_true, beq_iff_eq, decide_eq_true_eq] at k
  have := h5 k.1
  omega

/-- A write that the access matrix denies changes the error counters of HIF and of the page, and the causes that report it, and nothing else. -/
theorem State.denied_frame (P R : List Nat) (m : pg ∈ P) (m3 : 3 ∈ P) (m4 : 4 ∈ P) (mr : Reg.HIF.DENIED_CNT ∈ R) :
    Notifies P R s (s.denied r pg) := by
  unfold State.denied
  simp only
  have h : Notifies P R s (s.err pg) := (Notifies.refl s).updBlk pg _ m
  split
  · exact (h.wr _ _ mr).raise 3 0 m3
  · exact h.raise 4 2 m4
  · exact h

end Sys2Proof.Machine
end

