-- ==== Sys2Proof/Laws/Inner.lean ====
section
/-!
SUPPORT. What a block's start, stop and reset change inside it: which headers, registers and fields.
-/
namespace Sys2Proof.Machine

/-- The fields that nothing inside a block reaches: the headers, the mode and its request, the plan and the registry, the queue and what has left
the module. -/
def Aside (s t : State) : Prop :=
  t.blocks = s.blocks ∧ t.mode = s.mode ∧ t.trans = s.trans ∧ t.plan = s.plan ∧ t.registry = s.registry ∧ t.pending = s.pending ∧
  t.outbox = s.outbox ∧ t.slots = s.slots ∧ t.fuseRows = s.fuseRows

variable {s t u : State}

theorem Aside.refl (s : State) : Aside s s := ⟨rfl, rfl, rfl, rfl, rfl, rfl, rfl, rfl, rfl⟩

theorem Aside.trans (h : Aside s t) (k : Aside t u) : Aside s u := by
  obtain ⟨a, b, c, d, e, f, g, i, j⟩ := h
  obtain ⟨a', b', c', d', e', f', g', i', j'⟩ := k
  exact ⟨a'.trans a, b'.trans b, c'.trans c, d'.trans d, e'.trans e, f'.trans f, g'.trans g, i'.trans i, j'.trans j⟩

theorem Aside.wr (a : Nat) (v : Word) (h : Aside s t) : Aside s (t.wr a v) := h.trans ⟨rfl, rfl, rfl, rfl, rfl, rfl, rfl, rfl, rfl⟩

theorem Aside.foldl {α : Type} (f : State → α → State) (l : List α) (h : ∀ t x, Aside t (f t x)) (s : State) : Aside s (l.foldl f s) := by
  induction l generalizing s with
  | nil => exact .refl s
  | cons x l ih => exact (h s x).trans (ih _)

theorem Aside.ite {c : Prop} [Decidable c] {x y : State} (h : Aside s x) (k : Aside s y) : Aside s (if c then x else y) := by
  split <;> assumption

theorem State.clearRtc_aside (s : State) : Aside s s.clearRtc := by
  unfold State.clearRtc
  simp only
  refine (Aside.trans (t := _) ?_ (Aside.foldl _ _ ?_ _))
  · exact ⟨rfl, rfl, rfl, rfl, rfl, rfl, rfl, rfl, rfl⟩
  · intro t x
    split
    · exact (Aside.refl t).wr _ _
    · exact .refl t

theorem State.setTb_aside (s : State) (n : Nat) (x : TB) : Aside s (s.setTb n x) := ⟨rfl, rfl, rfl, rfl, rfl, rfl, rfl, rfl, rfl⟩

theorem State.clearTb_aside (s : State) (n : Nat) : Aside s (s.clearTb n) := by
  unfold State.clearTb State.wrFld
  simp only
  generalize s.tbSeed n = t
  apply Aside.wr
  apply State.setTb_aside

/-- What a block discards inside itself. -/
theorem State.clearInner_aside (s : State) (pg : Nat) : Aside s (s.clearInner pg) := by
  unfold State.clearInner
  repeat' apply Aside.ite
  all_goals first
    | with_reducible exact s.clearRtc_aside
    | with_reducible exact s.clearTb_aside _
    | exact ⟨rfl, rfl, rfl, rfl, rfl, rfl, rfl, rfl, rfl⟩

/-- The load of reset values by itself. -/
theorem State.clearLoad_aside (s : State) (pg : Nat) : Aside s ((s.loadRegs pg).clearInner pg) :=
  Aside.trans (t := s.loadRegs pg) ⟨rfl, rfl, rfl, rfl, rfl, rfl, rfl, rfl, rfl⟩ (State.clearInner_aside _ _)

/-- The load of reset values; that of a time base also concerns its followers. -/
theorem State.loadReset_aside (s : State) (pg : Nat) (h : ¬(12 ≤ pg ∧ pg < 16)) : Aside s (s.loadReset pg) := by
  unfold State.loadReset
  simp only
  rw [if_neg (by simpa using h)]
  exact s.clearLoad_aside pg

theorem Aside.blk (h : Aside s t) (p : Nat) : t.blk p = s.blk p := by
  unfold State.blk
  rw [h.1]

/-- A move of a port's line. -/
theorem State.lineMove_frame (s : State) (n st : Nat) {P R : List Nat} (m : 32 + n ∈ P) (k : Reg.GZP.LINE_STATUS n ∈ R) :
    Notifies P R s (s.lineMove n st) := by
  unfold State.lineMove
  split
  · exact .refl s
  · exact ((Notifies.refl s).wr _ _ k).raise _ _ m

/-- A move of a local port's line. -/
theorem State.localMove_frame (s : State) (pg st : Nat) {P R : List Nat} (m : pg ∈ P)
    (k : (if pg < 96 then Reg.DOM.LINE_STATUS (pg - 80) else Reg.DMX.LINE_STATUS (pg - 96)) ∈ R) :
    Notifies P R s (s.localMove pg st) := by
  unfold State.localMove
  exact Notifies.ite (.refl s) (((Notifies.refl s).wr _ _ k).raise _ _ m)

/-- The fields that a notification leaves. -/
theorem Notifies.aside {P R : List Nat} (h : Notifies P R s t) :
    t.mode = s.mode ∧ t.trans = s.trans ∧ t.plan = s.plan ∧ t.registry = s.registry ∧ t.pending = s.pending ∧ t.slots = s.slots ∧
      t.fuseRows = s.fuseRows := by
  rw [h.1]
  exact ⟨rfl, rfl, rfl, rfl, rfl, rfl, rfl⟩

end Sys2Proof.Machine
end

