-- ==== Sys2Proof/WellFormed.lean ====
section
/-!
DEFINITION. Well-formed commands: what the types of the operands do not say. Operands are mostly bounded by their types; the checks
below bound lists and numbers by the rules that give their lengths.
-/
namespace Sys2Proof

/-- An operand list or number is within what its rule allows: BAR2 accesses of 1 to 64 bytes (R90), at most 256 data words in a PRT request (R103), the 12
measured coefficient words of a calibration set (R459), three metered phases (R471), at most 512 DMX slots (R299), a DESC reply of at most 64 bytes (R272),
at most four discontinuities of each pair (R245). -/
def Instr.wf : Instr → Bool
  | .tableWindowWrite _ bytes => 1 ≤ bytes.length && bytes.length ≤ 64
  | .tableWindowRead _ len => 1 ≤ len && len ≤ 64
  | .prtRead q => q.data.length ≤ 256
  | .prtWrite q => q.data.length ≤ 256
  | .calRunDone coef _ _ _ => coef.length == 12
  | .mtrEnergyUpdate a r _ => a.length == 3 && r.length == 3
  | .dmxPacketRx _ _ _ _ slots _ => slots.length ≤ 512
  | .descRx _ _ codes => codes.length ≤ 8214
  | .nodeStatusRx _ _ codes => codes.length ≤ 8214
  | .lineChecksDone _ _ _ _ _ p1 p2 _ => (p1 ++ p2).all (fun e => e.refl.natAbs ≤ 1000)
  | .tdrDone _ p1 p2 => (p1 ++ p2).all (fun e => e.refl.natAbs ≤ 1000)
  | _ => true

end Sys2Proof
end

