-- ==== Sys2Proof/Tests/Slice0.lean ====
section
/-!
SUPPORT. Tests on small states: ill-formed operands, a few worked examples of the spec, and for each statement with hypotheses a state and operands that meet
them (`witness_…`, clause by clause).
-/
namespace Sys2Proof.Tests
open Sys2Proof Sys2Proof.Machine

/-- A state in mode `m` with every domain on, every clock running and every processor running, the blocks `on` READY, and the registers `regs` as listed (the first
entry of an address counts). -/
def lit (m : Mode) (on : List Nat) (regs : List (Nat × Word)) : State :=
  { State.reset with
    mode := m,
    blocks := on.map (fun pg => (pg, { Block.init with code := 2 })),
    regs := regs ++ [(Reg.SYS.PROC_STATE, 0x2222), (Reg.PWR.DOMAIN_STATE, 0x22222), (Reg.PWR.CLK_STATE, 0x7F)] }

/-- A block with its header. -/
def blk (pg : Nat) (b : Block) (s : State) : State := { s with blocks := (pg, b) :: s.blocks }

/-- A block's state code. -/
def code (pg c : Nat) (s : State) : State := blk pg { Block.init with code := c } s

/-! Ill-formed operands. -/

/-- A PRT request with the given data. -/
def req (data : List Word) : PrtReq :=
  { eth := 0, v6 := false, dst := 0x0A000001, udpPort := 0x1F90, src := 0x0A000002, srcPort := 9, len := 40, version := 1, client := 0, clientRsv := 0, flags := 0, count := 1, rsv1 := 0, seq := 5, addr := 0x1040, table := 0, rsv2 := 0, data := data, tag := [] }

theorem test_wf_window : (Instr.tableWindowWrite 0 []).wf = false ∧ (Instr.tableWindowWrite 0 (List.replicate 65 0)).wf = false ∧ (Instr.tableWindowWrite 0 [0]).wf = true ∧
    (Instr.tableWindowRead 0 0).wf = false ∧ (Instr.tableWindowRead 0 65).wf = false ∧ (Instr.tableWindowRead 0 64).wf = true := by decide
theorem test_wf_prt : (Instr.prtWrite (req (List.replicate 257 0))).wf = false ∧ (Instr.prtRead (req (List.replicate 257 0))).wf = false ∧ (Instr.prtRead (req [])).wf = true := by
  decide +kernel
theorem test_wf_cal : (Instr.calRunDone [0] 0 0 false).wf = false ∧ (Instr.calRunDone (List.replicate 12 0) 0 0 false).wf = true := by decide
theorem test_wf_mtr : (Instr.mtrEnergyUpdate [1] [1, 2, 3] 0).wf = false ∧ (Instr.mtrEnergyUpdate [1, 2, 3] [1] 0).wf = false ∧ (Instr.mtrEnergyUpdate [1, 2, 3] [1, 2, 3] 0).wf = true := by decide
theorem test_wf_dmx : (Instr.dmxPacketRx 0 0 0 0 (List.replicate 513 0) false).wf = false ∧ (Instr.dmxPacketRx 0 0 0 0 (List.replicate 512 0) false).wf = true := by decide +kernel
theorem test_wf_gz : (Instr.descRx 0 0 (List.replicate 8215 0)).wf = false ∧ (Instr.descRx 0 0 (List.replicate 28 0)).wf = true ∧
    (Instr.tdrDone 0 [⟨0, .rise, 1001⟩] []).wf = false ∧ (Instr.lineChecksDone 0 0 false false false [] [⟨0, .fall, -1001⟩] 0).wf = false ∧ (Instr.tdrDone 0 [⟨0, .fall, -1000⟩] []).wf = true := by
  decide +kernel

/-! Witnesses. -/

theorem witness_StepRunsFront : ({ State.reset with pending := [.snapCapture, .audBlock] } : State).pending = .snapCapture :: [.audBlock] := by decide +kernel
theorem witness_IdleStepIsTime : let s := State.reset.wr Reg.PWR.CLK_STATE 0
    s.pending = [] ∧ s.tbClock = false ∧ s.xtalOn = false ∧ s.secAcc + 2 < 1000000000 := by decide +kernel
theorem witness_ControlFieldsAreWritten :
    (∀ c ∈ [0, 1, 2, 3, 4, 5, 6, 7], let s := code 16 c (lit .show_ [] []); s.passes .sc (ctlAddr 16) ∧ s.code 16 = c ∧ s.faultLocked 16 = false ∧ s.pllsOk 16 = true) ∧
    (lit .show_ [] []).passes .sc (ctlAddr 11) ∧ (lit .show_ [] []).passes .sc (ctlAddr 7) ∧
    (let s := lit .show_ [] [(Reg.KEY.STATUS, 2)]; s.passes .sc (ctlAddr 6) ∧ s.faultLocked 6 = true) ∧
    (let s := lit .show_ [16] [(Reg.PWR.CLK_STATE, 3)]; s.passes .sc (ctlAddr 16) ∧ s.pllsOk 16 = false ∧ s.code 16 = 2) ∧
    (lit .show_ [27] []).passes .sc (ctlAddr 27) := by decide +kernel
theorem witness_BlocksRestartStartAndStop :
    (let s := lit .show_ [26] []; s.passes .sc (ctlAddr 26) ∧ s.mode ≠ .service) ∧ (let s := lit .service [26] []; s.passes .sc (ctlAddr 26) ∧ s.mode = .service ∧ s.faultLocked 26 = false) ∧
    (let s := lit .show_ [] []; s.passes .sc (ctlAddr 16) ∧ s.faultLocked 16 = false) ∧
    (let s := code 104 1 (lit .show_ [] []); s.code 104 = 1 ∧ s.reach 104 = true ∧ s.pllsOk 104 = true ∧ usesDram 104 = false ∧ s.startupReady 104 = true) ∧
    (let s := { code 16 1 (lit .show_ [] []) with dramOk := true }; s.code 16 = 1 ∧ s.reach 16 = true ∧ s.pllsOk 16 = true ∧ s.dramOk = true ∧ s.startupReady 16 = true) ∧
    (let s := code 16 3 (lit .show_ [] []); s.code 16 = 3 ∧ (s.blk 16).pendEnable = false) ∧
    (let s := blk 16 { Block.init with code := 3, pendEnable := true } (lit .show_ [] []); s.code 16 = 3 ∧ (s.blk 16).pendEnable = true) := by decide +kernel
theorem witness_LoneBankSwap :
    (let s := lit .show_ [16] []; s.passes .sc (ctlAddr 16) ∧ s.code 16 ≠ 0 ∧ s.code 16 ≠ 7 ∧ planCoupled 16 = true ∧ (s.blk 16).swapPend = false) ∧
    (let s := lit .show_ [30] []; s.passes .sc (ctlAddr 30) ∧ s.code 30 ≠ 0 ∧ s.code 30 ≠ 7 ∧ planCoupled 30 = false ∧ (s.blk 30).swapPend = false) ∧
    (∀ c ∈ [0, 7], let s := code 30 c (lit .show_ [] []); s.passes .sc (ctlAddr 30) ∧ s.code 30 = c) ∧
    (let s := blk 30 { Block.init with code := 2, swapPend := true } (lit .show_ [] []); s.passes .sc (ctlAddr 30) ∧ (s.blk 30).swapPend = true ∧ planCoupled 30 = false) := by decide +kernel
theorem witness_EventsLatchAndNotify :
    (lit .show_ [2] []).passes .sc (0x1000 * 16 + 0x1C) ∧
    (let s := blk 16 { Block.init with evtEn := 1 } (lit .show_ [2] []); evtBase 16 = some (48, 6) ∧ bit (srcMask 6 0) 0 = true ∧ (s.blk 16).evtRaw &&& (s.blk 16).evtEn &&& srcMask 6 0 = 0 ∧
      bit (s.blk 16).evtEn 0 = true ∧ bit (s.route 48) 1 = true ∧ s.canNotify 1 = true) := by decide +kernel
theorem witness_SelfTestsRun :
    (let s := lit .service [9, 16] []; s.passes .sc (ctlAddr 16) ∧ fld (s.rd Reg.BIST.STATUS) 0 2 ≠ 1 ∧ hasBist 16 = true ∧ s.mode = .service ∧ s.code 16 = 2) ∧
    (let s := lit .service [9, 16] [(Reg.BIST.STATUS, 1)]; s.passes .sc (ctlAddr 16) ∧ fld (s.rd Reg.BIST.STATUS) 0 2 = 1 ∧ s.code 16 ≠ 0 ∧ s.code 16 ≠ 7) ∧
    (∀ c ∈ [0, 7], let s := code 16 c (lit .service [9] []); s.passes .sc (ctlAddr 16) ∧ s.code 16 = c) ∧
    (let s := lit .service [9, 16] [(Reg.BIST.TARGET, 16)]; s.passes .sc Reg.BIST.CMD ∧ fld (s.rd Reg.BIST.STATUS) 0 2 ≠ 1 ∧ hasBist (fld (s.rd Reg.BIST.TARGET) 0 8) = true ∧ s.mode = .service ∧
      s.code (fld (s.rd Reg.BIST.TARGET) 0 8) = 2) ∧
    (let s := lit .service [9, 16] [(Reg.BIST.STATUS, 1)]; s.passes .sc Reg.BIST.CMD ∧ fld (s.rd Reg.BIST.STATUS) 0 2 = 1) ∧
    (let s := code 16 4 (lit .service [9] [(Reg.BIST.STATUS, 0x1001)]); fld (s.rd Reg.BIST.STATUS) 0 2 = 1 ∧ fld (s.rd Reg.BIST.STATUS) 8 8 ≠ 9 ∧ s.code (fld (s.rd Reg.BIST.STATUS) 8 8) = 4) ∧
    (let s := { lit .service [9] [(Reg.BIST.FUSE_LEFT, 0)] with burnArmed := true }; s.passes .sc Reg.BIST.CMD ∧ s.burnRefusal 6 = 0 ∧ fld (s.rd Reg.BIST.FUSE_LEFT) 0 16 = 0) ∧
    (let s := { lit .service [9] [(Reg.BIST.FUSE_LEFT, 1)] with burnArmed := true }; s.passes .sc Reg.BIST.CMD ∧ s.burnRefusal 6 = 0 ∧ fld (s.rd Reg.BIST.FUSE_LEFT) 0 16 ≠ 0) ∧
    (let s := lit .service [9] []; s.passes .sc Reg.BIST.CMD ∧ s.burnRefusal 6 ≠ 0) ∧
    (let s := lit .service [17] [(Reg.LANE.ONLINE_CFG, 1), (Reg.LANE.SPARE_MAP, 0xFFFFFFFF)]; s.code 17 = 2 ∧ s.reach 17 = true ∧ bit (s.rd Reg.LANE.ONLINE_CFG) 0 = true ∧
      bit (s.rd Reg.LANE.TESTING) 7 = false ∧ s.freeSpare = some 0 ∧
      ((List.range 64).map (fun k => ((s.laneLast.elim 0 (fun x => x + 1)) + k) % 64)).find? (fun x => !s.laneFailed x) = some 0) ∧
    (let s := lit .service [17] [(Reg.LANE.TESTING, 0x80 + 63)]; bit (s.rd Reg.LANE.TESTING) 7 = true ∧ fld (s.rd Reg.LANE.TESTING) 0 7 = 63) := by decide +kernel

theorem witness_RtcStagesAndArms :
    (∀ b ∈ [false, true], let s := { lit .show_ [] [] with rtc := { Rtc.init with setPend := b } }; s.passes .sc Reg.RTC.SET_GO ∧ s.passes .sc Reg.RTC.SHIFT ∧ s.rtcPend = b) ∧
    (lit .show_ [] []).passes .sc Reg.RTC.WAKE_PERIOD ∧ (lit .show_ [] []).passes .sc Reg.RTC.WAKE_CFG ∧
    (let s := lit .show_ [] [(Reg.RTC.ALM_DATE 1, 0x7D00102)]; s.passes .sc (Reg.RTC.ALM_CTL 1) ∧ s.alarmAt 1 = some (86400 * 32768) ∧ s.rtc.time = 0 ∧ bit (s.rd Reg.SYS.DOZE_CFG) 1 = false) ∧
    (let s := lit .show_ [] [(Reg.RTC.ALM_DATE 1, 0x7D00101)]; s.passes .sc (Reg.RTC.ALM_CTL 1) ∧ s.alarmAt 1 = some 0 ∧ s.rtc.time = 0) ∧
    (let s := lit .show_ [] [(Reg.RTC.ALM_DATE 0, 0xFFFFFFFF)]; s.passes .sc (Reg.RTC.ALM_CTL 0) ∧ s.alarmAt 0 = none) := by decide +kernel
theorem witness_RtcTickDoesWhatIsDue :
    let r := Rtc.init
    let b := fun (x : Rtc) (regs : List (Nat × Word)) => { lit .show_ [] regs with rtc := x }
    (b r []).xtalOn = true ∧ (b r []).awake ∧
    (let s := b { r with time := 32767 } []; s.rtc.setPend = false ∧ s.rtc.shifts = [] ∧ s.tickCount.2 = false ∧ s.rtc.time / 32768 < s.tickCount.1 / 32768) ∧
    (let s := b { r with setPend := true } [(Reg.RTC.SET_DATE, 0x7D00101)]; s.rtc.setPend = true ∧ s.stagedSet = some 0) ∧
    (let s := b { r with setPend := true } [(Reg.RTC.SET_DATE, 0xFFFFFFFF)]; s.rtc.setPend = true ∧ s.stagedSet = none ∧ s.tickCount.2 = false) ∧
    (let s := b { r with shifts := [-1] } []; s.rtc.setPend = false ∧ s.rtc.shifts = [-1] ∧ 0 ≤ (s.tickCount.1 : Int) + -1 ∧ (s.tickCount.1 : Int) + -1 < rtcEnd) ∧
    (let s := b { r with shifts := [-2] } []; s.rtc.setPend = false ∧ s.rtc.shifts = [-2] ∧ (s.tickCount.1 : Int) + -2 < 0) ∧
    (let s := b { r with time := 32767 } [(Reg.RTC.ALM_DATE 0, 0x7D00101), (Reg.RTC.ALM_TIME 0, 1), (Reg.RTC.ALM_STATUS 0, 1)]; s.almArmed 0 = true ∧ s.alarmAt 0 = some 32768 ∧
      32768 ≤ (s.tickApply s.tickCount.1).1) ∧
    (let s := b { r with time := rtcEnd - 1 } []; s.tickCount.2 = true ∧ s.rtc.setPend = false ∧ s.rtc.shifts = []) ∧
    (let s := b { r with winTick := 1048575 } [(Reg.RTC.TRIM_CFG, 1)]; s.rtc.winTick = 1048575 ∧ bit (s.rd Reg.RTC.TRIM_CFG) 0 = true) ∧
    (let s := b { r with perTick := 31 } [(Reg.RTC.WAKE_CFG, 1), (Reg.RTC.WAKE_PERIOD, 1)]; s.rtc.perRestart = false ∧ bit (s.rd Reg.RTC.WAKE_CFG) 0 = true ∧
      32 * clampN 1 67107840 (fld (s.rd Reg.RTC.WAKE_PERIOD) 0 26) ≤ s.rtc.perTick + 1) := by decide +kernel
theorem witness_RtcTrimAndDiscipline :
    bit ((lit .show_ [] [(Reg.RTC.TRIM_CFG, 0)]).rd Reg.RTC.TRIM_CFG) 0 = false ∧ bit ((lit .show_ [] [(Reg.RTC.TRIM_CFG, 1)]).rd Reg.RTC.TRIM_CFG) 0 = true ∧
    (let s := lit .show_ [] [(Reg.TB.LOCK 2, 2), (Reg.RTC.STATUS, 1)]; fld (s.rd (Reg.TB.LOCK 2)) 0 2 = 2 ∧ s.proc 0 = 2 ∧ s.dom 1 = 2 ∧ s.rtcPend = false ∧ bit (s.rd Reg.RTC.STATUS) 0 = true) ∧
    (2 : Int).natAbs = 2 ∧ (-32767 : Int).natAbs ≤ 32767 ∧ 32767 < (32768 : Int).natAbs ∧ (-1 : Int).natAbs < 2 := by decide +kernel
theorem witness_TimeBaseStaging :
    (let s := lit .show_ [12, 13] []; s.passes .sc (Reg.TB.INCR_FRAC 0) ∧ s.passes .sc (Reg.TB.INCR_INT 0) ∧ s.passes .sc (Reg.TB.ADJ 0) ∧ s.mayIncr .sc 0 = true ∧ s.mayAdj .sc 0 = true ∧ s.pulls .sc 0 5 = false) ∧
    (let s := lit .show_ [3, 12, 13] [(Reg.TB.SRC 0, 5), (Reg.TB.LOCK 0, 2)]; s.passes .host (Reg.TB.ADJ 0) ∧ s.mayAdj .host 0 = true ∧ s.pulls .host 0 1000 = true ∧ fld (s.rd (Reg.TB.LOCK 0)) 0 2 = 2) ∧
    (let s := lit .show_ [12, 13] [(Reg.TB.SRC 1, 9)]; s.passes .host (Reg.TB.INCR_FRAC 1) ∨ s.passes .pp (Reg.TB.INCR_FRAC 1) ∨ s.hostUp = false) ∧
    (let s := lit .show_ [3, 12, 13] [(Reg.TB.SRC 1, 9)]; s.passes .host (Reg.TB.INCR_FRAC 1) ∧ s.passes .host (Reg.TB.ADJ 1) ∧ s.mayIncr .host 1 = false ∧ s.mayAdj .host 1 = false) ∧
    (let x := fun (v f : Word) => v.toNat * 2 ^ 32 + f.toNat; 0x1FFBE76C9 ≤ x 1 0xFFBE76C9 ∧ x 2 0x00418937 ≤ 0x200418937 ∧ x 1 0xFFBE76C8 < 0x1FFBE76C9 ∧ 0x200418937 < x 2 0x00418938) := by
  decide +kernel
theorem witness_TimeBaseTick :
    let b := fun (x : TB) (regs : List (Nat × Word)) => { lit .show_ [12, 13] regs with tbs := [(0, x)] }
    let t := TB.init
    (let s := b { t with steps := [5] } []; (s.xtalOn = true → s.rtc.acc + 65536 < 1000000000) ∧ s.secAcc + 2 < 1000000000 ∧ s.tbRuns 0 = true ∧ (s.tb 0).snapTo = false ∧ (s.tb 0).steps = 5 :: []) ∧
    (let s := { lit .show_ [12, 13] [(Reg.TB.SRC 1, 9)] with tbs := [(1, { t with snapTo := true })] }; s.tbRuns 1 = true ∧ (s.tb 1).snapTo = true ∧ s.tbLeader 1 = some 0) ∧
    (let s := b { t with count := 0xFFFFFFFE } []; (s.tb 0).count.getLsbD 31 = true ∧ (s.nextTb 0).any (fun p => p.1.count.getLsbD 31 == false) = true) ∧
    (let s := b { t with count := 0x7FFFFFFE } []; (s.tb 0).count.getLsbD 31 = false ∧ (s.nextTb 0).any (fun p => p.1.count.getLsbD 31) = true) ∧
    (let s := b { t with phase := 999999998 } []; (s.nextTb 0).any (fun p => p.2) = true) ∧
    (let s := { lit .show_ [] [] with snapPend := true }; s.snapPend = true ∧ s.tbClock = true) ∧
    (let s := b { t with phase := 999999998 } [(Reg.TB.OUT_CFG 0, 0x100)]; (s.nextTb 0).any (fun p => (s.ltcStarts 0 (s.tb 0).phase p.2 p.1.phase).isSome) = true) := by decide +kernel
theorem witness_TimeBaseSources :
    (let s := lit .show_ [12, 13, 14, 15] [(Reg.TB.SRC 1, 9)]; s.passes .sc (Reg.TB.SRC 0) ∧ s.passes .sc (Reg.TB.FOLLOW_OFFSET 1) ∧ s.passes .sc (Reg.TB.SNAP_REQ 3) ∧ sourceOk 0 3 = false ∧
      sourceOk 1 0 = true ∧ s.tbSource 1 ≠ 0 ∧ sourceOk 0 2 = true ∧ s.tbSource 0 ≠ 2 ∧ s.tbLeader 1 = some 0 ∧ s.tbLeader 0 = none ∧ s.proc 0 = 2 ∧ s.dom 1 = 2 ∧ s.passes .sc (Reg.TB.FOLLOW_OFFSET 0) ∧
      s.passes .sc (Reg.TB.SRC 1)) ∧
    (∀ l ∈ [-3, 3], let s := lit .show_ [12, 104] [(Reg.TB.SRC 0, 2)]; let a : Announce := ⟨0, .udp4, l, 0, 0, 0, 0, 0, 0, 0, 0, 0, 37⟩; s.proc 0 = 2 ∧ s.dom 1 = 2 ∧ s.up (104 + s.ptpPort false) = true ∧
      a.port = s.ptpPort false ∧ a.transport ≠ .ethernet ∧ a.domain.toNat = s.ptpDomain false ∧ -3 ≤ a.logInterval ∧ a.logInterval ≤ 3 ∧ (s.ptp false).best = none ∧
      s.ptpDecide false (s.ptp false).best = .master ∧ 3 < ({ a with logInterval := 4 } : Announce).logInterval) ∧
    (let s := { lit .show_ [12, 104] [(Reg.TB.SRC 0, 0x10002)] with ptpA := { PtpInst.init with best := some ⟨0, .udp4, 0, 0, 0, 0, 0, 0, 0, 0, 0, 0, 37⟩ } }; s.proc 0 = 2 ∧ s.dom 1 = 2 ∧
      s.up (104 + s.ptpPort false) = true ∧ s.ptpDecide false (s.ptp false).best = .slave) := by decide +kernel
theorem witness_ServoAndCaptures :
    let m := fun (d : Int) => Measurement.ptp ⟨1, .udp4, 0, 7, -3, true, true, 0, d, 0, 0, 0, 0, none⟩
    let b := fun (x : TB) (lock : Word) => { lit .show_ [12, 105] [(Reg.TB.SRC 0, 0x10012), (Reg.TB.LOCK 0, lock)] with tbs := [(0, x)], ptpA := { PtpInst.init with best := some ⟨1, .udp4, 0, 0, 0, 0, 0, 0, 0, 0, 7, 0, 37⟩ } }
    (∀ d ∈ [0, 10000000], ∀ x ∈ [TB.init, { TB.init with pull := true }], let s := b x 1; s.tbMeasured 0 = true ∧ s.tbRuns 0 = true ∧ s.proc 0 = 2 ∧ (s.measureOf 0 (m d)).isSome = true ∧
      fld (s.rd (Reg.TB.LOCK 0)) 0 2 = 1 ∧ s.dom 1 = 2 ∧ s.rtcPend = false ∧ s.tbClock = true ∧ s.capArm.contains 1 = false) ∧
    (let s := b TB.init 2; s.tbMeasured 0 = true ∧ fld (s.rd (Reg.TB.LOCK 0)) 0 2 = 2) ∧
    (let s := { b TB.init 2 with capArm := [1, 3] }; s.tbClock = true ∧ s.capArm.contains 1 = true ∧ s.capArm.contains 3 = true ∧ s.capArm.contains 4 = false) := by decide +kernel
theorem witness_ReadsThatLatch :
    (lit .show_ [] []).reads .sc Reg.RTC.SUBSEC ∧ (lit .show_ [15] []).reads .sc (Reg.TB.TIME 3) ∧ (lit .show_ [30] []).reads .sc (Reg.MTR.IMP_LO 2) ∧ (lit .show_ [3, 30] []).reads .host (Reg.MTR.IMP_LO 0) := by
  unfold State.reads; exact ⟨by decide +kernel, by decide +kernel, by decide +kernel, by decide +kernel⟩
theorem witness_SupplyAndMeter :
    (let s := lit .show_ [] [(Reg.PSU.STATUS, 1)]; s.mainsOn = true ∧ bit (s.rd Reg.PSU.STATUS) 2 = false ∧ (0 : BitVec 16).toNat < s.brownoutAt ∧ s.brownoutAt ≤ (65535 : BitVec 16).toNat) ∧
    (let s := lit .show_ [] [(Reg.PSU.STATUS, 5)]; bit (s.rd Reg.PSU.STATUS) 2 = true ∧ s.brownoutAt + 50 < (65535 : BitVec 16).toNat ∧ (0 : BitVec 16).toNat ≤ s.brownoutAt + 50) ∧
    (lit .show_ [] [(Reg.PSU.STATUS, 0)]).mainsOn = false ∧ (2199 : BitVec 16).toNat < 2200 ∧ 2200 ≤ (2200 : BitVec 16).toNat ∧
    (let s := lit .show_ [] [(Reg.PSU.STATUS, 0x18)]; ∀ b ∈ [false, true], bit (s.rd Reg.PSU.STATUS) (3 + b2n b) = true ∧ s.auxLimit (b2n b) < 1000000 ∧ 0 ≤ s.auxLimit (b2n b)) ∧
    (lit .show_ [] []).passes .sc Reg.PSU.AUX_CLEAR ∧ (lit .show_ [] []).awake ∧
    (let s := lit .show_ [30] [(Reg.PSU.STATUS, 1)]; s.metering = true ∧ s.mtrPhases = 3) ∧ (let s := lit .show_ [] [(Reg.PSU.STATUS, 1)]; s.metering = false ∧ bit (s.rd Reg.MTR.STATUS) 4 = false) := by
  decide +kernel
theorem witness_ModuleStarts :
    (State.reset).mainsOn = false ∧
    (let s := State.reset; s.mode = .cold ∧ s.mrstLow = false ∧ s.coldThermal = false ∧ s.startWait = none) ∧
    (let s := { State.reset with mrstLow := true }; s.mainsOn = false ∧ s.mode = .cold ∧ s.mrstLow = true) ∧ ({ State.reset with startWait := some 4 } : State).startWait = some 4 ∧
    (let s := { State.reset with coldThermal := true, regs := [(Reg.SYS.BOOT_CFG, 0x14), (Reg.PWR.AON_TEMP, 801)] }; s.mainsOn = false ∧ s.mode = .cold ∧ bit (s.rd Reg.SYS.BOOT_CFG) 4 = true ∧
      800 < sfld (s.rd Reg.PWR.AON_TEMP) 0 16 ∧ s.rd Reg.TAMP.LATCH = 0) ∧
    (let s := { State.reset with mrstLow := true, regs := [(Reg.TAMP.LATCH, 4)] }; s.mrstLow = true ∧ s.rd Reg.TAMP.LATCH ≠ 0) ∧
    (let s := lit .show_ [] [(Reg.PSU.STATUS, 1)]; s.passes .sc Reg.SYS.RESET_REQ ∧ s.mainsOn = true ∧ s.failSeq = false) ∧
    (let s := { lit .cold [] [(Reg.PSU.STATUS, 1), (Reg.SYS.BOOT_CFG, 0x16)] with coldThermal := true }; s.mode = .cold ∧ s.coldThermal = true ∧ s.mainsOn = true ∧ (800 : BitVec 16).toInt ≤ 800 ∧
      bit (s.rd Reg.SYS.BOOT_CFG) 4 = true) ∧
    (let s := { lit .cold [] [(Reg.PSU.STATUS, 1), (Reg.SYS.WAKE_EN, 4)] with coldCmd := true }; bit (s.rd Reg.SYS.WAKE_EN) 2 = true ∧ s.mode = .cold ∧ s.trans = none ∧ s.coldCmd = true ∧ s.mainsOn = true) := by
  decide +kernel
theorem witness_TransitionsEnd :
    (let s := { lit .bringup [] [] with starting := true }; s.starting = true ∧ s.startWait = none ∧ s.mode = .bringup) ∧
    (let s := { code 16 1 (lit .hold [] [(Reg.SYS.MODE_STATUS, 0x20000), (Reg.SYS.PROC_STATE, 0x1112)]) with starting := true }; s.starting = true ∧ s.startWait = none ∧ s.mode = .hold ∧ s.holdCause = 2 ∧ s.code 16 = 1 ∧ s.proc 1 = 1) ∧
    (let s := { lit .hold [] [(Reg.SYS.MODE_STATUS, 0x20000)] with starting := true }; s.starting = true ∧ s.startWait = none ∧ s.mode = .hold ∧ s.holdCause = 2 ∧ ∀ pg ∈ allPages, s.code pg ≠ 1) ∧
    (∀ m ∈ [Mode.cold, .show_, .fleet, .grow, .doze, .service, .hold], let s := { lit .show_ [] [] with trans := some m }; s.trans = some m ∧ s.mode ≠ .doze ∧ s.dom 1 ≠ 1) ∧
    (let s := lit .doze [] [(Reg.SYS.WAKE_EN, 0x100), (Reg.PWR.DOMAIN_STATE, 0x22032)]; bit (s.rd Reg.SYS.WAKE_EN) 8 = true ∧ s.mode = .doze ∧ s.trans = none ∧ s.dom 1 = 3) := by decide +kernel
theorem witness_ModeRequests :
    (let s := lit .show_ [] []; s.passes .sc Reg.SYS.MODE_REQ ∧ modeOf (fld 3 0 4) = some .fleet ∧ s.modeRefusal .fleet = 0 ∧ modeOf (fld 1 0 4) = some .bringup ∧ s.modeRefusal .bringup ≠ 0 ∧
      modeOf (fld 8 0 4) = none ∧ s.trans = none) ∧
    (let s := lit .hold [] []; s.passes .sc Reg.SYS.MODE_REQ ∧ modeOf (fld 7 0 4) = some .hold ∧ s.mode = .hold ∧ s.trans = none) ∧
    (∀ m ∈ [Mode.fleet, .grow], let s := lit m [] [(Reg.SYS.DOZE_CFG, 3), (Reg.SCH.NEXT_CHANGE, 1)]; s.passes .sc Reg.SYS.MODE_REQ ∧ s.mode = m ∧ bit (s.rd Reg.SYS.DOZE_CFG) 1 = true ∧ s.proc 2 = 2 ∧
      s.modeRefusal .doze = 0 ∧ clampN 1 65535 (fld (s.rd Reg.SYS.DOZE_CFG) 16 16) ≤ (s.rd Reg.SCH.NEXT_CHANGE).toNat) ∧
    (let s := lit .fleet [] [(Reg.SYS.DOZE_CFG, 3), (Reg.SCH.NEXT_CHANGE, 0xFFFFFFFF)]; clampN 1 65535 (fld (s.rd Reg.SYS.DOZE_CFG) 16 16) ≤ (s.rd Reg.SCH.NEXT_CHANGE).toNat ∧ s.rd Reg.SCH.NEXT_CHANGE = 0xFFFFFFFF) ∧
    (let s := lit .fleet [] [(Reg.SYS.DOZE_CFG, 0x20003), (Reg.SCH.NEXT_CHANGE, 1)]; (s.rd Reg.SCH.NEXT_CHANGE).toNat < clampN 1 65535 (fld (s.rd Reg.SYS.DOZE_CFG) 16 16)) := by
  decide +kernel
theorem witness_ForcedStops :
    (let s := lit .show_ [] []; s.mode ≠ .cold ∧ s.mainsOn = false ∧ bit (s.rd Reg.PSU.STATUS) 8 = false ∧ s.dieWarned = false) ∧ (let s := lit .show_ [] [(Reg.PSU.STATUS, 1)]; s.mainsOn = true ∧ s.failSeq = false) ∧
    (let s := lit .show_ [] [(Reg.PSU.STATUS, 1), (Reg.TAMP.LATCH, 4)]; s.mainsOn = true ∧ s.failSeq = false ∧ s.rd Reg.TAMP.LATCH ≠ 0) ∧ 1000 ≤ (1000 : BitVec 16).toInt ∧ 920 ≤ (920 : BitVec 16).toInt ∧ (879 : BitVec 16).toInt < 880 := by decide +kernel
theorem witness_ClocksRailsAndLink :
    (let s := lit .show_ [16] []; bit (s.rd Reg.PWR.CLK_STATE) (pllBit .eng) = true ∧ bit (s.rd Reg.PWR.CLK_STATE) 0 = true ∧ (feeds 16).contains (pllBit .eng) = true ∧ s.code 16 = 2 ∧ s.mode ≠ .cold ∧ s.mode ≠ .doze) ∧
    (let s := code 16 6 (lit .show_ [] [(Reg.PWR.CLK_STATE, 0x77)]); bit (s.rd Reg.PWR.CLK_STATE) (pllBit .eng) = false ∧ bit (s.rd Reg.PWR.CLK_STATE) 0 = true ∧ s.calRun = none ∧ s.code 16 = 6 ∧
      (s.blk 16).hold = false ∧ (∀ b ∈ feeds 16, b = pllBit .eng ∨ bit (s.rd Reg.PWR.CLK_STATE) b = true)) ∧
    (let s := lit .show_ [] []; (∃ d ∈ railDomains 7, 1 ≤ s.dom d ∧ s.dom d ≤ 3) ∧ s.mode ≠ .cold ∧ s.mode ≠ .doze ∧ s.mode ≠ .hold ∧ s.code 1 ≠ 4) ∧
    (let s := lit .show_ [] [(Reg.PWR.DOMAIN_STATE, 0x44444)]; ∀ d ∈ railDomains 7, s.dom d = 0 ∨ 3 < s.dom d) ∧ (let s := lit .show_ [3] []; s.dom 1 = 2 ∧ s.faultLocked 3 = false ∧ (s.blk 3).enable = true) ∧
    State.linkWord true 4 4 0 ≠ (lit .show_ [3] []).rd Reg.HIF.LINK_STATUS := by decide +kernel

/-- A plan of one 25 Hz zone with one tile on Gyzor port 0. -/
def pl : Plan := { epoch := 1, tiles := 1, map := [(0, 0x100)], zone := [(0, 0x21)], prof := [], fix := [], ports := [32] }

/-- A frame of that zone. -/
def fr : Frame :=
  { zone := 0, k := 3, pt := 5, ps := 5, ps0 := 5, epoch := 1, prio := 0, admitted := true, queued := [], todo := [0], busy := [], buf := [], left := [(32, [0])], shots := [], gm := 0, hot := [],
    stats := Resid.init, pow := [] }

/-- A lane at work on that frame. -/
def lw : LaneWork := { zone := 0, k := 3, tile := 0, out := ⟨0, []⟩, stats := Resid.init, pow := [], bins := [] }

theorem witness_PlansCommitAndSwap :
    (let s := lit .show_ [16] [(Reg.FE.COMMIT_AT_CTL, 1)]; s.proc 1 = 2 ∧ s.mode ≠ .hold ∧ s.mode ≠ .cold ∧ s.failSeq = false ∧ s.feUp = true ∧ s.feBlocked = false ∧
      (s.planChecks s.candidate).2 = true ∧ bit (s.rd Reg.FE.COMMIT_AT_CTL) 0 = true ∧ s.planOld = none ∧ s.commitLate (s.rd Reg.FE.COMMIT_AT) = false) ∧
    (let s := lit .show_ [16] []; s.proc 1 = 2 ∧ s.mode ≠ .hold ∧ s.mode ≠ .cold ∧ s.failSeq = false ∧ s.feUp = true ∧ s.feBlocked = false ∧ (s.planChecks s.candidate).2 = true ∧
      bit (s.rd Reg.FE.COMMIT_AT_CTL) 0 = false ∧ s.planOld = none ∧ s.commitLate s.earliestPt = false) ∧
    (let s := { lit .show_ [16] [] with zoneSh := [(0, 0xD1)] }; s.proc 1 = 2 ∧ s.mode ≠ .hold ∧ s.mode ≠ .cold ∧ s.failSeq = false ∧ s.feUp = true ∧ s.feBlocked = false ∧
      (s.planChecks s.candidate).2 = false) ∧
    (let s := lit .show_ [16] []; s.passes .sc Reg.FE.COMMIT_GO ∧ bit 1 0 = true ∧ s.commitResult (s.rd Reg.FE.COMMIT_PT) = 1) ∧
    (let s := lit .hold [16] []; s.passes .sc Reg.FE.COMMIT_GO ∧ s.commitResult (s.rd Reg.FE.COMMIT_PT) ≠ 1 ∧ s.commitResult (s.rd Reg.FE.COMMIT_PT) ≠ 3) ∧
    (let s := { lit .show_ [16] [] with planOld := some pl }; s.passes .sc Reg.FE.COMMIT_GO ∧ s.commitResult (s.rd Reg.FE.COMMIT_PT) ≠ 1) ∧
    (let s := { lit .show_ [16] [] with plan := pl, zruns := [(0, { ZoneRun.init with begun := some 2 })] }; s.passes .sc Reg.FE.COMMIT_GO ∧ s.commitResult (s.rd Reg.FE.COMMIT_PT) = 3) ∧
    (let s := { blk 16 { Block.init with code := 2, swapPend := true } (lit .show_ [] []) with planOld := some pl, entered := [16] }; s.planOld.isSome = true ∧ planCoupled 16 = true ∧
      (s.blk 16).swapPend = true ∧ s.flipped.contains 16 = false ∧ s.entered.contains 16 = true ∧ s.oldWork = false) ∧
    ({ lit .show_ [] [] with flipped := [16] } : State).flipped.contains 16 = true ∧ (lit .show_ [] []).entered.contains 255 = false ∧
    (let s := { lit .show_ [] [] with planOld := some pl, frames := [fr], plan := { pl with epoch := 2 } }; s.oldWork = true) := by decide +kernel
theorem witness_ZoneCommandsAndCues :
    (let s := { lit .show_ [16, 23] [] with plan := pl }; s.passes .sc Reg.FE.ZCMD ∧ s.plan.zEn 0 = true ∧ (s.zrun 0).cmd.isNone ∧ s.plan.zEn 255 = false) ∧
    (let s := { lit .show_ [16] [] with plan := pl, zruns := [(0, { ZoneRun.init with cmd := some (4, 0, false) })] }; s.planFor 0 0 = some pl ∧ s.feUp = true ∧ s.mode ≠ .hold ∧
      (s.zrun 0).cmd = some (4, 0, false) ∧ serialGe (framePs pl 0 0) 0 = true) ∧
    (let s := { lit .show_ [16] [] with plan := pl, zruns := [(0, { ZoneRun.init with cmd := some (1, 0, true) })] }; s.planFor 0 0 = some pl ∧ (s.zrun 0).cmd = some (1, 0, true)) ∧
    (let s := { lit .show_ [23] [] with plan := pl }; s.passes .sc Reg.DMK.CUE_DATA ∧ bit (s.rd Reg.DMK.CUE_INDEX) 8 = false ∧ s.cueArmed (fld (s.rd Reg.DMK.CUE_SEL) 0 8) = false ∧
      s.passes .sc Reg.DMK.CUE_GO ∧ s.cueArmed 0 = false ∧ s.plan.zEn (fld 0 0 8) = true ∧ s.cueArmed 255 = false ∧ s.plan.zEn (fld 255 0 8) = false) ∧
    (let s := { lit .show_ [23] [(Reg.DMK.CUE_SEL, 255)] with cueArm := [(255, 0, false)] }; s.passes .sc Reg.DMK.CUE_DATA ∧ s.passes .sc Reg.DMK.CUE_GO ∧
      s.cueArmed (fld (s.rd Reg.DMK.CUE_SEL) 0 8) = true ∧ s.cueArmed (fld 255 0 8) = true) ∧
    (let s := lit .show_ [23] [(Reg.DMK.CUE_INDEX, 0x1FF)]; s.passes .sc Reg.DMK.CUE_DATA ∧ bit (s.rd Reg.DMK.CUE_INDEX) 8 = true) ∧
    (let s := { lit .show_ [16] [] with plan := pl, cueArm := [(0, 0, false)], cueI := [(0, 5)] }; s.planFor 0 0 = some pl ∧ s.feUp = true ∧ s.mode ≠ .hold ∧
      s.cueArm.find? (fun c => c.1 == 0) = some (0, 0, false) ∧ Sparse.wf cueDefault s.cueI = true ∧ serialGe (framePt pl 0 0) 0 = true) := by decide +kernel
theorem witness_ZoneCommandsAndCues_read : (lit .show_ [23] []).reads .sc Reg.DMK.CUE_DATA := by unfold State.reads; decide +kernel
theorem witness_FramesAreAdmitted :
    (let s := { lit .show_ [16] [(Reg.FE.CFG, 0x1F4), (Reg.LANE.ACTIVE, 64)] with plan := { pl with zone := [(0, 0x721)] } }; let p := s.plan
      s.planFor 0 3 = some p ∧ s.tickMates 0 3 = [] ∧ s.feUp = true ∧ s.mode ≠ .hold ∧ (s.zrunFor p 0).lastK = none ∧ (s.zrun 0).cmd = none ∧ s.cueArmed 0 = false ∧ s.zoneHeld 0 = false ∧ s.zoneBlack 0 = false ∧
      s.zoneDamaged p 0 = false ∧ s.admitSkips p 0 3 = false ∧ p.zoneTiles 0 ≠ []) ∧
    (let s := { lit .show_ [16] [(Reg.FE.CFG, 0x12710), (Reg.LANE.ACTIVE, 0)] with plan := pl, zruns := [(0, { ZoneRun.init with grid := (2, 0), lastK := some 2 })] }; let p := s.plan
      s.planFor 0 3 = some p ∧ s.tickMates 0 3 = [] ∧ s.feUp = true ∧ s.mode ≠ .hold ∧ (s.zrunFor p 0).lastK = some 2 ∧ (s.zrun 0).cmd = none ∧ s.cueArmed 0 = false ∧ s.zoneHeld 0 = false ∧ s.zoneBlack 0 = false ∧
      s.zoneDamaged p 0 = false ∧ s.admitSkips p 0 3 = true) ∧
    (∀ b ∈ [(1 : Nat), 2], let s := { lit .show_ [16] [(Reg.FE.ZONE_STATE 0, W b)] with plan := pl }; let p := s.plan
      s.planFor 0 0 = some p ∧ s.tickMates 0 0 = [] ∧ s.feUp = true ∧ s.mode ≠ .hold ∧ (s.zrunFor p 0).lastK = none ∧ (s.zrun 0).cmd = none ∧ s.cueArmed 0 = false ∧
      (s.zoneHeld 0 = true ∨ s.zoneBlack 0 = true)) := by decide +kernel
theorem witness_LanesRender :
    (let s := { lit .show_ [17, 27] [] with plan := pl, frames := [fr] }; s.up 17 = true ∧ s.up 27 = true ∧ s.laneWorks 63 = true ∧ s.lanes.any (fun e => e.1 == 63) = false ∧ s.nextTile = some (fr, 0)) ∧
    (let s := { lit .show_ [16, 17, 26, 27, 32] [] with plan := pl, frames := [{ fr with todo := [], busy := [0] }], lanes := [(67, lw)] }; s.lanes.find? (fun e => e.1 == 67) = some (67, lw) ∧
      s.frames.find? (fun f => f.zone == lw.zone && f.k == lw.k) = some { fr with todo := [], busy := [0] } ∧ lw.out.tile = lw.tile ∧
      s.tileRoom 32 0 = true ∧ s.portsMay { fr with todo := [], busy := [0] } = true ∧ (s.planOf 1).zonePorts 0 = [32] ∧ s.code 32 ≠ 0) ∧
    (let s := { lit .show_ [] [] with frames := [fr] }; s.frames.find? (fun f => f.zone == 0 && f.k == 3) = some fr) := by decide +kernel

/-- A packet that is a whole picture. -/
def vp : VinPacket := { rtpTs := 5, seq := 9, width := 1920, height := 1080, sampling422 := true, progressive := true, line := 3, offset := 4, octets := [1, 2], first := true, last := true }

theorem witness_VideoStreams :
    (let s := lit .show_ [21] []; s.passes .sc (Reg.VIN.S_CTL 7) ∧ bit (s.rd (Reg.VIN.S_CTL 7)) 0 = false ∧ vinReserved (1 &&& 0x3FFF) = false ∧ s.vinUnits + vinCost (1 &&& 0x3FFF) ≤ 8 ∧
      vinReserved (0x31 &&& 0x3FFF) = true) ∧
    (let s := lit .show_ [21] [(Reg.VIN.S_CTL 0, 0x11), (Reg.VIN.S_CTL 1, 0x11)]; s.passes .sc (Reg.VIN.S_CTL 7) ∧ bit (s.rd (Reg.VIN.S_CTL 7)) 0 = false ∧ 8 < s.vinUnits + vinCost (1 &&& 0x3FFF)) ∧
    (let s := lit .show_ [21] [(Reg.VIN.S_CTL 0, 1)]; s.passes .sc (Reg.VIN.S_CTL 0) ∧ bit (s.rd (Reg.VIN.S_CTL 0)) 0 = true ∧ (0x11 : Word) &&& 0x3FFE ≠ s.rd (Reg.VIN.S_CTL 0) &&& 0x3FFE) ∧
    (let s := lit .show_ [21] [(Reg.VIN.S_CTL 0, 1), (Reg.VIN.S_STATUS 0, 1)]; s.up 21 = true ∧ s.vinState 0 = 1 ∧ (1920, 1080) = vinSize (fld (s.rd (Reg.VIN.S_CTL 0)) 4 2) ∧
      (s.vin 0).lastSeq = none ∧ (s.vin 0).cur = [] ∧ (s.vin 0).done.any (fun x => x.ts == vp.rtpTs) = false ∧ (vp.width, vp.height) = (1920, 1080) ∧ vp.sampling422 = true ∧
      vp.progressive = true ∧ vp.first = true ∧ vp.last = true ∧ (1280, 720) ≠ vinSize (fld (s.rd (Reg.VIN.S_CTL 0)) 4 2)) := by decide +kernel
theorem witness_ClipsPlay :
    (lit .show_ [22] []).up 22 = true ∧
    (let s := lit .show_ [22] []; s.passes .sc Reg.CLIP.DELETE ∧ s.clipHeld 65535 = false) ∧
    (let s := { lit .show_ [22] [] with players := [(0, { Player.init with held := some 5 })] }; s.passes .sc Reg.CLIP.DELETE ∧ s.clipHeld 5 = true) ∧
    (let s := { lit .show_ [22] [] with clips := [(0, [1])] }; s.passes .sc (Reg.CLIP.P_CMD 7) ∧ s.clipStored (fld (s.rd (Reg.CLIP.P_CLIP 7)) 0 16) = true ∧ s.goRefuse 7 = 1) ∧
    (let s := lit .show_ [22] []; s.passes .sc (Reg.CLIP.P_CMD 0) ∧ s.clipStored (fld (s.rd (Reg.CLIP.P_CLIP 0)) 0 16) = false) ∧
    (let s := { lit .show_ [22] [(Reg.CLIP.P_STATUS 0, 1)] with clips := [(0, [1])], inForce := [(Reg.CLIP.CACHE_CFG, 4)], players := [(0, { Player.init with loading := some 0 })] };
      (s.player 0).loading = some 0 ∧ s.cacheFit 0 = some [] ∧ s.playState 0 = 1) ∧
    (let s := { lit .show_ [22] [(Reg.CLIP.P_SPEED 0, 256)] with clips := [(0, [1])], clipCache := [0] }; s.passes .sc (Reg.CLIP.P_CMD 0) ∧ s.goRefuse 0 = 0) ∧
    (let s := lit .show_ [22] [(Reg.CLIP.P_STATUS 0, 3)]; s.passes .sc (Reg.CLIP.P_CMD 0) ∧ s.playState 0 = 3 ∧ (s.player 0).goExt ≤ (s.tb (s.playTb 0)).ext) ∧
    (lit .show_ [22] [(Reg.CLIP.P_STATUS 7, 5)]).playState 7 = 5 := by decide +kernel
/-- A data packet of universe 1. -/
def sp : SacnPacket := { port := 0, unicast := false, uni := 1, cid := 9, prio := 100, seq := 5, syncAddr := 0, startCode := 0, preview := false, terminated := false, slots := [1, 2, 3] }

theorem witness_UniversesMerge :
    let u : UniSource := { cid := 9, prio := 100, seq := 1, slots := [], order := 0, held := none }
    (let s := { lit .show_ [24] [(Reg.UNI.CFG, 1)] with uniIn := [(7, 0x80000001)] }; s.up 24 = true ∧ s.sacnHears sp = true ∧ sp.startCode = 0 ∧ sp.preview = false ∧ sp.terminated = false ∧
      sp.syncAddr = 0 ∧ s.uniOf 0 sp.uni = [7] ∧ (s.uni 7).sources = [] ∧ s.sacnHears { sp with preview := true } = true ∧ s.sacnHears { sp with startCode := 0xDD } = true ∧
      s.sacnHears { sp with port := 1 } = false) ∧
    (let s := { lit .show_ [24] [] with uniSt := [(7, { UniInput.init with sources := [{ u with held := some (5, [1], 7, 8) }] })] }; s.up 24 = true ∧ Sparse.wf (fun _ => UniInput.init) s.uniSt = true ∧
      (s.uni 7).sources = [{ u with held := some (5, [1], 7, 8) }] ∧ (s.uni 7).sources.any (fun x => x.held.isSome) = true ∧ (s.uni 7).noSync = false ∧
      (s.uni 7).sources.any (fun x => x.cid == senderId (.cid 9)) = true) ∧
    (let s := { lit .show_ [24] [] with uniSt := [(2047, { UniInput.init with sources := [{ u with cid := senderId (.dmx 3) }] })], dmxs := [(3, { DmxPort.init with live := true })] };
      (s.uni 2047).sources.any (fun x => x.cid == senderId (.dmx 3)) = true ∧ (s.dmxP 3).live = true) ∧
    (lit .show_ [24] []).passes .sc Reg.UNI.IN_DATA ∧ fld 0x4FA00 16 3 ≤ 4 ∧ fld 0xF9FF 16 3 = 0 ∧ fld 0xF9FF 0 16 ≠ 0 ∧ fld 0xF9FF 0 16 ≤ 63999 ∧ 4 < fld 0x50001 16 3 ∧ fld 0xFA00 16 3 = 0 ∧
    63999 < fld 0xFA00 0 16 ∧ fld 0 0 16 = 0 := by decide +kernel
theorem witness_UniversesMerge_read : (lit .show_ [24] []).reads .sc Reg.UNI.IN_DATA := by unfold State.reads; decide +kernel
theorem witness_AudioIsAnalysed :
    (let s := lit .show_ [25] [(Reg.AUD.STATUS, 2), (Reg.AUD.CFG, 0x81)]; s.up 25 = true ∧ fld (s.rd Reg.AUD.STATUS) 0 2 = 2 ∧ s.audChannels = 8 ∧ s.audSeq = none ∧ 7 ≠ s.audChannels) ∧
    (let s := { lit .show_ [25] [(Reg.AUD.STATUS, 1)] with audSeq := some 65535 }; fld (s.rd Reg.AUD.STATUS) 0 2 = 1 ∧ s.audSeq = some (0 - 1)) ∧
    (let s := { lit .show_ [25] [(Reg.AUD.STATUS, 2)] with audNext := some 1, audBuf := [(48, [4])] }; s.up 25 = true ∧ fld (s.rd Reg.AUD.STATUS) 0 2 = 2 ∧ s.audNext = some 1) := by decide +kernel
theorem witness_GroupsAndHeatOff :
    (let s := { lit .show_ [19] [] with gmStage := [] }; s.passes .sc Reg.CLR.GM_DATA ∧ bit (s.gm .sc).index 16 = false ∧ fld (s.gm .sc).index 0 3 = 0) ∧
    (let s := { lit .show_ [19] [] with gmStage := [(reqIdx .sc, { GmStage.init with index := 0xFFF7 })] }; s.passes .sc Reg.CLR.GM_DATA ∧ bit (s.gm .sc).index 16 = false ∧ fld (s.gm .sc).index 0 3 = 7 ∧
      gmOk ((s.gmLoad .sc).gm .sc).words = true ∧ s.fleetDriven (fld (s.gm .sc).index 4 12) = false) ∧
    (let s := { lit .show_ [19] [] with gmStage := [(reqIdx .sc, { GmStage.init with index := 0xFFF7 })], sched := [(0, 0xFFF0001)] }; s.passes .sc Reg.CLR.GM_DATA ∧ fld (s.gm .sc).index 0 3 = 7 ∧
      s.fleetDriven (fld (s.gm .sc).index 4 12) = true) ∧
    (let s := lit .show_ [19] []; s.passes .sc Reg.CLR.GM_GO ∧ s.gmArm = none ∧ s.gmOld = none ∧ s.frames.any (fun f => f.gm < s.gmSwaps) = false ∧ s.passes .sc Reg.CLR.RESID_SEL) ∧
    (let s := { lit .show_ [19] [] with gmOld := some [], gmArm := some (0, false, false) }; s.passes .sc Reg.CLR.GM_GO ∧ bit 1 0 = true ∧ s.gmOld ≠ none ∧ s.gmArm ≠ none ∧
      s.gmArm = some (0, false, false) ∧ serialGe (s.tb 0).count 0 = true) ∧ ({ lit .show_ [19] [] with gmArm := some (5, true, false) } : State).gmArm = some (5, true, false) ∧
    (let s := { lit .show_ [20] [] with thm := [(131071, { ThmRec.init with sink := some 0 })] }; (s.thmRec 131071).sink.isSome = true ∧ (s.thmRec 131071).stale = false ∧
      s.reportAge ≤ 100000 ∧ s.autoDelay ≤ 100000) ∧
    (let s := { lit .show_ [20] [] with thm := [(5, { ThmRec.init with rearmOk := true })], heatOff := [5], plan := { Plan.init with prof := [(0, 0x10000)] } }; s.passes .sc Reg.THM.REARM ∧
      s.heatOff.contains 5 = true ∧ (s.thmRec 5).rearmOk = true ∧ bit (s.plan.pw (s.fixProfile s.plan 5) 0) 16 = true ∧ s.heatOff.contains 6 = false) := by decide +kernel
theorem witness_GroupsAndHeatOff_read : (lit .show_ [19] []).reads .sc Reg.CLR.GM_DATA := by unfold State.reads; decide +kernel

theorem witness_LinesAreMeasuredAndTrained :
    (let s := lit .show_ [32] [(Reg.GZP.LINE_STATUS 0, 1)]; s.lineSt 0 = 1 ∧ State.firstFaults (0 : BitVec 8).toNat = 0 ∧ s.rateMismatch 0 = false ∧ State.firstFaults (0x20 : BitVec 8).toNat ≠ 0 ∧
      s.lineLive 0 = false) ∧
    (let s := lit .show_ [63] [(Reg.GZP.LINE_STATUS 31, 3), (Reg.GZP.EQ_CFG 31, 0x1610)]; s.lineSt 31 = 3 ∧ s.eyeMin 31 ≤ (63 : BitVec 6).toNat ∧ (15 : BitVec 6).toNat < s.eyeMin 31 ∧ s.ringOn (31 / 2) = false) ∧
    (let s := { lit .show_ [32] [(Reg.GZP.LINE_STATUS 0, 2)] with gzPorts := [(0, { GzPort.init with clean := 2, tries := 2 })] }; s.lineSt 0 = 2 ∧ s.rateMismatch 0 = false ∧ 2 ≤ (s.gz 0).clean ∧
      2 ≤ (s.gz 0).tries) ∧
    (lit .show_ [32] [(Reg.GZP.LINE_STATUS 0, 4)]).lineLive 0 = true ∧ (lit .show_ [32] [(Reg.GZP.LINE_STATUS 0, 5)]).lineLive 0 = true := by decide +kernel
theorem witness_RetunesTdrAndLeakage :
    (let s := blk 32 { Block.init with enable := false } (lit .show_ [] []); s.gate .sc (32 + 0) 0 = .pass ∧ (s.blk (32 + 0)).enable = false) ∧
    (∀ l ∈ [0, 1, 2, 3, 4, 5], let s := lit .show_ [63] [(Reg.GZP.LINE_STATUS 31, W l), (Reg.GZR.RING_CTL 15, 0)]
      s.gate .sc (32 + 31) 0 = .pass ∧ (s.blk (32 + 31)).enable = true ∧ s.code (32 + 31) = 2 ∧ s.lineSt 31 = l) ∧
    (let s := lit .show_ [32] [(Reg.GZP.LINE_STATUS 0, 4), (Reg.GZP.LINE_CTL 0, 0x3000), (Reg.GZP.EQ_CFG 0, 0x1610)]; s.leakMay 0 = true ∧ (s.gz 0).leakRun = false ∧ s.lineSt 0 = 4 ∧
      bit (s.rd (Reg.GZP.LINE_CTL 0)) 12 = true ∧ (s.gz 0).retuneTrig = false ∧ (14 : BitVec 6).toNat < Nat.min (fld (s.rd (Reg.GZP.EQ_CFG 0)) 8 6) (s.eyeMin 0 - 1) ∧ s.leakPeriod 0 ≤ 100000) ∧
    (∀ ready ∈ [false, true], let s := { lit .show_ [32] [(Reg.GZP.LINE_STATUS 0, 4), (Reg.GZP.LINE_CTL 0, 0)] with gzPorts := [(0, { GzPort.init with retuneWant := true, retuneReady := ready })] }
      s.leakMay 0 = false ∧ s.lineSt 0 = 4 ∧ (s.gz 0).retuneWant = true ∧ (s.gz 0).retuneReady = ready ∧ s.ringOn (0 / 2) = false ∧ s.code (32 + 0) = 2) ∧
    (let s := code 32 5 (lit .show_ [] [(Reg.GZP.LINE_STATUS 0, 5), (Reg.GZP.EQ_CFG 0, 0x1610)]); s.lineSt 0 = 5 ∧ s.code (32 + 0) = 5 ∧ s.eyeMin 0 ≤ (16 : BitVec 6).toNat ∧ (15 : BitVec 6).toNat < s.eyeMin 0) ∧
    (let s := { lit .show_ [32] [(Reg.GZP.LINE_STATUS 0, 2)] with gzPorts := [(0, { GzPort.init with tdrWait := true })] }; s.lineSt 0 = 2 ∧ (s.gz 0).tdrWait = true) ∧
    (lit .show_ [32] [(Reg.GZP.LINE_STATUS 0, 1)]).lineSt 0 = 1 ∧
    (let s := { lit .show_ [32] [(Reg.GZP.LEAK_CFG 0, 100)] with gzPorts := [(0, { GzPort.init with leakRun := true })] }; (s.gz 0).leakRun = true ∧ (s.gz 0).leakLow = false ∧
      State.leakMean 99 99 < fld (s.rd (Reg.GZP.LEAK_CFG 0)) 0 16) := by decide +kernel

/-- A tile of two slots, and a strike, of frame `k` of zone 0. -/
def til (k : Nat) : TileOut := { zone := 0, k := k, ps := 5000, epoch := 1, eop := true, tile := ⟨0, [⟨0, 5, 0, 12, [1, 2, 3, 4]⟩, ⟨1, 5, 1, 12, [1, 2, 3, 4]⟩]⟩ }
def stk (k : Nat) (ps : Word) : StrikeOut := ⟨0, k, ps, 1, 0, 0⟩

/-- The line code of a DESC and of a STATUS reply. -/
def descF : List Byte := gzFrame 5 false false 0 7 ([3, 0, 0, 0] ++ List.replicate 28 1)
def statF : List Byte := gzFrame 4 false false 0 7 ([6, 0, 0, 0] ++ List.replicate 20 1)
def symbols (f : List Byte) : List (BitVec 10) := (lineCode false f).1.take (f.length + 2)

theorem witness_ChainsEnumerateAndRun :
    (let s := lit .show_ [32] [(Reg.GZP.LINE_STATUS 0, 4), (Reg.GZP.NODES 0, 0x10000)]; s.ringOn (0 / 2) = false ∧ s.lineUp 0 = true ∧ fld (s.rd (Reg.GZP.NODES 0)) 16 3 = 1 ∧ s.passes .sc (Reg.GZP.PROTO_CMD 0) ∧
      (s.gz 0).wait = []) ∧
    (let s := { lit .show_ [32] [(Reg.GZP.LINE_STATUS 0, 4), (Reg.GZP.NODES 0, 0x30002)] with gzNodes := [] }; s.ringOn (0 / 2) = false ∧ fld (s.rd (Reg.GZP.NODES 0)) 16 3 = 3 ∧ 1 < s.gzCount 0 ∧
      (s.gzNode 0 0).desc = none ∧ (s.gzNode 0 1).desc = none ∧ (s.gzNode 0 1).tries < 3) ∧
    (let s := { lit .show_ [32] [(Reg.GZP.LINE_STATUS 0, 4), (Reg.GZP.NODES 0, 0x51000)] with gzNodes := [(4095, { GzNode.init with tries := 2 })] }; s.ringOn (0 / 2) = false ∧ s.lineUp 0 = true ∧
      fld (s.rd (Reg.GZP.NODES 0)) 16 3 = 5 ∧ 4095 < s.gzCount 0 ∧ (s.gzNode 0 4095).tries = 2 ∧ (s.gzNode 0 0).tries < 2 ∧ s.pollPeriod 0 ≤ 60000 ∧ (s.gz 0).wait = [] ∧
      s.syncPeriod 0 ≤ 100000 ∧ s.gzDetect 0 ≤ 4 * 1000000 ∧ 0 < s.syncPeriod 0 ∧ 4 * 0 < s.gzDetect 0) ∧
    (let s := { lit .show_ [32] [(Reg.GZP.LINE_STATUS 0, 4), (Reg.GZP.NODES 0, 0x20001)] with gzPorts := [(0, { GzPort.init with ranged := 3 })] }; s.ringOn (0 / 2) = false ∧ s.lineUp 0 = true ∧
      fld (s.rd (Reg.GZP.NODES 0)) 16 3 = 2 ∧ 3 ≤ (s.gz 0).ranged ∧ 0 < s.gzCount 0 ∧ (s.gzNode 0 0).desc = none ∧ (s.gzNode 0 0).tries < 3) := by decide +kernel
theorem witness_ChainsEnumerateAndRun_frames : (gzRx []).frame = none ∧ ((gzRx (symbols descF)).frame.map (fun f => State.frameIs f 5 3 32)) = some true ∧
    ((gzRx (symbols statF)).frame.map (fun f => State.frameIs f 4 6 24)) = some true ∧ (gzRx ((symbols statF).dropLast)).frame = none := by decide +kernel
theorem witness_ChainsEnumerateAndRun_pix :
    let base := fun (m : Mode) => { lit m [32] [(Reg.GZP.LINE_STATUS 0, 4), (Reg.GZP.GATE_CFG 0, 0x320064), (Reg.GZP.NODES 0, 0x50007)] with tileQ := [(pairQueue 32 0, [til 3])], plan := pl, gzNodes := [(5, { GzNode.init with desc := some ([0, 0, 0, 0, 0, 0, 0, 0, 15, 0, 5, 0, 0, 0, 0, 0, 0, 0, 0, 8] ++ List.replicate 8 0) })], tbs := [(0, { TB.init with count := 6000 })] }
    (let s := base .show_; s.ringOn (0 / 2) = false ∧ s.lineUp 0 = true ∧ s.gzHeld 0 = false ∧ s.mode ≠ .hold ∧ s.gzDiscards 0 = 0 ∧
      s.nextPix 0 = some (0, 3, 5000, (til 3).tile.slots) ∧ s.nextStrike 0 = none ∧ (s.gz 0).retuneReady = false ∧
      (State.firstRun 0 (fun x => s.pixTakes 0 x.dest) (fun r => decide (s.pixNs 0 r < s.gateCycle 0 - s.gateCtrl 0)) none (til 3).tile.slots).1.any (fun r => decide (s.pixNs 0 r < s.dataLeft 0)) = true) ∧
    (let s := base .hold; s.ringOn (0 / 2) = false ∧ s.lineUp 0 = true ∧ s.nextPix 0 = some (0, 3, 5000, (til 3).tile.slots) ∧ s.mode = .hold ∧ s.frames.any (fun f => f.zone == 0 && f.k == 3) = false) := by
  decide +kernel
theorem witness_ChainsEnumerateAndRun_strike :
    let base := fun (ps : Word) => { lit .show_ [32] [(Reg.GZP.LINE_STATUS 0, 4), (Reg.GZP.GATE_CFG 0, 0x320064)] with portQ := [(32, [stk 3 ps])], plan := pl, tbs := [(0, { TB.init with count := 6000 })] }
    (let s := base 0x80000000; s.ringOn (0 / 2) = false ∧ s.lineUp 0 = true ∧ s.gzHeld 0 = false ∧ s.mode ≠ .hold ∧ s.gzDiscards 0 = 0 ∧
      s.nextStrike 0 = some (stk 3 0x80000000, 0x80000000 - 6000) ∧ (0x80000000 - 6000 : Word).toNat < 2 ^ 31 ∧ (s.gz 0).retuneReady = false ∧ s.symbolNs 0 (lineSymbols 24) < s.dataLeft 0 ∧
      s.frames.any (fun f => f.zone == 0 && f.k == 3) = false) ∧
    (let s := base 5999; s.ringOn (0 / 2) = false ∧ s.lineUp 0 = true ∧ s.nextStrike 0 = some (stk 3 5999, 0xFFFFFFFF) ∧ s.mode ≠ .hold ∧ s.gzDiscards 0 = 0 ∧
      2 ^ 31 ≤ (0xFFFFFFFF : Word).toNat ∧ s.frames.any (fun f => f.zone == 0 && f.k == 3) = false) := by decide +kernel
theorem witness_ChainsEnumerateAndRun_gate :
    (let r : GzReq := ⟨4, false, 0, [6, 0], 3000⟩; let s := { lit .show_ [32] [(Reg.GZP.LINE_STATUS 0, 4), (Reg.GZP.GATE_CFG 0, 0x320064)] with gzPorts := [(0, { GzPort.init with wait := [r] })] }
      s.ringOn (0 / 2) = false ∧ s.lineUp 0 = true ∧ (s.gz 0).wait = [r] ∧ r.type ≠ 1 ∧ r.type ≠ 2 ∧ r.type ≠ 3 ∧ s.gzFits 0 r) ∧
    (let s := lit .show_ [78, 79] []; s.passes .sc (Reg.GZR.RING_CTL 15) ∧ (s.blk (32 + 2 * 15)).enable = true) ∧
    (let s := blk 62 { Block.init with enable := false } (blk 63 { Block.init with enable := false } (lit .show_ [79] [])); s.passes .sc (Reg.GZR.RING_CTL 15) ∧ (s.blk (32 + 2 * 15)).enable = false ∧
      (s.blk (33 + 2 * 15)).enable = false) := by
  refine ⟨?_, ?_, ?_⟩ <;> decide +kernel
theorem witness_LocalPortsShowTheFrame :
    (∀ l ∈ [1, 2, 3], let s := { lit .show_ [95] [(Reg.DOM.LINE_STATUS 15, W l)] with doms := [(15, { DomPort.init with clean := 2 })] }; s.passes .sc (Reg.DOM.CMD 15) ∧ s.domSt 15 = l ∧ 2 ≤ (s.domP 15).clean) ∧
    (let s := { lit .show_ [80] [(Reg.DOM.LINE_STATUS 0, 2), (Reg.DOM.CHAIN_LEN 0, 2), (Reg.DOM.CFG 0, 0)] with portQ := [(80, [stk 3 5220])] }; s.localStrike (80 + 0) = some (stk 3 5220) ∧
      s.mode ≠ .hold ∧ s.localHeld (80 + 0) 0 = false ∧ ((s.domShiftNs 0 + 100 : Nat) : Int) ≤ ((5220 : Word) - (s.tb 0).count).toInt ∧ s.domSt 0 = 2 ∧ (s.domP 0).shift = none ∧ s.up (80 + 0) = true ∧
      bit (s.rd (Reg.DOM.CFG 0)) 4 = false ∧ ((5219 : Word) - (s.tb 0).count).toInt < ((s.domShiftNs 0 + 100 : Nat) : Int) ∧ s.frames = []) ∧
    (let s := { lit .show_ [80] [(Reg.DOM.LINE_STATUS 0, 2)] with doms := [(0, { DomPort.init with shift := some ⟨0, 3, 1, []⟩ })] }; (s.domP 0).shift = some ⟨0, 3, 1, []⟩ ∧ s.mode ≠ .hold ∧ s.domSt 0 = 2 ∧
      s.portHeld (80 + 0) = false) ∧
    (let s := { lit .show_ [99] [(Reg.DMX.LINE_STATUS 3, 1), (Reg.DMX.CFG 3, 2)] with portQ := [(99, [stk 3 0x7FFFFFFF])], dmxs := [(3, { DmxPort.init with slots := some [7] })] };
      s.localStrike (96 + 3) = some (stk 3 0x7FFFFFFF) ∧ s.dmxOut 3 = true ∧ s.mode ≠ .hold ∧ s.localHeld (96 + 3) 0 = false ∧
      (((s.dmxPacket 3 + 1) * 1000 : Nat) : Int) ≤ ((0x7FFFFFFF : Word) - (s.tb 0).count).toInt ∧ s.dmxSt 3 = 1 ∧ s.up (96 + 3) = true ∧ (s.dmxP 3).slots = some [7] ∧ bit (s.rd (Reg.DMX.CFG 3)) 1 = true) ∧
    (let s := lit .show_ [96] [(Reg.DMX.LINE_STATUS 0, 1), (Reg.DMX.CFG 0, 1)]; s.dmxOut 0 = false ∧ s.dmxSt 0 = 1 ∧ s.up (96 + 0) = true ∧ s.dmxSt 0 ≠ 0) ∧ (lit .hold [] []).mode = .hold := by
  refine ⟨?_, ?_, ?_, ?_, ?_, ?_⟩ <;> decide +kernel
theorem witness_RdmAndSiteIo :
    (let s := lit .show_ [99] [(Reg.DMX.CFG 3, 4)]; s.passes .sc (Reg.DMX.RDM_CMD 3) ∧ s.dmxOut 3 = true ∧ bit (s.rd (Reg.DMX.CFG 3)) 2 = true ∧ (s.dmxP 3).rdm = none) ∧
    (∀ k ∈ [1, 2], let s := { lit .show_ [99] [(Reg.DMX.CFG 3, 4)] with dmxs := [(3, { DmxPort.init with rdm := some k })] }; s.passes .sc (Reg.DMX.RDM_CMD 3) ∧ s.dmxOut 3 = true ∧
      bit (s.rd (Reg.DMX.CFG 3)) 2 = true ∧ (s.dmxP 3).rdm = some k) ∧
    (let s := lit .show_ [100] [(Reg.SIO.AIN_CFG 7, 2), (Reg.SIO.DIN_CFG, 0x50000000)]; s.up 100 = true ∧ fld (s.rd (Reg.SIO.AIN_CFG 7)) 0 2 = 2 ∧ bit (s.rd Reg.SIO.DIN_CFG) (4 * 7) = true ∧ s.mode ≠ .doze ∧
      s.dinEnabled 7 true = true ∧ s.dinEnabled 7 false = false ∧ s.ainMean 7 [] = none ∧ s.ainMean 7 [5] = some 5 ∧ (State.dinReads (bit (s.rd Reg.SIO.DIN_CFG) (4 * 7 + 1)) 20000 0).1 = some true ∧
      s.passes .sc Reg.SIO.ACT_GO ∧ (s.blk 100).hold = false ∧ s.passes .sc Reg.SIO.ACT_CLEAR) ∧
    (let s := blk 100 { Block.init with code := 2, hold := true } (lit .show_ [] []); s.passes .sc Reg.SIO.ACT_GO ∧ (s.blk 100).hold = true) ∧
    (let s := { lit .show_ [100] [] with actArm := [(8, 0, false)] }; s.actArm = [(8, 0, false)] ∧ (8 : Nat).testBit 3 = true ∧ serialGe (s.tb 0).count 0 = true ∧ (s.blk 100).hold = false ∧ s.mode ≠ .hold ∧
      s.mode ≠ .doze ∧ s.up 100 = true) := by decide +kernel
theorem witness_RdmAndSiteIo_read : (lit .show_ [99] []).reads .sc (Reg.DMX.UID_DATA_HI 3) := by unfold State.reads; decide +kernel

/-- A received frame: an ARP frame of 64 bytes with its FCS, to the station of a port whose address is 0, or to `dst`, with the tag `tag` and the type `ty`. -/
def efOf (dst : List Byte) (tag ty : List Byte) (n : Nat) : EthFrame :=
  ⟨dst ++ [1, 2, 3, 4, 5, 6] ++ tag ++ ty ++ List.replicate n 0, true, false⟩
def ef : EthFrame := efOf (List.replicate 6 0) [] [8, 6] 46

/-- A frame of a host, and one of a block. -/
def hostTx (q : Nat) (st : Option (BitVec 16)) : TxFrame := ⟨q, .host ef.bytes, st, 0⟩

theorem witness_EthernetPortsRun :
    (let s := lit .show_ [107] [(Reg.ETH.LINK_STATUS 3, 1), (Reg.ETH.CFG 3, 0x10)]; s.reach (104 + 3) = true ∧ s.code (104 + 3) ≠ 0 ∧ s.ethUp 3 = true ∧ ef.bytes.length + 4 = 64 ∧ ef.fcsOk = true ∧
      s.ethDest 3 (ethView ef.bytes).dest = some (0, 15) ∧ s.ethVid 3 = 0 ∧ (ethView ef.bytes).tagged = false ∧ s.ethClass 3 (ethView ef.bytes) ≠ none ∧
      s.ethDest 3 (ethView (efOf (List.replicate 6 255) [] [8, 6] 46).bytes).dest = none ∧ (ethView (efOf (List.replicate 6 0) [0x81, 0, 0, 5] [8, 6] 46).bytes).tagged = true ∧
      (ethView (efOf (List.replicate 6 0) [0x81, 0, 0, 5] [8, 6] 46).bytes).vid = 5 ∧ (efOf (List.replicate 6 0) [] [8, 6] 45).bytes.length + 4 < 64) ∧
    (let s := lit .show_ [104] [(Reg.ETH.LINK_STATUS 0, 1), (Reg.ETH.CFG 0, 0)]; s.ethUp 0 = true ∧ s.ethClass 0 (ethView (efOf (List.replicate 6 0) [] [9, 9] 46).bytes) = none) := by
  refine ⟨?_, ?_⟩ <;> decide +kernel
theorem witness_EthernetPortsRun_tx :
    (let s := { lit .show_ [104] [(Reg.ETH.LINK_STATUS 0, 1), (Reg.ETH.GATE_CTL 0, 0)] with eths := [(0, { EthPort.init with txq := [hostTx 7 (some 9)] })] }; s.ethUp 0 = true ∧ s.sfpTxOff 0 = false ∧
      (s.pq (16256 + 2 * 0)).items.any (fun i => itemEop i.item) = false ∧ (s.eth 0).free ≤ s.clock ∧ (s.eth 0).left = none ∧ (s.eth 0).txq = [hostTx 7 (some 9)] ∧ (hostTx 7 (some 9)).queue < 8 ∧
      bit (s.rd (Reg.ETH.PAUSE_STATE 0)) 7 = false ∧ s.gateFits 0 7 (State.lineNs 0 (hostTx 7 (some 9)).len) = true ∧ (s.eth 0).tsq.length < 16) ∧
    (let s := { lit .show_ [107] [(Reg.ETH.LINK_STATUS 3, 1), (Reg.ETH.PAUSE_STATE 3, 0x80)] with eths := [(3, { EthPort.init with txq := [hostTx 7 none] })] }; s.ethUp 3 = true ∧
      (s.pq (16256 + 2 * 3)).items.any (fun i => itemEop i.item) = false ∧ (s.eth 3).txq = [hostTx 7 none] ∧ bit (s.rd (Reg.ETH.PAUSE_STATE 3)) (hostTx 7 none).queue = true) := by
  refine ⟨?_, ?_⟩ <;> decide +kernel
theorem witness_EthernetPortsRun_rest :
    (let s := lit .show_ [105] [(Reg.ETH.SFP_STATUS 1, 9)]; s.proc 2 = 2 ∧ s.mode ≠ .doze ∧ s.reach (104 + 1) = true ∧ bit (s.rd (Reg.ETH.SFP_STATUS 1)) 0 = true ∧ bit (s.rd (Reg.ETH.SFP_STATUS 1)) 3 = true) ∧
    (let s := lit .show_ [105] [(Reg.ETH.ADMIN_CYCLE 1, 1000), (Reg.ETH.ADMIN_LEN 1, 64), (Reg.ETH.ADMIN_BASE 1, 0)]; s.passes .sc (Reg.ETH.GATE_CMD 1) ∧ 1000 ≤ (s.rd (Reg.ETH.ADMIN_CYCLE 1)).toNat ∧
      (s.rd (Reg.ETH.ADMIN_CYCLE 1)).toNat ≤ 1000000000 ∧ 1 ≤ (s.rd (Reg.ETH.ADMIN_LEN 1)).toNat ∧ (s.rd (Reg.ETH.ADMIN_LEN 1)).toNat ≤ 64 ∧
      serialLt (s.rd (Reg.ETH.ADMIN_BASE 1)) (s.tb 0).count = false) ∧
    (let s := lit .show_ [105] [(Reg.ETH.ADMIN_CYCLE 1, 999), (Reg.ETH.ADMIN_LEN 1, 65)]; s.passes .sc (Reg.ETH.GATE_CMD 1) ∧ (s.rd (Reg.ETH.ADMIN_CYCLE 1)).toNat < 1000 ∧ 64 < (s.rd (Reg.ETH.ADMIN_LEN 1)).toNat) ∧
    (lit .show_ [106] []).passes .sc (Reg.ETH.GATE_CMD 2) ∧
    (let s := { lit .show_ [105] [(Reg.ETH.OPER_LEN 1, 1)] with eths := [(1, { EthPort.init with pend := some ⟨0, 1000, [1]⟩ })] }; (s.eth 1).pend = some ⟨0, 1000, [1]⟩ ∧ serialLt (s.tb 0).count 0 = false ∧
      (s.rd (Reg.ETH.OPER_LEN 1)).toNat = 1) ∧
    (let s := { lit .show_ [107] [(Reg.ETH.PREEMPT_STATUS 3, 1)] with eths := [(3, { EthPort.init with verify := 2 })] }; fld (s.rd (Reg.ETH.PREEMPT_STATUS 3)) 0 2 = 1 ∧ 2 ≤ (s.eth 3).verify ∧
      0 < clampN 1 128 (fld (s.rd (Reg.ETH.PREEMPT_CFG 3)) 16 8) ∧ clampN 1 128 (fld (s.rd (Reg.ETH.PREEMPT_CFG 3)) 16 8) ≤ 128) ∧
    (let s := { lit .show_ [107] [(Reg.ETH.LINK_STATUS 3, 1), (Reg.ETH.PAUSE_STATE 3, 0x80), (Reg.ETH.PAUSE_CFG 3, 0x101)] with
        clock := 5000000000, eths := [(3, { EthPort.init with paused := [(7, 0, 1000), (6, 0, 6000000000)], txq := [hostTx 6 none] })] };
      s.ethUp 3 = true ∧ s.pauseObeys 3 7 = true ∧ (1 : BitVec 8).getLsbD 0 = true ∧ bit (s.rd (Reg.ETH.PAUSE_CFG 3)) (8 + 0) = true ∧ s.pauseObeys 3 (fld (s.rd (Reg.ETH.PFC_MAP 3)) (3 * 0) 3) = true ∧
      (s.eth 3).paused.any (fun p => p.1 == 7 && decide (p.2.2 ≤ s.clock)) = true ∧ (s.eth 3).paused.any (fun p => p.1 == 6 && decide (p.2.2 ≤ s.clock)) = false ∧
      s.pausedFor 3 0 < s.pauseLimit 3 ∧ s.pauseLimit 3 ≤ s.pausedFor 3 6) ∧
    (let s := lit .doze [107] [(Reg.ETH.LINK_STATUS 3, 1), (Reg.ETH.WAKE_CFG 3, 5), (Reg.SYS.WAKE_EN, 0x20)];
     let f := efOf (List.replicate 6 0) [] [8, 0x42] 0;
     let m : EthFrame := { f with bytes := f.bytes ++ List.replicate 6 255 ++ List.replicate 96 0 };
      s.mode = .doze ∧ s.up (104 + 3) = true ∧ s.linkUp 3 = true ∧ m.fcsOk = true ∧ s.wakeRules 3 m.bytes &&& fld (s.rd (Reg.ETH.WAKE_CFG 3)) 0 3 ≠ 0 ∧
      s.wakeRules 3 ef.bytes &&& fld (s.rd (Reg.ETH.WAKE_CFG 3)) 0 3 = 0 ∧ bit (s.rd Reg.SYS.WAKE_EN) (2 + 3) = true ∧ s.trans = none) := by
  refine ⟨?_, ?_, ?_, ?_, ?_, ?_, ?_, ?_⟩ <;> decide +kernel
theorem witness_EthernetPortsRun_read : (lit .show_ [107] []).reads .sc (Reg.ETH.TSQ_HI 3) := by unfold State.reads; decide +kernel

/-- A pool whose queues are all listed: all empty but queue 16256, for which HOST has posted one buffer of 1 byte. -/
def pool : List (Nat × QueueSt) := (List.range 16384).map (fun q => (q, { QueueSt.empty 1 0 2 with fetch := if q = 16256 then [0x1800010000000000] else [] }))

/-- A pool in which one queue holds what `x` says. -/
def poolOne (q : Nat) (x : QueueSt) : State := { lit .show_ [26] [] with poolq := [(q, x)] }

theorem get_map_range {α : Type} (d f : Nat → α) : ∀ (l : List Nat) (q : Nat), q ∈ l → Sparse.get d (l.map (fun q => (q, f q))) q = f q
  | [], _, h => by simp at h
  | a :: l, q, h => by
    by_cases e : q = a
    · subst e; simp [Sparse.get]
    · simp only [List.map_cons, Sparse.get, e, if_false]
      exact get_map_range d f l q (by simpa [e] using h)
theorem foldl_zero {α : Type} (f : α → Nat) : ∀ l : List α, (∀ x ∈ l, f x = 0) → l.foldl (fun a x => a + f x) 0 = 0
  | [], _ => rfl
  | x :: l, h => by
    simp only [List.foldl_cons, h x (by simp), Nat.add_zero]
    exact foldl_zero f l (fun y hy => h y (by simp [hy]))
theorem pool_reserved : ({ lit .show_ [26] [] with poolq := pool } : State).reserved = 0 := by
  unfold State.reserved
  apply foldl_zero
  intro q hq
  unfold State.pq pool
  rw [get_map_range poolInit _ _ q hq]
  simp [QueueSt.empty]
theorem free_of (p : List (Nat × QueueSt)) (h : p.foldl (fun a e => a + e.2.cells) 0 = 0) :
    ({ lit .show_ [26] [] with poolq := p } : State).poolFree = 8388608 - ((lit .show_ [26] []).rd Reg.QM.RETIRED).toNat := by
  have e : (lit .show_ [26] []).tileQ = [] := rfl
  unfold State.poolFree
  simp only [h, e, List.foldl_nil, Nat.sub_zero]
  rfl
theorem pool_free : ({ lit .show_ [26] [] with poolq := pool } : State).poolFree = 8388608 - ((lit .show_ [26] []).rd Reg.QM.RETIRED).toNat := by
  apply free_of
  apply foldl_zero
  intro e he
  obtain ⟨q, -, rfl⟩ := List.mem_map.mp he
  simp [QueueSt.empty, QueueSt.cells, QueueSt.links]
theorem witness_QueuesRun_fetch :
    let s := { lit .show_ [26] [] with poolq := pool }
    s.qmUp = true ∧ hostProduces 16256 = true ∧ (s.pq 16256).fetch = [0x1800010000000000] ∧ bufBytes 0x1800010000000000 = 1 ∧
      (s.pq 16256).cells + State.cellsFor (s.pq 16256) ((bufBytes 0x1800010000000000 + 255) / 256) ≤ (s.pq 16256).max ∧
      s.reserved + State.cellsFor (s.pq 16256) ((bufBytes 0x1800010000000000 + 255) / 256) ≤ s.poolFree := by
  have h : (Sparse.get poolInit pool 16256) = { QueueSt.empty 1 0 2 with fetch := [0x1800010000000000] } := by
    unfold pool
    rw [get_map_range poolInit _ _ 16256 (List.mem_range.mpr (by decide))]
    simp only [if_true]
  intro s
  have hq : s.pq 16256 = { QueueSt.empty 1 0 2 with fetch := [0x1800010000000000] } := by unfold State.pq; simpa only [s] using h
  rw [hq, show s.reserved = 0 from pool_reserved, show s.poolFree = _ from pool_free]
  decide +kernel
/-- Every block READY. -/
def allOn : State := { lit .show_ [] [] with blocks := (List.range 256).map (fun p => (p, { Block.init with code := 2 })) }

theorem allOn_grants : ∀ p : Fin 256, allOn.grants p = true := by decide +kernel
theorem allOn_onDie (q : Fin 256) (l : List (Nat × QueueSt)) : ({ allOn with odq := l } : State).consumes (.onDie q) = true := by
  have h : allOn.qmUp = true := by decide +kernel
  show (allOn.qmUp && allOn.grants (Config.onDie q.val).2.val) = true
  rw [h, allOn_grants]; rfl
theorem allOn_pool (q : Fin 16384) (l : List (Nat × QueueSt)) (hq : q.val = 16383) : ({ allOn with poolq := l } : State).consumes (.pool q) = true := by
  have h : allOn.qmUp = true := by decide +kernel
  show (allOn.qmUp && (State.queueConsumer q.val).all allOn.grants) = true
  rw [h, Bool.true_and, hq, show State.queueConsumer 16383 = none from by decide +kernel]
  rfl
theorem witness_QueuesRun_items : let e := QueueSt.empty 4 1 4; let x : QItem := ⟨0x0800000000000000, [7], false⟩
    (let s := { allOn with odq := [(255, { e with items := [x] })] }; s.consumes (.onDie 255) = true ∧ blockItem 0x0800000000000000 = true ∧ (s.oq 255).cut = false ∧ (s.oq 255).items.length < (s.oq 255).depth ∧
      (s.oq 255).items = x :: [] ∧ (s.oq 255).abort = false ∧ (s.oq 255).flush = false ∧ (s.oq 255).idle = false) ∧
    (let s := { allOn with odq := [(0, e)] }; s.consumes (.onDie 0) = true ∧ (s.oq 0).items = [] ∧ (s.oq 0).abort = false) ∧
    (let s := { allOn with poolq := [(16383, { e with items := [x] })] }; s.consumes (.pool 16383) = true ∧ hostConsumes 16383 = false ∧ (s.pq 16383).items = x :: [] ∧ (s.pq 16383).abort = false ∧
      (s.pq 16383).flush = false ∧ (s.pq 16383).idle = false) ∧ State.reset.consumes (.pool 0) = false := by
  intro e x
  refine ⟨⟨allOn_onDie _ _, ?_⟩, ⟨allOn_onDie _ _, ?_⟩, ⟨allOn_pool _ _ rfl, ?_⟩, ?_⟩
  · decide +kernel
  · decide +kernel
  · decide +kernel
  show (State.reset.qmUp && _) = false
  rw [show State.reset.qmUp = false from by decide +kernel]; rfl
theorem witness_QueuesRun :
    let e := QueueSt.empty 4 1 4
    let x : QItem := ⟨0x0800000000000000, [7], false⟩
    (let s := poolOne 16383 { e with items := [x], flush := false }; s.qmUp = true ∧ s.passes .sc Reg.QM.Q_CMD ∧ hostQueue 16383 = true ∧ hostQueue 16255 = false ∧ s.scrubPeriod ≤ 100000000 ∧ 0 < s.scrubPeriod) ∧
    (poolOne 5 e).allocMay 5 = true ∧ (poolOne 5 { e with min := 0, max := 0 }).allocMay 5 = false ∧ ((poolOne 5 { e with flush := true }).pq 5).flush = true ∧
    ({ lit .show_ [26] [] with cellBad := [8388607] } : State).cellBad.contains 8388607 = true ∧
    (let s := poolOne 16264 { e with max := 0, fetch := [0x1800010000000000] }; s.qmUp = true ∧ hostProduces 16264 = true ∧ (s.pq 16264).fetch = [0x1800010000000000] ∧
      (s.pq 16264).max < (s.pq 16264).cells + State.cellsFor (s.pq 16264) ((bufBytes 0x1800010000000000 + 255) / 256)) ∧
    (let s := { lit .show_ [26, 107] [(Reg.QM.HR_EN 3, 1)] with poolq := [(16263, { e with posted := [0x1800010000000000], items := [x] })] }; s.qmUp = true ∧ bit (s.rd (Reg.QM.HR_EN 3)) 0 = true ∧
      (s.pq (16257 + 2 * 3)).posted = 0x1800010000000000 :: [] ∧ (s.pq (16257 + 2 * 3)).items = [x] ∧ itemEop x.item = true ∧ itemType x.item = 0 ∧ (s.pq (16257 + 2 * 3)).used = 0 ∧
      (s.pq (16257 + 2 * 3)).abort = false ∧ (s.pq (16257 + 2 * 3)).flush = false ∧ x.data.length ≤ bufBytes 0x1800010000000000 ∧ (s.eth 3).rxHold = []) := by
  refine ⟨?_, ?_, ?_, ?_, ?_, ?_, ?_⟩ <;> decide +kernel
theorem witness_DoorbellsAndMerge :
    (let s := { lit .show_ [3, 26] [] with poolq := [(16257, QueueSt.empty 1 0 1)] }; s.hostUp = true ∧ s.mode ≠ .doze ∧ descValid 0x1800010000000000 = true ∧ hostConsumes 16257 = true ∧
      itemType 0x1800010000000000 = 1 ∧ queueCredits 16257 (s.pq 16257) ≠ 0 ∧ s.qmUp = true ∧ hostProduces 0 = false ∧ hostConsumes 0 = false) ∧
    (let s := { lit .show_ [21, 108] [(Reg.VIN.S_CTL 7, 5), (Reg.EDUP.S_PATH 7, 1)] with edups := [(7, { EdupSt.init with high := some 5, done := [(5, 0)] })] }; s.up 108 = true ∧
      bit (s.rd (Reg.VIN.S_CTL 7)) 0 = true ∧ fld (s.rd (Reg.VIN.S_CTL 7)) 1 2 = 2 ∧ bit (s.rd (Reg.EDUP.S_PATH 7)) 0 = true ∧ (s.edup 7).high = some 5 ∧ serialLt 5 5 = false ∧
      (s.edup 7).done.any (fun d => d.1 == 5) = true) ∧
    (let s := lit .show_ [21, 108] [(Reg.VIN.S_CTL 0, 5), (Reg.EDUP.SKEW_WIN, 100)]; s.up 108 = true ∧ bit (s.rd (Reg.VIN.S_CTL 0)) 0 = true ∧ fld (s.rd (Reg.VIN.S_CTL 0)) 1 2 = 2 ∧ (s.edup 0).high = none ∧
      s.skewWin / 1000 < 2 * (51 : Int).natAbs ∧ (s.edup 0).skewHigh = false) := by decide +kernel

/-- A child whose next transmission is a train. -/
def kid : Child :=
  { ext := 0x1122, fleet := 5, sample := 1000, sup := 0, seed := 0, anchor := 0, map := 1, newMap := none, mapAt := none, mapAck := false, meas := [(2, 0), (1, 0)], measAt := 1000000000000000000,
    heardAt := 0, q := [[1]], fly := 0, sched := false, failed := true, falls := 0 }

/-- A coordinator with child 1023, whose next beacon was due long ago. -/
def coord (c : Child) (regs : List (Nat × Word)) : State :=
  { lit .show_ [28, 112, 113] regs with children := [(1023, some c)], radio := { Radio.init with next := -1000000000000000 } }

/-- 2.4 GHz, no duty limit, G_max 10 ms. -/
def rr : List (Nat × Word) := [(Reg.RFE.BAND_CFG, 0x81), (Reg.RFE.DUTY_LIMIT, 0), (Reg.RAD.GUARD_CFG, 100)]

theorem beaconAir_bound (c : Child) : (coord c rr).radio.next + (coord c rr).beaconAir ≤ (coord c rr).radNow := by
  have h := (Config.macOctets (byteAt (List.replicate 24 1) 0)).isLt
  have a : (coord c rr).phyOctets (coord c rr).radPreamble = 6 := by
    show (coord kid rr).phyOctets (coord kid rr).radPreamble = 6
    decide +kernel
  have b : (coord c rr).radRate = 250 := by
    show (coord kid rr).radRate = 250
    decide +kernel
  have n : (coord c rr).radNow = 0 := by
    show (coord kid rr).radNow = 0
    decide +kernel
  have m : (coord c rr).radio.next = -1000000000000000 := rfl
  rw [n, m]
  simp only [State.beaconAir, State.frameNs, State.octetNs, a, b, List.length_replicate]
  omega
theorem kid_air (c : Child) (regs : List (Nat × Word)) (hq : c.q = [[1]]) (hf : c.fly = 0) : ∃ ns, (coord c regs).childAir 1023 = some ns := by
  have h : (coord c regs).child 1023 = some c := rfl
  simp only [State.childAir, h, hq, hf]
  exact ⟨_, rfl⟩
theorem kid_near : (coord { kid with failed := false } rr).trainDue { kid with failed := false } = false := by
  have h : (driftFit { kid with failed := false }).map (fun f => (f.1, f.2.1)) = some (0, 0) := by decide +kernel
  obtain ⟨f, hf, e⟩ := Option.map_eq_some_iff.mp h
  have ht : predict { kid with failed := false } (eventAt { kid with failed := false } ((coord { kid with failed := false } rr).radNow : Int) + 1) <
      (({ kid with failed := false } : Child).measAt : Rat) := by decide +kernel
  simp only [State.trainDue, State.guardU, hf, if_pos ht, Rat.mul_zero, Rat.add_zero]
  decide +kernel
theorem witness_RadioServesItsChildren_train : ∃ ns, (coord kid rr).child 1023 = some kid ∧ (coord kid rr).childAir 1023 = some ns ∧ (coord kid rr).rpUp = true ∧ (coord kid rr).isReady 113 = true ∧
    (coord kid rr).trainDue kid = true ∧ (coord kid rr).radio.next + (coord kid rr).beaconAir ≤ (coord kid rr).radNow ∧ (coord kid rr).dutyFits ns = true := by
  obtain ⟨ns, h⟩ := kid_air kid rr rfl rfl
  refine ⟨ns, rfl, h, by decide +kernel, by decide +kernel, by decide +kernel, beaconAir_bound kid, ?_⟩
  have d : fld ((coord kid rr).rd Reg.RFE.DUTY_LIMIT) 0 14 = 0 := by decide +kernel
  simp [State.dutyFits, d]
theorem witness_RadioServesItsChildren_near : let c := { kid with failed := false }
    ∃ ns, (coord c rr).child 1023 = some c ∧ (coord c rr).childAir 1023 = some ns ∧ (coord c rr).rpUp = true ∧ (coord c rr).isReady 113 = true ∧
      (coord c rr).trainDue c = false ∧ (coord c rr).radio.next + (coord c rr).beaconAir ≤ (coord c rr).radNow ∧ (coord c rr).dutyFits ns = true := by
  intro c
  obtain ⟨ns, h⟩ := kid_air c rr rfl rfl
  refine ⟨ns, rfl, h, by decide +kernel, by decide +kernel, kid_near, beaconAir_bound c, ?_⟩
  have d : fld ((coord kid rr).rd Reg.RFE.DUTY_LIMIT) 0 14 = 0 := by decide +kernel
  have e : fld ((coord c rr).rd Reg.RFE.DUTY_LIMIT) 0 14 = 0 := d
  simp [State.dutyFits, e]
theorem witness_RadioServesItsChildren_wait : ∃ ns, let s := { coord kid rr with radio := { Radio.init with next := -1000000000000000, waits := [1023] } }
    s.radio.waits = 1023 :: [] ∧ s.childAir 1023 = some ns ∧ s.rpUp = true ∧ s.isReady 113 = true ∧ s.dutyFits ns = true := by
  refine ⟨_, rfl, rfl, by decide +kernel, by decide +kernel, ?_⟩
  have d : fld ((coord kid rr).rd Reg.RFE.DUTY_LIMIT) 0 14 = 0 := by decide +kernel
  unfold State.dutyFits
  rw [show fld (State.rd { coord kid rr with radio := { Radio.init with next := -1000000000000000, waits := [1023] } } Reg.RFE.DUTY_LIMIT) 0 14 = 0 from d]
  rfl
theorem witness_RadioServesItsChildren :
    (let s := lit .show_ [112, 113] [(Reg.RAD.NET_CFG, 0x10000)]; s.up 112 = true ∧ bit (s.rd Reg.RAD.NET_CFG) 16 = true ∧ s.radio.unlocked = false ∧ s.isReady 113 = true ∧ s.proc 3 = 2 ∧ s.radio.bcast = []) ∧
    (let s := lit .show_ [112] [(Reg.RAD.NET_CFG, 0x10000), (Reg.RAD.JOIN_CFG, 0)]; s.up 112 = true ∧ bit (s.rd Reg.RAD.NET_CFG) 16 = true ∧ s.isReady 113 = false ∧ bit (s.rd Reg.RAD.JOIN_CFG) 0 = false) ∧
    (let s := { lit .show_ [28, 112, 113] [(Reg.RAD.NET_CFG, 0x10000), (Reg.RAD.JOIN_CFG, 1)] with registry := [(320, 7), (322, 0x1122)] }; s.up 112 = true ∧ s.isReady 113 = true ∧
      bit (s.rd Reg.RAD.NET_CFG) 16 = true ∧ bit (s.rd Reg.RAD.JOIN_CFG) 0 = true ∧ s.fpUp = true ∧ s.childRecord 0x1122 = some 5 ∧
      s.children.find? (fun x => match x.2 with | some c => c.ext == 0x1122 | none => false) = none ∧ s.child 0 = none ∧ 100 ≤ (100 : BitVec 16).toNat ∧ (10000 : BitVec 16).toNat ≤ 10000) ∧
    (let s := coord { kid with fly := 1 } []; s.up 112 = true ∧ s.child 1023 = some { kid with fly := 1 } ∧ kid.fly + 1 ≠ 0 ∧ s.isReady 113 = true ∧ s.mode ≠ .doze ∧ s.child 0 = none ∧ s.rpUp = true) ∧
    (let s := lit .show_ [112] [(Reg.RAD.CHMAP_LO, 0), (Reg.RAD.CHMAP_HI, 0), (Reg.RFE.SPACING, 0x100000)]; s.passes .sc Reg.RAD.CHMAP_LO ∧ s.mapRefused 1 (s.rd Reg.RAD.CHMAP_HI) = false ∧
      1 ≠ s.rd Reg.RAD.CHMAP_LO ∧ s.mapRefused 0xFFFF0000 (s.rd Reg.RAD.CHMAP_HI) = true) ∧
    (let c := { kid with newMap := some 3, mapAt := some 8 }; (coord c []).child 1023 = some c ∧ c.newMap = some 3 ∧ c.mapAt = some 8) ∧
    (let s := blk 113 { Block.init with enable := false } (lit .show_ [] [(Reg.RFE.BAND_CFG, 0), (Reg.RFE.SPACING, 0x1000C8)]); s.passes .sc Reg.RFE.CH0 ∧ (s.blk 113).enable = false ∧
      State.bandOk (s.rd Reg.RFE.BAND_CFG) (863000 &&& 0x3FFFFF) (s.rd Reg.RFE.SPACING) = true) ∧
    (let s := lit .show_ [113] [(Reg.RFE.CH0, 863000)]; s.passes .sc Reg.RFE.CH0 ∧ (s.blk 113).enable = true ∧ 868000 &&& 0x3FFFFF ≠ s.rd Reg.RFE.CH0 ∧ s.up 113 = true) ∧
    (let s := { lit .show_ [112] [] with radio := { Radio.init with waits := [0] } }; s.radio.waits = 0 :: [] ∧ s.childAir 0 = none ∧ s.passes .sc Reg.RAD.CHILD_SEL) := by
  refine ⟨?_, ?_, ?_, ?_, ?_, ?_, ?_, ?_, ?_⟩ <;> decide +kernel
/-- The head of a frame of the network 0x1234. -/
def hd (ty b : Nat) : RadHead := { version := 2, secured := false, pan := 0x1234, dst := .short 0xFFFF, type := BitVec.ofNat 8 ty, bytes := b, rssi := 0x80 }

theorem witness_RadioServesItsChildren_heard :
    (let s := { lit .show_ [28, 112, 113] [(Reg.RAD.NET_CFG, 0x11234), (Reg.RFE.CCA_CFG, 0xB5)] with
        children := [(1023, some kid)], radio := { Radio.init with joinOpen := true }, registry := [(320, 7), (322, 0x1122)] };
      s.radHears (s.radStamp 0) = true ∧ s.radMatch none (hd 4 3) = true ∧ (hd 4 3).type.toNat = 4 ∧ (hd 4 3).bytes = 3 ∧ s.radMatch none { hd 4 3 with version := 1 } = false ∧
      bit (s.rd Reg.RAD.NET_CFG) 16 = true ∧ s.radio.joinOpen = true ∧ s.fpUp = true ∧ s.childRecord 0x1122 = some 5 ∧ s.child 0 = none ∧
      s.radMatch (some 1023) (hd 9 9) = true ∧ s.child 1023 = some kid ∧ s.radMatch (some 0) (hd 9 9) = true ∧ s.radMatch (some 0) { hd 9 9 with version := 1 } = false ∧
      s.ccaBusy 0x10 ≠ s.ccaBusy 0x80 ∧ s.rpUp = true ∧ 100 * kid.sup ≤ 5 ∧ s.radMatch (some 1023) (hd 2 73) = true) ∧
    (let s := lit .show_ [28, 112, 113] [(Reg.RAD.NET_CFG, 0x1234)]; s.radHears (s.radStamp 0) = true ∧ s.radMatch none (hd 4 3) = true ∧ bit (s.rd Reg.RAD.NET_CFG) 16 = false ∧ s.radio.joinOpen = false) ∧
    State.reset.radHears (State.reset.radStamp 0) = false ∧
    (let s := { lit .show_ [112] [] with children := [(0, some { kid with sup := 10 })] }; s.child 0 = some { kid with sup := 10 } ∧ 999 < 100 * 10) := by
  refine ⟨?_, ?_, ?_, ?_⟩ <;> decide +kernel
theorem witness_MemberJoinsAndFollows_heard :
    (∀ m ∈ [1, 2, 3, 4], let s := lit .show_ [112, 113] [(Reg.RAD.MEMBER_STATUS, W m), (Reg.RAD.MEMBER_CFG, 0x51234), (Reg.RAD.NET_CFG, 0x21234)];
      s.radHears (s.radStamp 0) = true ∧ s.rpUp = true ∧ s.memberSt = m ∧ s.radMatch none (hd 5 20) = true ∧ (hd 5 20).bytes = 20 ∧ (hd 5 20).type = 5 ∧ (hd 1 24).type = 1 ∧ (hd 1 24).bytes = 24 ∧
      (hd 1 24).version = 2 ∧ (hd 1 24).secured = false ∧ ({ hd 1 24 with dst := .absent } : RadHead).dst = .absent ∧ s.beaconNs / 1000000 + 10 ≤ 100000 ∧ 0 < s.beaconNs / 1000000 + 10 ∧
      100 * clampN 1 6000 (fld (s.rd Reg.RAD.MEMBER_CFG) 16 16) ≤ 100000) ∧
    (State.reset).radHears (State.reset.radStamp 0) = false := by decide +kernel
theorem witness_MemberJoinsAndFollows :
    (∀ m ∈ [0, 1, 2, 3, 4], let s := lit .show_ [112] [(Reg.RAD.MEMBER_STATUS, W m), (Reg.RAD.MEMBER_CFG, 0x1234)]; s.passes .sc Reg.RAD.NET_CFG ∧ s.up 112 = true ∧ s.memberSt = m ∧ s.rpUp = true ∧
      (0x1234 : BitVec 16).toNat = fld (s.rd Reg.RAD.MEMBER_CFG) 0 16 ∧ (0x1235 : BitVec 16).toNat ≠ fld (s.rd Reg.RAD.MEMBER_CFG) 0 16) ∧
    (let s : State := { lit .show_ [112] [(Reg.RAD.MEMBER_STATUS, 0x203), (Reg.RAD.MEMBER_CFG, 0x1234)] with member := { Member.init with win := 2000, interval := 1 } }
     let b : Int := s.member.beaconAt + (s.member.interval * 1000000 : Nat)
     s.memberSt = 3 ∧ b - (s.member.win * 500 : Nat) ≤ s.radStamp 1999999 ∧ s.radStamp 1999999 < b + (s.member.win * 500 : Nat) ∧ b + (s.member.win * 500 : Nat) ≤ s.radStamp 2000000 ∧
      s.radStamp 0xFFFFFFFF < b - (s.member.win * 500 : Nat) ∧ 2 ≤ fld (s.rd Reg.RAD.MEMBER_STATUS) 8 8) := by decide +kernel

/-- A fleet engine at work under the key of slot 5, which knows fixture 5. -/
def fleetSt (m : Mode) (regs : List (Nat × Word)) : State :=
  { lit m [28, 29, 112, 113] ([(Reg.FLT.KEY_CFG, 0x505), (Reg.FLT.HOST_CFG, 1), (Reg.FLT.HOST_ADDR 0, 7), (Reg.FLT.NET_CFG, 0x1F900001), (Reg.SCH.CFG, 1), (Reg.RAD.NET_CFG, 0x11234)] ++ regs) with
    slots := [(5, { KeySlot.init with state := 1, origin := 2, attr := 0x100002, key := [1, 2, 3] })],
    registry := [(320, 7)] }

/-- A record of fixture 5. -/
def rec5 (body : List Byte) : FleetRec := { flags := 0, id := 5, key := 0, rsv := 0, seq := 9, body := body, tag := [] }

/-- The record with the TAG of a key. -/
def signed (key : List Byte) (type : Nat) (r : FleetRec) : FleetRec := { r with tag := fitBytes 12 (State.fleetTag key ((recBytes type r).take 52)) }

theorem fitBytes_length (n : Nat) (l : List Byte) : (fitBytes n l).length = n := by simp [fitBytes]
theorem leBytes_length (n v : Nat) : (leBytes n v).length = n := by simp [leBytes]
theorem recBytes_signed (key : List Byte) (type : Nat) (r : FleetRec) : (recBytes type (signed key type r)).take 52 = (recBytes type r).take 52 := by
  have h : ∀ x : FleetRec, (recBytes type x).take 52 =
      leBytes 1 type ++ leBytes 1 x.flags.toNat ++ leBytes 3 x.id.toNat ++ leBytes 1 x.key.toNat ++ leBytes 2 x.rsv.toNat ++ leBytes 4 x.seq.toNat ++ fitBytes 40 x.body := by
    intro x
    unfold recBytes
    rw [List.take_append_of_le_length (by simp [leBytes_length, fitBytes_length])]
    exact List.take_of_length_le (by simp [leBytes_length, fitBytes_length])
  rw [h, h]; rfl
theorem sha256_length (m : List Byte) : (Crypto.sha256 m).length = 32 := by simp [Crypto.sha256, beBytes, leBytes_length]
theorem fitBytes_self (n : Nat) (l : List Byte) (h : l.length = n) : fitBytes n l = l := by simp [fitBytes, h]
theorem tagOk_signed (s : State) (key : List Byte) (type : Nat) (r : FleetRec) (hk : s.fleetKey (r.key == 1) = some key) : s.tagOk type (signed key type r) := by
  refine ⟨key, hk, ?_⟩
  rw [recBytes_signed]
  show State.fleetTag key _ = fitBytes 12 (fitBytes 12 (State.fleetTag key _))
  have l : (State.fleetTag key ((recBytes type r).take 52)).length = 12 := by simp [State.fleetTag, Crypto.hmac, sha256_length]
  rw [fitBytes_self 12 _ l, fitBytes_self 12 _ l]
theorem accepts_signed (s : State) (key : List Byte) (type : Nat) (via : FleetVia) (r : FleetRec) (hk : s.fleetKey (r.key == 1) = some key)
    (h : s.fpUp = true ∧ r.key.toNat < 2 ∧ (s.lastSeq via r).toNat < r.seq.toNat ∧ s.recSender type via r = true) : s.accepts type via (signed key type r) :=
  ⟨h.1, h.2.1, tagOk_signed s key type r hk, h.2.2.1, h.2.2.2⟩

/-- A datagram from `src` with one record. -/
def dg (src : BitVec 128) : FleetPath := .udp { eth := 0, v6 := false, src := src, port := 0x1F90, head := [0x50, 0x46, 0x52, 1, 1, 0, 0, 0], records := 1 }

theorem witness_FleetRecordsAreChecked_paths : let s := fleetSt .show_ []
    s.pathSender .gyzor = some .node ∧ s.pathSender (dg 7) = some .hostClient ∧ s.pathSender (dg 8) = none ∧ s.recSender 2 .node { rec5 [] with id := 6 } = false ∧
      s.tagOk 2 (signed [1, 2, 3] 2 { rec5 [] with id := 6 }) ∧ (s.lastSeq .node { rec5 [] with id := 6 }).toNat < ({ rec5 [] with id := 6 } : FleetRec).seq.toNat :=
  ⟨by decide +kernel, by decide +kernel, by decide +kernel, by decide +kernel, tagOk_signed _ _ _ _ (by decide +kernel), by decide +kernel⟩
theorem witness_FleetRecordsAreChecked_refusals :
    (lit .show_ [] []).fpUp = false ∧ (∀ t, ¬ (lit .show_ [28] [(Reg.FLT.KEY_CFG, 0)]).tagOk t (rec5 [])) ∧
    (let s := lit .show_ [28] [(Reg.FLT.KEY_CFG, 0)]; s.fpUp = true ∧ 2 ≤ (2 : Byte).toNat ∧ (rec5 []).key.toNat < 2) := by
  refine ⟨by decide +kernel, ?_, by decide +kernel⟩
  rintro t ⟨k, h, -⟩
  revert h
  show (lit .show_ [28] [(Reg.FLT.KEY_CFG, 0)]).fleetKey ((rec5 []).key == 1) = some k → False
  rw [show (lit .show_ [28] [(Reg.FLT.KEY_CFG, 0)]).fleetKey ((rec5 []).key == 1) = none by decide +kernel]
  simp
theorem witness_FleetRecordsAreChecked_replay : let s := fleetSt .show_ [(Reg.FLT.HOST_SEQ, 9)]
    s.tagOk 7 (signed [1, 2, 3] 7 (rec5 [])) ∧ (rec5 []).seq.toNat ≤ (s.lastSeq .hostClient (rec5 [])).toNat :=
  ⟨tagOk_signed _ _ _ _ (by decide +kernel), by decide +kernel⟩
theorem witness_FleetRecordsAreChecked_nodes :
    let s := fleetSt .show_ []
    let c := { fleetSt .show_ [] with images := [(0, { NodeImg.init with state := 4 })], camp := { Campaign.init with targets := [5] } }
    let p := { fleetSt .show_ [] with rules := [(0, 1), (1, 5), (3, 60)] }
    s.accepts 2 .node (signed [1, 2, 3] 2 (rec5 [])) ∧ s.accepts 6 .node (signed [1, 2, 3] 6 (rec5 [15])) ∧
    (p.accepts 5 .node (signed [1, 2, 3] 5 (rec5 [])) ∧ p.triggered 0 5 = [0] ∧ p.schRuns = true ∧ bit (p.rulew 0 0) 3 = false) ∧
    (c.accepts 9 .node (signed [1, 2, 3] 9 (rec5 [0, 0, 1])) ∧ c.accepts 10 .node (signed [1, 2, 3] 10 (rec5 [])) ∧ c.mode ≠ .hold ∧ (c.img c.camp.image).state = 4 ∧ byteAt (rec5 []).body 0 = c.camp.image ∧
      c.campLeft.contains 5 = true ∧ c.imgQueue = []) ∧
    (let k := { fleetSt .show_ [] with children := [(1023, some { kid with failed := false })] }; k.radHears (k.radStamp 0) = true ∧ k.radMatch (some 1023) (hd 2 73) = true ∧ (hd 2 73).type = 2 ∧ (hd 2 73).bytes = 73 ∧ k.mode ≠ .doze ∧ k.child 1023 = some { kid with failed := false } ∧
      k.accepts (2 : Byte).toNat .node (signed [1, 2, 3] 2 (rec5 []))) :=
  ⟨accepts_signed _ _ _ _ _ (by decide +kernel) (by decide +kernel), accepts_signed _ _ _ _ _ (by decide +kernel) (by decide +kernel),
   ⟨accepts_signed _ _ _ _ _ (by decide +kernel) (by decide +kernel), by decide +kernel⟩,
   ⟨accepts_signed _ _ _ _ _ (by decide +kernel) (by decide +kernel), accepts_signed _ _ _ _ _ (by decide +kernel) (by decide +kernel), by decide +kernel⟩,
   by decide +kernel, by decide +kernel, by decide +kernel, by decide +kernel, by decide +kernel, by decide +kernel, accepts_signed _ _ _ _ _ (by decide +kernel) (by decide +kernel)⟩
theorem witness_FleetRecordsAreChecked_host :
    let s := fleetSt .show_ []
    let c := { fleetSt .show_ [] with images := [(31, { NodeImg.init with state := 1, size := 33, chunks := [(0, [1]), (1, [2])] })] }
    (s.accepts 7 .hostClient (signed [1, 2, 3] 7 (rec5 [31, 0, 0, 0, 0, 0, 0, 0, 0, 0, 128])) ∧ s.mode ≠ .hold ∧ leAt (fitBytes 40 [31, 0, 0, 0, 0, 0, 0, 0, 0, 0, 128]) 8 4 = 8388608 ∧ (s.img 31).state ≠ 4) ∧
    (c.accepts 8 .hostClient (signed [1, 2, 3] 8 (rec5 [31, 1])) ∧ c.accepts 20 .hostClient (signed [1, 2, 3] 20 (rec5 [31])) ∧ c.mode ≠ .hold ∧ (c.img 31).state = 1 ∧ 32 * 1 < (c.img 31).size ∧
      ∀ k, k < ((c.img 31).size + 31) / 32 → Sparse.get (fun _ => []) (c.img 31).chunks k ≠ []) ∧
    (s.accepts 16 .hostClient (signed [1, 2, 3] 16 (rec5 [7])) ∧ s.accepts 16 .hostClient (signed [1, 2, 3] 16 (rec5 []))) :=
  ⟨⟨accepts_signed _ _ _ _ _ (by decide +kernel) (by decide +kernel), by decide +kernel⟩,
   ⟨accepts_signed _ _ _ _ _ (by decide +kernel) (by decide +kernel), accepts_signed _ _ _ _ _ (by decide +kernel) (by decide +kernel), by decide +kernel⟩,
   accepts_signed _ _ _ _ _ (by decide +kernel) (by decide +kernel), accepts_signed _ _ _ _ _ (by decide +kernel) (by decide +kernel)⟩
theorem witness_FleetRecordsAreChecked_commits :
    let g := { fleetSt .show_ [] with stageReg := [(5, [7])] }
    let n := { fleetSt .show_ [] with stageReg := [(5, [0xE])] }
    let s := fleetSt .show_ []
    (g.accepts 17 .hostClient (signed [1, 2, 3] 17 (rec5 [])) ∧ Sparse.get (fun _ => []) g.stageReg 5 = [7] ∧ g.regCheck 5 [7] = 0) ∧
    (n.accepts 17 .hostClient (signed [1, 2, 3] 17 (rec5 [])) ∧ Sparse.get (fun _ => []) n.stageReg 5 = [0xE] ∧ n.regCheck 5 [0xE] ≠ 0) ∧
    (s.accepts 18 .hostClient (signed [1, 2, 3] 18 (rec5 [255, 63, 0, 0, 0xE1, 0xF])) ∧ s.accepts 18 .hostClient (signed [1, 2, 3] 18 (rec5 [])) ∧ leAt [255, 63] 0 2 < 16384 ∧
      State.schOk ((List.range 8).map (fun w => bodyWord (fitBytes 40 [255, 63, 0, 0, 0xE1, 0xF]) (4 + 4 * w))) = true ∧
      State.schOk ((List.range 8).map (fun w => bodyWord (fitBytes 40 []) (4 + 4 * w))) = false) ∧
    (s.accepts 19 .hostClient (signed [1, 2, 3] 19 (rec5 [255, 15, 0, 0, 1, 0, 0, 0, 0, 0, 0, 0, 0, 0, 0, 0, 1])) ∧ s.accepts 19 .hostClient (signed [1, 2, 3] 19 (rec5 [])) ∧
      State.ruleOk ((List.range 8).map (fun w => bodyWord (fitBytes 40 [255, 15, 0, 0, 1, 0, 0, 0, 0, 0, 0, 0, 0, 0, 0, 0, 1]) (4 + 4 * w))) = true ∧
      State.ruleOk ((List.range 8).map (fun w => bodyWord (fitBytes 40 []) (4 + 4 * w))) = false) :=
  ⟨⟨accepts_signed _ _ _ _ _ (by decide +kernel) (by decide +kernel), by decide +kernel⟩,
   ⟨accepts_signed _ _ _ _ _ (by decide +kernel) (by decide +kernel), by decide +kernel⟩,
   ⟨accepts_signed _ _ _ _ _ (by decide +kernel) (by decide +kernel), accepts_signed _ _ _ _ _ (by decide +kernel) (by decide +kernel), by decide +kernel⟩,
   ⟨accepts_signed _ _ _ _ _ (by decide +kernel) (by decide +kernel), accepts_signed _ _ _ _ _ (by decide +kernel) (by decide +kernel), by decide +kernel⟩⟩

/-- A group at rest, and one whose rule holds its level. -/
def grp : GroupRun := { win := none, ramp := 0, sched := ⟨0, 100, 50, 0⟩, mode := 0, tgt := [], rule := some ⟨0, 100, 0, 0⟩, ending := false, sent := none }

theorem witness_FleetRuns :
    (∀ m ∈ [0, 2], let s := lit .show_ [28] [(Reg.FLT.MB_STATUS, W m)]; s.passes .sc Reg.FLT.MB_GO ∧ fld (s.rd Reg.FLT.MB_STATUS) 0 2 ≠ 1 ∧ s.fpUp = true) ∧
    (let s := lit .show_ [28] [(Reg.SYS.PROC_STATE, 0x2022)]; s.passes .sc Reg.FLT.MB_GO ∧ fld (s.rd Reg.FLT.MB_STATUS) 0 2 ≠ 1 ∧ s.fpUp = false ∧ s.schRuns = false) ∧
    (∀ k ∈ [3, 4, 5], let s := { lit .show_ [28] [] with registry := [(320, W (1 + 2 * k)), (336, 1)] }; s.fpUp = true ∧ bit (s.regw 5 0) 0 = true ∧ fld (s.regw 5 0) 1 3 = k ∧ bit (s.regw 5 16) 0 = true) ∧
    (let s := { fleetSt .show_ [(Reg.RTC.STATUS, 1)] with groups := [(0, some grp)], sched := [(0, 0xFFF0FE1)], rules := [(0, 1), (3, 60)], ruleEnds := [(0, 7)] }; s.schRuns = true ∧
      bit (s.rd Reg.RTC.STATUS) 0 = true ∧ Sparse.wf (fun _ => GroupRun.none) s.groups = true ∧ Sparse.get (fun _ => GroupRun.none) s.groups 0 = some grp ∧ grp.sched.runs = true ∧
      Sparse.get (fun _ => 0) s.ruleEnds 0 = 7 ∧ (s.group (fld (s.rulew 0 0) 16 12)).rule = some ⟨0, 100, 0, 0⟩ ∧ State.rulesHeld { s with ruleEnds := Sparse.drop s.ruleEnds 0 } (fld (s.rulew 0 0) 16 12) 7 = [] ∧
      4095 ∈ s.schGroups) ∧
    (let s := { fleetSt .show_ [] with registry := [(320, 7), (336, 1)], reports := [(5, 10)] }; s.fpAway = false ∧ s.fpUp = true ∧ 3 * Sparse.get (fun _ => 0) s.reports 5 ≤ 30 ∧
      29 < 3 * Sparse.get (fun _ => 0) s.reports 5) ∧
    (let s := lit .show_ [28, 29] [(Reg.SYS.PROC_STATE, 0x2022)]; s.fpAway = true ∧ s.passes .sc Reg.FLT.IMG_CMD) ∧ (let s := lit .show_ [] []; s.fpAway = false ∧ s.schRuns = false) := by
  refine ⟨?_, ?_, ?_, ?_, ?_, ?_, ?_⟩ <;> decide +kernel
/-- FP at UTC second 1,000 of 2000 with a loss period of 60 s. -/
def lossSt (regs : List (Nat × Word)) : State := { fleetSt .show_ ((Reg.FLT.LOSS_CFG, 60) :: regs) with tbs := [(2, { TB.init with ext := 946685800000000000 })] }
theorem witness_FleetRuns_loss :
    (let s := lossSt []; s.fpAway = false ∧ s.fpUp = true ∧ s.lossLast < s.periodEnd ∧ s.lossFrom = none) ∧ (let s := { lossSt [] with lossLast := (lossSt []).periodEnd }; s.fpAway = false ∧ s.periodEnd ≤ s.lossLast) ∧
    (let s := { lossSt [] with lossFrom := some 50, registry := [(320, 7)] }; s.fpUp = true ∧ s.lossLast < s.periodEnd ∧ s.lossFrom = some 50 ∧ 50 ≤ s.periodEnd - s.lossPeriod ∧
      (s.feedAt (s.periodEnd - s.lossPeriod)).gap = false ∧ (s.feedAt s.periodEnd).gap = false ∧ (s.feedAt (s.periodEnd - s.lossPeriod)).gaps = (s.feedAt s.periodEnd).gaps ∧
      s.registry.filter (fun y => y.1 % 64 == 0 && bit y.2 0 && bit y.2 7) = []) ∧
    (let s := { lossSt [] with ruleEnds := [(0, 7)] }; Sparse.get (fun _ => 0) s.ruleEnds 0 ≤ s.utcNow) := by
  refine ⟨?_, ?_, ?_, ?_⟩ <;> decide +kernel
theorem witness_FleetRuns_images :
    let cmd := Reg.FLT.IMG_CMD
    (∀ st ∈ [0, 1, 2, 3, 4, 5, 6], let s := { fleetSt .show_ [(Reg.FLT.IMG_SEL, 31), (Reg.FLT.IMG_SCOPE, 0x1000)] with images := [(31, { NodeImg.init with state := st })], registry := [(320, 0x47)] }
      s.passes .sc cmd ∧ s.fpUp = true ∧ s.imgSel = 31 ∧ (s.img 31).state = st ∧ s.imgQueue = [] ∧ (st ≠ 4 → s.images.any (fun e => e.2.state == 4) = false) ∧ s.campTargets 31 = [5]) ∧
    (let s := { fleetSt .show_ [(Reg.FLT.IMG_SEL, 31)] with images := [(0, { NodeImg.init with state := 4 }), (31, { NodeImg.init with state := 2 })] }; s.passes .sc cmd ∧ (s.img s.imgSel).state = 2 ∧
      s.images.any (fun e => e.2.state == 4) = true) ∧
    (∀ st ∈ [4, 5, 6], let s := { fleetSt .show_ [(Reg.FLT.IMG_SEL, 31), (Reg.FLT.IMG_CFG, 1)] with images := [(31, { NodeImg.init with state := st })], camp := { Campaign.init with image := 31, acked := [5] } }
      s.passes .sc cmd ∧ s.fpUp = true ∧ s.imgSel = 31 ∧ 4 ≤ (s.img s.imgSel).state ∧ s.camp.image = s.imgSel ∧ s.fleetKey (bit (s.rd Reg.FLT.KEY_CFG) 16) = some [1, 2, 3] ∧ s.mode ≠ .hold ∧
      s.camp.round < Nat.max 1 (fld (s.rd Reg.FLT.IMG_CFG) 0 4)) ∧
    (let s := { fleetSt .show_ [(Reg.FLT.IMG_CFG, 1)] with images := [(31, { NodeImg.init with state := 4 })], camp := { Campaign.init with image := 31, round := 1 } }; s.fpUp = true ∧ s.mode ≠ .hold ∧
      (s.img s.camp.image).state = 4 ∧ Nat.max 1 (fld (s.rd Reg.FLT.IMG_CFG) 0 4) ≤ s.camp.round ∧ s.imgQueue = []) ∧
    (let s := fleetSt .show_ []; s.passes .sc Reg.FLT.LOG_SEL ∧ (∀ x ∈ s.faults, x.seq ≠ 7) ∧ s.passes .sc Reg.SCH.GROUP_SEL) := by
  refine ⟨?_, ?_, ?_, ?_, ?_⟩ <;> decide +kernel
theorem witness_FleetRuns_read : (fleetSt .show_ []).reads .sc Reg.FLT.IMG_MAP_DATA := by unfold State.reads; decide +kernel
theorem witness_KeysAreUsed :
    let j : KeyJob := { req := .sc, op := 1, slot := 63, aux := 0, len := 0, attr := 0x100002, inp := [] }
    (∀ c ∈ [2, 6], let s := code 6 c (lit .show_ [] []); s.passes .sc Reg.KEY.OP_CMD ∧ s.keyLocked = false ∧ s.code 6 = c ∧ s.keyJobs.any (fun j => j.req == .sc) = false) ∧
    (let s := { lit .show_ [6] [] with keyJobs := [j] }; s.passes .sc Reg.KEY.OP_CMD ∧ s.keyLocked = false ∧ s.code 6 = 2 ∧ s.keyJobs.any (fun j => j.req == .sc) = true ∧ j.op = 1 ∧ (s.slot j.slot).state = 0 ∧
      fld j.attr 10 2 < 2 ∧ j.slot ≠ 0) ∧
    (let s := lit .show_ [6] [(Reg.KEY.STATUS, 2)]; s.passes .sc Reg.KEY.OP_CMD ∧ s.keyLocked = true) ∧
    (let s := { lit .show_ [6] [] with slots := [(63, { KeySlot.init with state := 1, attr := 0xFF0000 })] }; s.passes .sc Reg.KEY.OP_CMD ∧ s.keyJobs.any (fun j => j.req == .sc) = false ∧
      (s.slot (63 : BitVec 6).toNat).state = 1 ∧ bit (s.slot (63 : BitVec 6).toNat).attr (16 + reqIdx .sc) = true ∧ s.passes .sc Reg.KEY.SLOT_SEL) ∧
    (let s := { lit .show_ [6] [] with slots := [(63, { KeySlot.init with state := 2, attr := 0xFF0000 })], keyJobs := [{ j with op := 5 }] }; s.keyJobs = { j with op := 5 } :: [] ∧
      (s.slot j.slot).state = 2 ∧ bit (s.slot j.slot).attr (16 + reqIdx j.req) = true ∧ 0x10 ≤ 0x13 ∧ Nat.max 1 (fld (s.rd Reg.KEY.CFG) 0 8) ≤ 255 ∧ 0 < Nat.max 1 (fld (s.rd Reg.KEY.CFG) 0 8)) := by
  refine ⟨?_, ?_, ?_, ?_, ?_⟩ <;> decide +kernel
theorem witness_TamperSafeLookAndFuses :
    (let s := lit .show_ [7] [(Reg.TAMP.CFG, 0x3F), (Reg.TAMP.LATCH, 0)]; (State.internalTamper ⟨1799, 0, 250, 0, false⟩ + (s.rd Reg.TAMP.NOW).toNat % 8) &&& s.tamperEnabled ≠ 0 ∧
      (State.externalTamper 4999 5000 0 + (s.rd Reg.TAMP.NOW).toNat % 128 / 8 * 8) &&& s.tamperEnabled ≠ 0 ∧ s.rd Reg.TAMP.LATCH = 0 ∧ s.mode = .show_ ∧ fld (s.rd Reg.BIST.STATUS) 0 2 ≠ 1 ∧
      clampN 1 125 (fld (s.rd Reg.TAMP.CFG) 8 8) ≤ 125 ∧ 0 < clampN 1 125 (fld (s.rd Reg.TAMP.CFG) 8 8)) ∧
    (let s := lit .show_ [7] [(Reg.TAMP.CFG, 0), (Reg.TAMP.NOW, 0x38)]; (State.internalTamper ⟨1799, 0, 250, 0, false⟩ + (s.rd Reg.TAMP.NOW).toNat % 8) &&& s.tamperEnabled = 0 ∧ s.rd Reg.TAMP.LATCH = 0 ∧
      (State.externalTamper 5000 50000 0 + (s.rd Reg.TAMP.NOW).toNat % 128 / 8 * 8) &&& s.tamperEnabled = 0) ∧
    (let s := lit .show_ [7] [(Reg.TAMP.SAFE_INDEX, 415)]; s.passes .sc Reg.TAMP.SAFE_DATA ∧ fld (s.rd Reg.TAMP.SAFE_INDEX) 0 9 ≤ 415) ∧
    (let s := lit .show_ [7] [(Reg.KEY.STATUS, 2)]; s.passes .sc Reg.TAMP.SAFE_CMD ∧ s.keyLocked = true) ∧
    (let s := { lit .show_ [7] [] with sealing := some ⟨[], 1, []⟩ }; s.sealing = some ⟨[], 1, []⟩) ∧
    (lit .show_ [8] []).passes .sc Reg.FUSE.ROW_SEL ∧ (lit .show_ [8] []).passes .sc Reg.FUSE.BURN_ARM ∧
    (∀ k ∈ [0, 2, 3, 4, 5], let s := { lit .service [8] [(Reg.FUSE.ROW_SEL, 16), (Reg.FUSE.ROW_STAGE, 0x3F3F)] with burnArmed := true }; s.passes .sc Reg.FUSE.BURN_CMD ∧ s.burnRefusal k = 0) ∧
    (∀ k ∈ [0, 1, 2, 3, 4, 5], let s := lit .service [8] []; s.passes .sc Reg.FUSE.BURN_CMD ∧ s.burnRefusal k ≠ 0) ∧
    (∀ k ∈ [0, 1], let s := { lit .service [8] [] with burn := some ⟨k, 16, 5⟩ }; s.burn = some ⟨k, 16, 5⟩) := by
  refine ⟨?_, ?_, ?_, ?_, ?_, ?_, ?_, ?_, ?_, ?_⟩ <;> decide +kernel
theorem witness_TamperSafeLookAndFuses_read : (lit .show_ [7] []).reads .sc Reg.TAMP.SAFE_DATA := by unfold State.reads; decide +kernel
theorem witness_TamperSafeLookAndFuses_seal : ∃ k, (lit .show_ [7] [(Reg.KEY.STATUS, 1)]).rootDerived [0x53, 0x41, 0x46, 0x45] = some k ∧ (lit .show_ [7] [(Reg.KEY.STATUS, 1)]).passes .sc Reg.TAMP.SAFE_CMD ∧
    (lit .show_ [7] [(Reg.KEY.STATUS, 1)]).sealing = none ∧ (lit .show_ [7] [(Reg.KEY.STATUS, 1)]).failSeq = false := by
  have h : ((lit .show_ [7] [(Reg.KEY.STATUS, 1)]).rootDerived [0x53, 0x41, 0x46, 0x45]).isSome = true := by decide +kernel
  obtain ⟨k, hk⟩ := Option.isSome_iff_exists.mp h
  exact ⟨k, hk, by decide +kernel, rfl, rfl⟩

/-- A module in SERVICE with its burn armed, whose SEAL_CRC holds the CRC of the matrix. -/
def sealSt : State :=
  let s := { lit .service [8] [] with burnArmed := true }
  { s with regs := (Reg.FUSE.SEAL_CRC, s.matrixCrc) :: s.regs }

theorem witness_TamperSafeLookAndFuses_burnSeal : sealSt.passes .sc Reg.FUSE.BURN_CMD ∧ sealSt.burnRefusal 1 = 0 := by
  refine ⟨by decide +kernel, ?_⟩
  have c : sealSt.rd Reg.FUSE.SEAL_CRC = sealSt.matrixCrc := by
    show _ = State.matrixCrc _
    simp only [sealSt, State.rd, Sparse.get, if_true]
    rfl
  have l : bit (sealSt.rd Reg.FUSE.LIFECYCLE) 0 = false := by decide +kernel
  have f : sealSt.failSeq = false := rfl
  have m : sealSt.mode = .service := rfl
  have a : sealSt.burnArmed = true := rfl
  have b : sealSt.burn = none := rfl
  simp [State.burnRefusal, c, l, f, m, a, b]
theorem witness_ImagesLoadAndActivate :
    let u := Upd.init
    let b := fun (m : Mode) (x : Upd) (regs : List (Nat × Word)) => { lit m [8] regs with upd := x }
    (let s := b .show_ u [(Reg.UPD.SEL, 4)]; s.passes .sc Reg.UPD.LOAD_CMD ∧ s.upd.load = none ∧ s.inTrial s.updSel = false ∧ s.passes .sc Reg.UPD.LOAD_PUSH ∧ s.passes .sc Reg.UPD.ACT_CMD ∧ s.failSeq = false ∧
      (s.actRefusal s.updSel).1 ≠ 0 ∧ s.upd.pause = none ∧ s.upd.trial = none ∧ s.mode ≠ .hold) ∧
    (let s := b .show_ { u with load := some 4 } [(Reg.UPD.LOAD_STATUS, 1)]; s.passes .sc Reg.UPD.LOAD_CMD ∧ s.passes .sc Reg.UPD.LOAD_PUSH ∧ s.upd.load = some 4 ∧ s.loadState = 1 ∧ 1 ≤ fld 2048 0 12 ∧
      fld 2048 0 12 ≤ 2048 ∧ fld 0 0 12 = 0 ∧ (s.imgSlot (s.spareSlot 4)).bytes.length + fld 2048 0 12 ≤ 16 * 2 ^ 20) ∧
    (let s := b .show_ { u with load := some 4 } [(Reg.UPD.LOAD_STATUS, 2)]; s.upd.load = some 4 ∧ s.loadState = 2) ∧
    (let s := b .service { u with slots := [(1, imgFactory 0)] } [(Reg.UPD.SEL, 0)]; s.passes .sc Reg.UPD.ACT_CMD ∧ s.failSeq = false ∧ (s.actRefusal s.updSel).1 = 0) ∧
    (let s := b .show_ { u with pause := some (3, false) } []; s.upd.pause = some (3, false) ∧ s.upd.port = none ∧ s.fpWait = []) ∧
    (let first := fun (s : State) (k : Nat) => (List.range 32).find? (fun n => k ≤ n && (s.blk (32 + n)).enable && s.up (32 + n))
     let s := { lit .service [8, 32, 63] [] with upd := { u with pause := some (4, true), port := some 0 } }; let v := { s with upd := { u with pause := some (4, false), port := some 31 } };
      s.upd.pause = some (4, true) ∧ s.upd.port = some 0 ∧ first s (0 + 1) = some 31 ∧ v.upd.pause = some (4, false) ∧ v.upd.port = some 31 ∧ first v (31 + 1) = none) ∧
    (let s := b .service { u with slots := [(9, imgFactory 4)] } [(Reg.UPD.SEL, 4)]; s.passes .sc Reg.UPD.ACT_CMD ∧ s.failSeq = false ∧ (s.actRefusal s.updSel).1 = 0 ∧ s.updSel = 4) ∧
    (let s := b .show_ { u with trial := some 4 } []; s.upd.trial = some 4 ∧ s.upd.pause = none ∧ s.upd.committing = false) ∧
    (let s := b .show_ { u with trial := some 0 } []; s.passes .sc Reg.UPD.ACT_CMD ∧ s.mode ≠ .hold ∧ s.upd.trial = some 0 ∧ s.upd.pause = none ∧ s.upd.committing = false ∧
      (s.imgSlot (s.activeSlot 0)).sec ≤ s.arbOf 0) ∧
    (let s := b .show_ { u with trial := some 0, committing := true } []; s.upd.trial = some 0 ∧ s.upd.committing = true) := by
  refine ⟨?_, ?_, ?_, ?_, ?_, ?_, ?_, ?_, ?_, ?_⟩ <;> decide +kernel
theorem witness_CalibrationSetsAreKept :
    let set := fun (l : List Word) => (List.range 15).map (fun w => (Reg.CAL.SET_DATA w, l.getD w 0))
    let j : CalJob := { kind := 2, inst := 0, temp := 250 }
    (let s := lit .show_ [10] ([(Reg.CAL.SEL, 0x70002)] ++ set [0x100FA]); s.passes .sc Reg.CAL.SEL ∧ s.passes .sc Reg.CAL.CMD ∧ s.mode ≠ .hold ∧ s.calBusy s.calKind s.calInst = false ∧
      State.calInstOk s.calKind s.calInst = true ∧ s.calSetOk s.calKind s.calInst s.calPoint ((List.range 15).map (fun w => s.rd (Reg.CAL.SET_DATA w))) = true) ∧
    (let s := lit .show_ [10] [(Reg.CAL.SEL, 0x1F03)]; s.calBusy s.calKind s.calInst = false ∧ State.calInstOk s.calKind s.calInst = false ∧ s.calRefusal 250 true ≠ 0) ∧
    (lit .hold [10] []).passes .sc Reg.CAL.CMD ∧
    (∀ k ∈ [0, 1, 2], let s := lit .service [10, 30, 32] [(Reg.CAL.SEL, W k)]; s.passes .sc Reg.CAL.CMD ∧ s.calKind = k ∧ s.calRefusal (if k = 0 then State.calFixed 0 else 250) true = 0) ∧
    (let s := { lit .show_ [10] [] with calRun := some j, cal := [(State.calKey 2 0 3, [0x100FA])] }; s.calRun = some j ∧ s.calGood j (51 : Word).toInt = false ∧ s.calGood j (50 : Word).toInt = true ∧
      s.calNear j.kind (if j.kind = 0 then s.gzRate j.inst else j.inst) j.temp.toInt = some 3) ∧
    (let s := { lit .show_ [10] [(Reg.CAL.REF_V, 0x100000), (Reg.CAL.REF_I, 0x120000)] with calRun := some { j with kind := 1 }, cal := [(State.calKey 1 0 3, [0x100FA])] };
      let gain := fun (ref : Nat) (m : Word) => (roundQ (mkRat (fld (s.rd ref) 0 24 * 4194304) m.toNat)).toNat;
      s.calRun = some { j with kind := 1 } ∧ (0x400000 : Word) ≠ 0 ∧ gain Reg.CAL.REF_V 0x400000 < 2 ^ 24 ∧ gain Reg.CAL.REF_I 0x500000 < 2 ^ 24 ∧ s.calGood { j with kind := 1 } (0 : Word).toInt = true ∧
      s.calNear 1 0 j.temp.toInt = some 3) := by
  refine ⟨?_, ?_, ?_, ?_, ?_, ?_⟩ <;> decide +kernel
theorem witness_RegistersReadAndWrite :
    (let s := lit .show_ [1, 18, 30, 101, 108] []; ∀ c ∈ [(101 * 4096 + 96, RegAcc.rw), (4096 + 84, .w1c), (18 * 4096 + 64, .rws), (108 * 4096 + 280, .ro)],
      c.1 / 0x1000 ∈ [1, 18, 30, 101, 108] ∧ c.1 % 4 = 0 ∧ 0x40 ≤ c.1 % 0x1000 ∧ s.passes .sc c.1 ∧ (regRow c.1).map (fun r => r.acc) = some c.2 ∧ (s.blk (c.1 / 0x1000)).swapPend = false) ∧
    (let s := blk 18 { Block.init with code := 2, swapPend := true } (lit .show_ [] []); s.passes .sc (18 * 4096 + 64) ∧ (s.blk 18).swapPend = true) ∧
    (let s := lit .show_ [3] []; s.mode ≠ .doze ∧ s.hostUp = true ∧ (0x12042 : Word).toNat % 4 ≠ 0 ∧ (0x12042 : Word).toNat < 0x100000 ∧ (7 : BitVec 4) ≠ 15 ∧ s.reach 3 = true ∧
      (0x120000 - 8 : Word).toNat = 0x100000 + 8 * 16383 ∧ arrivalRank .host < arrivalRank .sc ∧ (0x65060 : Word).toNat / 0x1000 = (0x65064 : Word).toNat / 0x1000 ∧ (0x65060 : Word).toNat % 8 = 0) ∧
    (let s := lit .show_ [4] [(Reg.PRT.CLIENT_CFG 7, 0x501)]; s.passes .sc (Reg.PRT.CLIENT_CFG 7) ∧ fld (s.rd (Reg.PRT.CLIENT_CFG 7)) 8 6 ≠ fld 0x3F01 8 6 ∧ fld (s.rd (Reg.PRT.CLIENT_CFG 7)) 8 6 = fld 0x500 8 6 ∧
      s.rd (Reg.PRT.CLIENT_CFG 7) ≠ 0x500 &&& 0x3F01) := by
  refine ⟨?_, ?_, ?_, ?_⟩ <;> decide +kernel
theorem witness_RegistersReadAndWrite_read : (lit .show_ [18] []).reads .sc 0x12040 := by unfold State.reads; decide +kernel
theorem witness_TableWindows :
    (∀ n ∈ [1, 2, 3], let s := lit .show_ [3, 18] [(Reg.HIF.WIN_SEL, W (n + 256)), (Reg.HIF.WIN_OFFSET, 0)]; s.mode ≠ .doze ∧ s.hostUp = true ∧ s.winTable = n ∧ s.allowed .host (256 + n) false = true ∧
      s.allowed .host (256 + n) true = true ∧ s.winBase 0x7FFC0 + 64 ≤ State.tableSize n ∧ s.winShadow = true ∧ (s.blk 18).swapPend = false) ∧
    (let s := lit .show_ [3, 18] [(Reg.HIF.WIN_SEL, 8), (Reg.HIF.WIN_OFFSET, 0)]; s.hostUp = true ∧ s.winTable = 8 ∧ s.allowed .host (256 + 8) false = true ∧ s.allowed .host (256 + 8) true = true ∧
      s.winBase 131008 + 64 ≤ State.tableSize 8 ∧ State.tableSize 8 < s.winBase 131009 + 64 ∧ s.winShadow = false) ∧
    (let s := { lit .show_ [3, 18] [(Reg.HIF.WIN_SEL, 2), (Reg.FUSE.LIFECYCLE, 1)] with fuseRows := [(258, { copies := 1, valid := true, row := 0 })] }; s.hostUp = true ∧ s.winTable = 2 ∧ s.allowed .host (256 + 2) false = false) ∧
    (lit .show_ [3] [(Reg.HIF.WIN_SEL, 0)]).winTable = 0 := by
  refine ⟨?_, ?_, ?_, ?_⟩ <;> decide +kernel
/-- Two records of the journal: a word of the registry, and a register that MRAM keeps. -/
def rec1 : JournalRec := let i : List JItem := [.word .registry 320 7 9]; ⟨5, i, journalCrc 5 i⟩
def rec2 : JournalRec := let i : List JItem := [.word .reg (Reg.DOM.CFG 0) 3 5]; ⟨6, i, journalCrc 6 i⟩

theorem witness_FaultsAreRecovered :
    (let s := lit .show_ [] []; (∀ p ∈ [Proc.sc, .pp, .fp, .rp], s.proc (procIdx p) = 2 ∧ s.upd.trial ≠ some (procIdx p)) ∧ s.scReset = none) ∧
    (let s := { lit .show_ [] [] with scReset := some 5, clock := 10000000004 }; s.scReset = some 5 ∧ s.clock < 5 + 10000000000 ∧ s.mode = .show_ ∧ fld (s.rd Reg.BIST.STATUS) 0 2 ≠ 1 ∧
      5 + 10000000000 ≤ ({ s with clock := 10000000005 } : State).clock) ∧
    (let s := { lit .show_ [112] [(Reg.SYS.PROC_STATE, 0x3333)] with jrnl := [rec1, rec2] }; (∀ p ∈ [Proc.sc, .pp, .fp, .rp], s.proc (procIdx p) = 3) ∧ s.fpWait = [] ∧ s.faultWait = [] ∧
      (∀ n, n < 4 → (s.eth n).rxHold = []) ∧ journalGood none none s.jrnl = s.jrnl ∧ s.jrnl = journalGood (some 6) none s.jrnl ++ rec2 :: [] ∧ keptReg (Reg.DOM.CFG 0) = true ∧
      s.jrnl.take 1 = journalGood (some 5) none (s.jrnl.take 1) ++ rec1 :: [] ∧ s.up 112 = true) ∧
    (∀ x ∈ [EccSite.mapEntry 0, .solver 4095, .table 18], let s := lit .show_ [18, 19] []; s.up (State.sitePage x) = true ∧ State.sitePage x ∉ s.windows ∧ s.frames.filter (s.eccReads x) = []) ∧
    (let s := { lit .show_ [18] [] with windows := [18] }; s.up 18 = true ∧ 18 ∈ s.windows) ∧ (let s := lit .show_ [] []; s.up 18 = false ∧ s.reloads = []) ∧
    (let s := { lit .show_ [18] [] with frames := [fr], plan := pl }; s.up 18 = true ∧ fr ∈ s.frames ∧ s.eccReads (.mapEntry 0) fr = true) ∧
    (let s := lit .show_ [21, 25] []; s.up 21 = true ∧ s.up 25 = true) ∧
    (let s := { lit .show_ [22] [] with clipCache := [65535] }; s.up 22 = true ∧ (65535 : BitVec 16).toNat ∈ s.clipCache) ∧
    (let s := { lit .show_ [] [] with reloads := [.mapEntry 8388607, .table 18, .solver 7, .clipCache 5], clips := [(5, [1])], inForce := [(Reg.CLIP.CACHE_CFG, 4)] }; EccSite.mapEntry 8388607 ∈ s.reloads ∧
      EccSite.table 18 ∈ s.reloads ∧ EccSite.solver 7 ∈ s.reloads ∧ EccSite.solver 8 ∉ s.reloads ∧ EccSite.clipCache 5 ∈ s.reloads ∧ s.cacheFit 5 = some [] ∧ s.clipStored 5 = true) := by
  refine ⟨?_, ?_, ?_, ?_, ?_, ?_, ?_, ?_, ?_, ?_⟩ <;> decide +kernel
theorem witness_PrtAnswersRequests (key : List Byte) (op : Byte) (q : PrtReq) :
    State.prtTag key (State.prtBytes op { q with tag := State.prtTag key (State.prtBytes op q) }) = ({ q with tag := State.prtTag key (State.prtBytes op q) } : PrtReq).tag := rfl
theorem witness_PrtAnswersRequests_states :
    let regs := [(Reg.PRT.CFG, 0x1F900001), (Reg.ETH.IP4_CFG 0, 0x118), (Reg.ETH.IP4_ADDR 0, 0x0A000001), (Reg.PRT.CLIENT_CFG 7, (0x501 : Word)), (Reg.PRT.LAST_SEQ_LO 7, 5), (Reg.FUSE.LIFECYCLE, 1)]
    let s := { lit .show_ [1, 4, 18, 101, 104] regs with slots := [(5, { KeySlot.init with state := 1, origin := 2, attr := 0xFF0006, key := [1] })], prtLast := [(7, [1])], fuseRows := [1, 101, 258, 264].map (fun i => (i, { copies := 1, valid := true, row := 0x3F3F })) }
    let q := { req [] with client := 7 }
    s.up 4 = true ∧ s.prtHears q = true ∧ s.prtHears { q with eth := 1 } = false ∧ (s.ethHop q.eth q.v6 q.src).isSome = true ∧ s.up 104 = true ∧ s.prtKey 6 = none ∧ (s.prtKey 7).isSome = true ∧ q.seq.toNat = s.prtLastSeq 7 ∧ ({ q with seq := 4 } : PrtReq).seq.toNat < s.prtLastSeq 7 ∧
      s.prtLastSeq 7 < ({ q with seq := 6 } : PrtReq).seq.toNat ∧ Sparse.get (fun _ => []) s.prtLast 7 ≠ [] ∧ s.prtStatus 6 q ≠ 0 ∧ s.prtStatus 5 q = 0 ∧ s.prtStatus 1 q = 0 ∧ q.count = 1 ∧
      populated (q.addr.toNat / 0x1000) = true ∧ s.code (q.addr.toNat / 0x1000) ≠ 1 ∧ s.prtStatus 2 { q with len := 44, addr := 0x65048, data := [7] } = 0 ∧
      s.prtStatus 3 { q with addr := 0, table := 8 } = 0 ∧ s.prtStatus 4 { q with len := 44, addr := 0x7FFFC, table := 2, data := [7] } = 0 ∧ (s.blk 18).swapPend = false := by decide +kernel
theorem witness_DeniedAccessLearnsNothing :
    (let s := { lit .show_ [3, 18] [(Reg.FUSE.LIFECYCLE, 1)] with fuseRows := [(18, { copies := 1, valid := true, row := 0 })] }; s.gate .host (0x12040 / 0x1000) (0x12040 % 0x1000) = .denied ∧ s.gate .prt (0x12040 / 0x1000) (0x12040 % 0x1000) = .denied ∧
      s.allowed .host 18 false = false) ∧
    (let s := lit .show_ [7] []; s.gate .fp (0x7040 / 0x1000) (0x7040 % 0x1000) = .denied) := by decide +kernel
theorem witness_OutsideFindsNothingWhenDark : fromOutside (.registerWrite .host 0x1040 1 none 0 []) = true ∧ fromOutside (.prtWrite (req [])) = true ∧ State.reset.dom 1 = 0 ∧ State.reset.mode ≠ .doze := by decide +kernel
theorem witness_ColdStaysDark : State.reset.mode = .cold ∧ State.reset.trans = none ∧ State.reset.coldCmd = false ∧ State.reset.dom 1 = 0 ∧ State.reset.pending = [] := by decide +kernel
theorem witness_SwgenDrivesItsSources : (lit .show_ [2] []).passes .sc Reg.EVR.SWGEN ∧ bit 0x1C8 8 = true ∧ bit 0x1C8 9 = false ∧ 200 ≤ fld 0x1C8 0 8 ∧ bit 0x2FF 9 = true ∧ 200 ≤ fld 0x2FF 0 8 ∧
    bit 0x3C8 8 = bit 0x3C8 9 ∧ fld 0x1C7 0 8 < 200 := by decide +kernel
theorem witness_AlarmOneBelongsToFp :
    (let s := lit .show_ [11] [(Reg.SYS.DOZE_CFG, 2)]; bit (s.rd Reg.SYS.DOZE_CFG) 1 = true ∧ Requester.sc ≠ .fp ∧ (∀ k ∈ [0, 1, 2, 3], s.passes .sc (Reg.RTC.ALM_TIME 1 + 4 * k)) ∧ s.passes .sc (Reg.RTC.ALM_CTL 1)) ∧
    (let s := lit .show_ [11] [(Reg.RTC.ALM_STATUS 0, 1)]; s.passes .sc (Reg.RTC.ALM_CTL 0) ∧ s.almArmed 0 = true ∧ s.passes .fp (Reg.RTC.ALM_CTL 1) ∧ s.almArmed 1 = false) := by decide +kernel
theorem witness_SealedTamperEnablesStaySet : (let s := lit .show_ [7] [(Reg.FUSE.LIFECYCLE, 1)]; bit (s.rd Reg.FUSE.LIFECYCLE) 0 = true ∧ s.passes .sc Reg.TAMP.CFG) ∧
    bit ((lit .show_ [7] [(Reg.FUSE.LIFECYCLE, 4)]).rd Reg.FUSE.LIFECYCLE) 2 = true := by decide +kernel
theorem witness_SealedTamperEnablesStaySet_read : (lit .show_ [7] [(Reg.FUSE.LIFECYCLE, 4)]).reads .sc Reg.TAMP.CFG := by unfold State.reads; decide +kernel
theorem witness_DoorbellsTakeWholeDescriptors : (let s := { lit .show_ [3, 26] [] with poolq := [(16256, QueueSt.empty 1 0 1)] }; s.hostUp = true ∧ s.mode ≠ .doze ∧ hostProduces 16256 = true ∧
      queueCredits 16256 (s.pq 16256) ≠ 0 ∧ s.qmUp = true) ∧
    (let d : DWord := 0x1000010000000000; d.toNat / 2 ^ 60 = 1 ∧ d.toNat / 2 ^ 56 % 8 = 0) ∧ (let d : DWord := 0x3800FFFFFFFFFFFF; d.toNat / 2 ^ 60 = 3 ∧ d.toNat / 2 ^ 48 % 2 ^ 11 = 0) ∧
    (0x1100010000000000 : DWord).toNat / 2 ^ 56 % 8 ≠ 0 ∧ (0x2000000000000000 : DWord).toNat / 2 ^ 60 = 2 := by decide +kernel

/-! Published examples of the algorithms that the spec names: FIPS 180-4, RFC 4231 case 2 and the CRC-32 check value. -/

theorem test_crc32_check : Crypto.crc32 [0x31, 0x32, 0x33, 0x34, 0x35, 0x36, 0x37, 0x38, 0x39] = 0xCBF43926 := by decide +kernel
theorem test_sha256_abc : (Crypto.sha256 [0x61, 0x62, 0x63]).take 4 = [0xBA, 0x78, 0x16, 0xBF] := by decide +kernel
theorem test_hmac_jefe : (Crypto.hmac [0x4A, 0x65, 0x66, 0x65]
    [0x77, 0x68, 0x61, 0x74, 0x20, 0x64, 0x6F, 0x20, 0x79, 0x61, 0x20, 0x77, 0x61, 0x6E, 0x74, 0x20, 0x66, 0x6F, 0x72, 0x20, 0x6E, 0x6F, 0x74, 0x68, 0x69, 0x6E, 0x67, 0x3F]).take 4 =
    [0x5B, 0xDC, 0xC1, 0x46] := by decide +kernel

end Sys2Proof.Tests
end

section
/-!
PROOFS. SWGEN drives the software sources (R99): what a single register write of 32 bits is, what a write to SWGEN does to the list of active software
sources, and what that means for the activity of every source.
-/
namespace Sys2Proof.Machine

/-! A single register write of 32 bits (R75). -/

/-- With no other access in its cycle, REGISTER_WRITE is its own write alone. -/
theorem exec_registerWrite_alone (r : Requester) (a v sets : Word) (hi : Option Word) (s : State) :
    exec (.registerWrite r a v hi sets []) s = .next (s.writeAsCome r a.toNat v hi sets) := by
  cases r <;> rfl

theorem State.writeAsCome_aligned (s : State) (r : Requester) {a : Nat} (v sets : Word) (h : a % 4 = 0) :
    s.writeAsCome r a v none sets = s.registerWrite r a v sets := by
  simp [State.writeAsCome, h]

/-! Active sources (R94, R99). -/

/-- A source from 200 up is active exactly if SWGEN lists it. -/
theorem State.srcActive_software (s : State) {x : Nat} (h : 200 ≤ x) : s.srcActive x = s.swgen.contains x := by
  simp [State.srcActive, h]

/-- A source below 200 depends on the headers alone. -/
theorem State.srcActive_hardware_congr {s t : State} {x : Nat} (h : x < 200) (hb : ∀ p, t.blk p = s.blk p) :
    t.srcActive x = s.srcActive x := by
  simp [State.srcActive, Nat.not_le.2 h, hb]

/-- Two states with the same headers agree on every source that SWGEN lists in both or in neither. -/
theorem State.srcActive_congr {s t : State} {x : Nat} (hb : ∀ p, t.blk p = s.blk p) (hx : x ∈ t.swgen ↔ x ∈ s.swgen) :
    t.srcActive x = s.srcActive x := by
  by_cases h : x < 200
  · exact State.srcActive_hardware_congr h hb
  · rw [t.srcActive_software (Nat.not_lt.1 h), s.srcActive_software (Nat.not_lt.1 h)]
    simp [hx]

@[simp] theorem State.srcActive_claimed (s : State) (a x : Nat) : (s.claimed a).srcActive x = s.srcActive x := rfl

@[simp] theorem State.swgen_rise (s : State) (src : Nat) : (s.rise src).swgen = s.swgen := by
  rw [(s.rise_frame (P := []) (R := []) src).1]

/-! The write to SWGEN by case (R99). -/

section
variable (s : State) {v : Word}

/-- Both bits, neither bit, or a source below 200: counted in EVR's ERR_CNT. -/
theorem State.swgenWrite_ignored (h : bit v 8 = bit v 9 ∨ fld v 0 8 < 200) : s.swgenWrite v = s.err 2 := by
  simp [State.swgenWrite, h]

theorem State.swgenWrite_set (h8 : bit v 8 = true) (h9 : bit v 9 = false) (hs : 200 ≤ fld v 0 8) :
    s.swgenWrite v =
      if fld v 0 8 ∈ s.swgen then s else { s with swgen := s.swgen ++ [fld v 0 8] }.rise (fld v 0 8) := by
  simp [State.swgenWrite, h8, h9, Nat.not_lt.2 hs]

theorem State.swgenWrite_clr (h8 : bit v 8 = false) (h9 : bit v 9 = true) (hs : 200 ≤ fld v 0 8) :
    s.swgenWrite v = { s with swgen := s.swgen.filter (fun x => x != fld v 0 8) } := by
  simp [State.swgenWrite, h8, h9, Nat.not_lt.2 hs]

/-- SET adds its source to the list, and no other. -/
theorem State.mem_swgen_swgenWrite_set (h8 : bit v 8 = true) (h9 : bit v 9 = false) (hs : 200 ≤ fld v 0 8) (x : Nat) :
    x ∈ (s.swgenWrite v).swgen ↔ x ∈ s.swgen ∨ x = fld v 0 8 := by
  rw [s.swgenWrite_set h8 h9 hs]
  split
  case isTrue h => exact ⟨Or.inl, fun k => k.elim id (fun e => e ▸ h)⟩
  case isFalse => simp

/-- CLR takes its source off the list, and no other. -/
theorem State.mem_swgen_swgenWrite_clr (h8 : bit v 8 = false) (h9 : bit v 9 = true) (hs : 200 ≤ fld v 0 8) (x : Nat) :
    x ∈ (s.swgenWrite v).swgen ↔ x ∈ s.swgen ∧ x ≠ fld v 0 8 := by
  rw [s.swgenWrite_clr h8 h9 hs]
  simp

/-- Beside the list, SET does no more than notify of the rise (R95). -/
theorem State.swgenWrite_set_frame {P R : List Nat} (h8 : bit v 8 = true) (h9 : bit v 9 = false) (hs : 200 ≤ fld v 0 8) :
    Notifies P R { s with swgen := (s.swgenWrite v).swgen } (s.swgenWrite v) := by
  rw [s.swgenWrite_set h8 h9 hs]
  split
  case isTrue => exact .refl s
  case isFalse =>
    rw [State.swgen_rise]
    exact State.rise_frame _ _

/-- Beside the list, CLR changes nothing. -/
theorem State.swgenWrite_clr_frame (h8 : bit v 8 = false) (h9 : bit v 9 = true) (hs : 200 ≤ fld v 0 8) :
    s.swgenWrite v = { s with swgen := (s.swgenWrite v).swgen } := by
  rw [s.swgenWrite_clr h8 h9 hs]

/-- An error counted in the header of a page changes that header alone. -/
theorem State.err_frame {P R : List Nat} {pg : Nat} (m : pg ∈ P) : Writes P R s (s.err pg) := (Writes.refl s).updBlk pg _ m

/-- A write to SWGEN takes SOURCE and its two bits, and nothing else of the word. -/
theorem State.swgenWrite_congr {w : Word} (hs : fld w 0 8 = fld v 0 8) (h8 : bit w 8 = bit v 8) (h9 : bit w 9 = bit v 9) :
    s.swgenWrite w = s.swgenWrite v := by
  simp only [State.swgenWrite, hs, h8, h9]

end

/-! The word that SWGEN_SET and SWGEN_CLR write: the source with bit 8 or bit 9. -/

theorem fld_W_source (n : Fin 256) (k : Nat) : fld (W (n + 256 * k)) 0 8 = n := by
  have hn := n.isLt
  simp only [fld, W, BitVec.toNat_ofNat]
  omega

theorem bit_W_source (n : Fin 256) (k : Nat) {i : Nat} (hi : i < 24) : bit (W (n + 256 * k)) (8 + i) = k.testBit i := by
  have hbits : (n + 256 * k).testBit (8 + i) = k.testBit i := by
    rw [Nat.add_comm n.val, Nat.testBit_two_pow_mul_add k n.isLt (i := 8), if_neg (by omega), Nat.add_sub_cancel_left]
  simp only [bit, BitVec.getLsbD_ofNat, hbits, show 8 + i < 32 by omega, decide_true, Bool.true_and]

/-- The word of SWGEN_SET (`k` = 1) or SWGEN_CLR (`k` = 2) for the source that `v` names does what `v` does, if `v` has the same two bits. -/
theorem State.swgenWrite_sourceWord (s : State) {v : Word} (k : Nat) (h8 : k.testBit 0 = bit v 8) (h9 : k.testBit 1 = bit v 9) :
    s.swgenWrite (W (Fin.ofNat 256 (fld v 0 8) + 256 * k)) = s.swgenWrite v := by
  have hval : (Fin.ofNat 256 (fld v 0 8)).val = fld v 0 8 := Nat.mod_eq_of_lt (Nat.mod_lt _ (by decide))
  exact s.swgenWrite_congr ((fld_W_source _ k).trans hval) ((bit_W_source _ k (i := 0) (by decide)).trans h8)
    ((bit_W_source _ k (i := 1) (by decide)).trans h9)

/-! Writes to SWGEN that pass their gate. -/

/-- Past the gate, a write to SWGEN is the effect of R99: EVR joins no group and SWGEN is no W1C register. -/
theorem State.routeWrite_swgen (s : State) (r : Requester) (v sets : Word) : s.routeWrite r Reg.EVR.SWGEN v sets = s.swgenWrite v := by
  have hpage : s.pageWrite r 2 0x40 v = s.swgenWrite v := rfl
  have hkeep (t : State) (w : Word) : t.keepSet w Reg.EVR.SWGEN v sets = t := rfl
  have hpg : Reg.EVR.SWGEN / 0x1000 = 2 := rfl
  have hoff : Reg.EVR.SWGEN % 0x1000 = 0x40 := rfl
  simp [State.routeWrite, State.groupsAfter, hpg, hoff, hpage, hkeep]

section
variable {s : State} {r : Requester} (h : s.passes r Reg.EVR.SWGEN)
include h

/-- SWGEN is not kept in MRAM: a write has its effect and no journal record. -/
theorem State.access_swgen (v : Word) (eff : State → State) :
    s.access r Reg.EVR.SWGEN v eff = eff (s.claimed Reg.EVR.SWGEN) := by
  rw [State.access_pass h]
  exact State.journalWrite_plain _ (by decide) (by decide)

theorem State.registerWrite_swgen (v sets : Word) :
    s.registerWrite r Reg.EVR.SWGEN v sets = (s.claimed Reg.EVR.SWGEN).swgenWrite v := by
  have hlive : liveCmd Reg.EVR.SWGEN = false := by decide
  simp [State.registerWrite, hlive, State.access_swgen h, State.routeWrite_swgen]

theorem exec_registerWrite_swgen (v : Word) :
    exec (.registerWrite r 0x2040 v none 0 []) s = .next ((s.claimed Reg.EVR.SWGEN).swgenWrite v) := by
  have haddr : (0x2040 : Word).toNat = Reg.EVR.SWGEN := rfl
  rw [exec_registerWrite_alone, haddr, State.writeAsCome_aligned _ _ _ _ (by decide), State.registerWrite_swgen h]

/-- SWGEN_SET has the effect of any write that names its source with SET alone. -/
theorem exec_swgenSet_eq {v : Word} (h8 : bit v 8 = true) (h9 : bit v 9 = false) :
    exec (.swgenSet r (Fin.ofNat 256 (fld v 0 8))) s = .next ((s.claimed Reg.EVR.SWGEN).swgenWrite v) := by
  have hexec (n : Fin 256) : exec (.swgenSet r n) s = .next (s.access r Reg.EVR.SWGEN (W (n + 0x100)) (State.swgenWrite (W (n + 0x100)))) := rfl
  rw [hexec, State.access_swgen h, State.swgenWrite_sourceWord _ 1 h8.symm h9.symm]

/-- SWGEN_CLR has the effect of any write that names its source with CLR alone. -/
theorem exec_swgenClr_eq {v : Word} (h8 : bit v 8 = false) (h9 : bit v 9 = true) :
    exec (.swgenClr r (Fin.ofNat 256 (fld v 0 8))) s = .next ((s.claimed Reg.EVR.SWGEN).swgenWrite v) := by
  have hexec (n : Fin 256) : exec (.swgenClr r n) s = .next (s.access r Reg.EVR.SWGEN (W (n + 0x200)) (State.swgenWrite (W (n + 0x200)))) := rfl
  rw [hexec, State.access_swgen h, State.swgenWrite_sourceWord _ 2 h8.symm h9.symm]

end

/-- Settles O57, clause by clause: every write is `swgenWrite` on the claimed state, SET puts its source on the list, CLR takes it off, and the rest is counted. -/
theorem swgenDrivesItsSources : Obligations.SwgenDrivesItsSources := by
  intro r s v hpass src others
  have hwrite := exec_registerWrite_swgen hpass v
  let c := s.claimed Reg.EVR.SWGEN
  refine ⟨fun h8 h9 hs => ?set, fun h8 h9 hs => ?clr, fun h => ?ignored⟩
  case set =>
    have hmem := c.mem_swgen_swgenWrite_set h8 h9 hs
    have hframe := c.swgenWrite_set_frame (P := []) (R := []) h8 h9 hs
    refine ⟨_, hwrite, ?_, fun x _ hx => ?_, hframe, exec_swgenSet_eq hpass h8 h9⟩
    · rw [State.srcActive_software _ hs, List.contains_iff_mem, hmem]
      exact .inr rfl
    · exact State.srcActive_congr (s := c) hframe.blk_eq ((hmem x).trans (or_iff_left hx))
  case clr =>
    have hmem := c.mem_swgen_swgenWrite_clr h8 h9 hs
    have hframe := c.swgenWrite_clr_frame h8 h9 hs
    refine ⟨_, hwrite, ?_, fun x _ hx => ?_, hframe, exec_swgenClr_eq hpass h8 h9⟩
    · rw [State.srcActive_software _ hs, ← Bool.not_eq_true, List.contains_iff_mem, hmem]
      exact fun k => k.2 rfl
    · exact State.srcActive_congr (s := c) (fun p => by rw [hframe]; rfl) ((hmem x).trans (and_iff_left hx))
  case ignored =>
    rw [c.swgenWrite_ignored h] at hwrite
    exact ⟨_, hwrite, c.blk_updBlk_self 2 _, c.err_frame (List.mem_singleton_self 2)⟩

end Sys2Proof.Machine
end

section
/-!
PROOFS. A doorbell whose consumer withholds credits (R81, R92, R93, R335): HOST holds no credit for a queue that it produces, however many entries of the queue are
free, and a valid descriptor is refused with NO_CREDIT.
-/
namespace Sys2Proof.Machine

/-- HOST consumes no queue that it produces (R344). -/
theorem hostConsumes_of_hostProduces {q : Nat} (h : hostProduces q = true) : hostConsumes q = false := by
  simp only [hostProduces, Bool.or_eq_true, beq_iff_eq] at h
  obtain (((rfl | rfl) | rfl) | rfl) | rfl := h <;> rfl

/-- DOORBELL_WRITE reaches the doorbell at once where HIF answers and the module is not in DOZE. -/
theorem exec_doorbellWrite_now {s : State} (hup : s.hostUp = true) (hdoze : s.mode ≠ .doze) (q : Fin 16384) (d : DWord) (wide : Bool) :
    exec (.doorbellWrite q d wide) s = .next (s.doorbell q d wide) := by
  have hexec : exec (.doorbellWrite q d wide) s = execDoorbellWrite q d wide s := rfl
  have hmode : (s.mode == .doze) = false := by simpa using hdoze
  simp [hexec, execDoorbellWrite, hmode, hup]

/-- The free entries of a queue give HOST no credit while the consumer does not grant any (R81). -/
theorem State.hostCredits_withheld {s : State} {q pg : Nat} (hq : hostProduces q = true) (hpg : State.queueConsumer q = some pg)
    (hg : s.grants pg = false) : s.hostCredits q = 0 := by
  simp [State.hostCredits, hostConsumes_of_hostProduces hq, hpg, hg]

@[simp] theorem State.raise_dbLast (s : State) (pg n : Nat) : (s.raise pg n).dbLast = s.dbLast := by rw [s.raise_eq pg n]

/-- A valid descriptor for which HOST holds no credit leaves NO_CREDIT in LAST (R92, R93). -/
theorem State.doorbell_last_noCredit {s : State} {q : Nat} {d : DWord} (hd : descValid d = true) (hq : hostProduces q = true)
    (hcredit : s.hostCredits q = 0) : Sparse.get (fun _ => 0) (s.doorbell q d true).dbLast q = 2 := by
  have hlast : (s.doorbell q d true).dbLast = Sparse.set (fun _ => 0) s.dbLast q 2 := by
    simp [State.doorbell, hd, hq, hostConsumes_of_hostProduces hq, hcredit, State.wr]
  rw [hlast, Sparse.get_set_self]

/-- SHOW with every domain on and only HIF and QM READY: ETH port 0, which consumes queue 16256, is OFF (R344). -/
def ethOff : State :=
  { State.reset with
    mode := .show_
    blocks := [(3, { Block.init with code := 2 }), (26, { Block.init with code := 2 })]
    regs := [(Reg.PWR.DOMAIN_STATE, 0x22222)] }

theorem ethOff_consumer_withholds : State.queueConsumer 16256 = some 104 ∧ ethOff.grants 104 = false := by decide

/-- Refutes O60: in `ethOff` queue 16256 has all its entries free and QM is at work, but its consumer grants no credit, so a whole HOST_BUF is refused and LAST reads 2. -/
theorem not_doorbellsTakeWholeDescriptors : ¬ Obligations.DoorbellsTakeWholeDescriptors := by
  intro h
  have hup : ethOff.hostUp = true := by decide
  have hdoze : ethOff.mode ≠ .doze := by decide
  have hfree : queueCredits 16256 (ethOff.pq 16256) ≠ 0 := by decide
  have hqm : ethOff.qmUp = true := by decide
  obtain ⟨t, hexec, hlast, -⟩ := (h 16256 0x1800010000000000 true ethOff hup hdoze).2 (by decide) rfl rfl hfree hqm
  have hrefused : Sparse.get (fun _ => 0) (ethOff.doorbell 16256 0x1800010000000000 true).dbLast 16256 = 2 :=
    State.doorbell_last_noCredit rfl rfl (State.hostCredits_withheld rfl ethOff_consumer_withholds.1 ethOff_consumer_withholds.2)
  cases (exec_doorbellWrite_now hup hdoze 16256 0x1800010000000000 true).symm.trans hexec
  exact absurd (hrefused.symm.trans hlast) (by decide)

end Sys2Proof.Machine
end

section
/-!
PROOFS. The calendar alarms and who may write them (R406, R407, R412): what DISARM does by case, what the ownership of alarm 1 lets through, and what a write to any
register of alarm 1 comes to past its gate.
-/
namespace Sys2Proof.Machine

/-! Writes that leave no journal record. -/

theorem State.access_plain {s : State} {r : Requester} {a : Nat} {v : Word} {eff : State → State} (h : s.passes r a) (hd : durableReg a = false)
    (h8 : (a % 0x1000 == 8) = false) : s.access r a v eff = eff (s.claimed a) :=
  (State.access_pass h).trans (State.journalWrite_plain _ hd h8)

/-- Hardware sets bits in the cycle of a write in W1C registers alone (R77). -/
theorem State.keepSet_not_w1c (s : State) {a : Nat} (old v sets : Word) (h : (regRow a).all (fun row => row.acc != .w1c) = true) :
    s.keepSet old a v sets = s := by
  unfold State.keepSet
  split
  case h_1 row hrow =>
    have hacc : (row.acc == .w1c) = false := by simpa [hrow] using h
    simp [hacc]
  case h_2 => rfl

/-! DISARM (R407, R413) and the owner of alarm 1 (R407). -/

section
variable (s : State) {a : Nat} {r : Requester} (eff : State → State)

theorem State.alarmDisarm_idle (h : s.almArmed a = false) : s.alarmDisarm a = s := by
  simp [State.alarmDisarm, h]

/-- An armed alarm takes the word 12: RESULT 6, and not armed. -/
theorem State.alarmDisarm_armed (h : s.almArmed a = true) : s.alarmDisarm a = s.wr (Reg.RTC.ALM_STATUS a) 12 := by
  simp [State.alarmDisarm, h]

theorem State.alarmOwned_taken (h : bit (s.rd Reg.SYS.DOZE_CFG) 1 = true ∧ r ≠ .fp) : s.alarmOwned r 1 eff = s.err 11 := by
  simp [State.alarmOwned, h]

theorem State.alarmOwned_free (h : ¬ (a = 1 ∧ bit (s.rd Reg.SYS.DOZE_CFG) 1 = true ∧ r ≠ .fp)) : s.alarmOwned r a eff = eff s := by
  have hcond : ¬ (a == 1 && bit (s.rd Reg.SYS.DOZE_CFG) 1 && r != .fp) = true := by
    simpa [and_assoc] using h
  simp only [State.alarmOwned, if_neg hcond]

/-- Every register of alarm 1 is its owner's. -/
theorem State.alarmWrite_taken (h : bit (s.rd Reg.SYS.DOZE_CFG) 1 = true ∧ r ≠ .fp) (off : Nat) (v : Word) : s.alarmWrite r 1 off v = s.err 11 :=
  s.alarmOwned_taken _ h

end

/-! ALARM_ARM and ALARM_DISARM that pass their gate: neither alarm's CTL is kept in MRAM. -/

section
variable {s : State} {r : Requester} {a : Fin 2} (h : s.passes r (Reg.RTC.ALM_CTL a))
include h

theorem State.access_almCtl (v : Word) (eff : State → State) :
    s.access r (Reg.RTC.ALM_CTL a) v eff = eff (s.claimed (Reg.RTC.ALM_CTL a)) := by
  have hplain : ∀ a : Fin 2, durableReg (Reg.RTC.ALM_CTL a) = false ∧ (Reg.RTC.ALM_CTL a % 0x1000 == 8) = false := by decide
  exact State.access_plain h (hplain a).1 (hplain a).2

theorem exec_alarmArm_pass : exec (.alarmArm r a) s = .next ((s.claimed (Reg.RTC.ALM_CTL a)).alarmOwned r a (State.alarmArm a)) := by
  have hexec : exec (.alarmArm r a) s = execAlarmArm r a s := rfl
  rw [hexec, execAlarmArm, State.access_almCtl h]

theorem exec_alarmDisarm_pass :
    exec (.alarmDisarm r a) s = .next ((s.claimed (Reg.RTC.ALM_CTL a)).alarmOwned r a (State.alarmDisarm a)) := by
  have hexec : exec (.alarmDisarm r a) s = execAlarmDisarm r a s := rfl
  rw [hexec, execAlarmDisarm, State.access_almCtl h]

/-- DISARM of an alarm that its requester may write. -/
theorem exec_alarmDisarm_free (hfree : ¬ (a = 1 ∧ bit (s.rd Reg.SYS.DOZE_CFG) 1 = true ∧ r ≠ .fp)) :
    exec (.alarmDisarm r a) s = .next ((s.claimed (Reg.RTC.ALM_CTL a)).alarmDisarm a) := by
  rw [exec_alarmDisarm_pass h, State.alarmOwned_free (s.claimed _) _ fun ⟨ha, htaken⟩ => hfree ⟨Fin.ext ha, htaken⟩]

end

/-! Writes to the four registers of alarm 1. -/

theorem almTime_one : Reg.RTC.ALM_TIME 1 = 0xB090 := rfl

/-- No register of alarm 1 is kept in MRAM, is CTL of the header, is written past a gate of its own, or is W1C. -/
theorem alarmOne_register_plain (k : Fin 4) {x : Nat} (hx : x = Reg.RTC.ALM_TIME 1 + 4 * k) :
    durableReg x = false ∧ (x % 0x1000 == 8) = false ∧ State.liveCmd x = false ∧ (regRow x).all (fun row => row.acc != .w1c) = true := by
  subst hx
  revert k
  decide

/-- The offsets from 0x80 to 0x9F of RTC are the registers of the two alarms, 16 bytes each. -/
theorem State.writeRTC_alarm (s : State) (r : Requester) {off : Nat} (v : Word) (hlo : 0x80 ≤ off) (hhi : off < 0xA0) :
    s.writeRTC r off v = s.alarmWrite r ((off - 0x80) / 16) off v := by
  have hsubsec : off ≠ 0x60 := by omega
  have htime : off ≠ 0x64 := by omega
  have hdate : off ≠ 0x68 := by omega
  have hgo : off ≠ 0x6C := by omega
  have hshift : off ≠ 0x70 := by omega
  simp only [State.writeRTC, Bool.or_eq_true, Bool.and_eq_true, beq_iff_eq, decide_eq_true_eq, hsubsec, htime, hdate, hgo, hshift, hlo, hhi, or_self,
    and_self, if_true, if_false]

theorem State.pageWrite_alarmOne (s : State) (r : Requester) (k : Fin 4) (v : Word) :
    s.pageWrite r 11 (0x90 + 4 * k) v = s.alarmWrite r 1 (0x90 + 4 * k) v := by
  have hpage : s.pageWrite r 11 (0x90 + 4 * k) v = s.writeRTC r (0x90 + 4 * k) v := rfl
  have halarm : (0x90 + 4 * k.val - 0x80) / 16 = 1 := by omega
  rw [hpage, s.writeRTC_alarm r v (by omega) (by omega), halarm]

/-- Past the gate, such a write is the effect of R407 and R412; RTC joins no group. -/
theorem State.routeWrite_alarmOne (s : State) (r : Requester) (k : Fin 4) (v sets : Word) :
    s.routeWrite r (Reg.RTC.ALM_TIME 1 + 4 * k) v sets = s.alarmWrite r 1 (0x90 + 4 * k) v := by
  obtain ⟨-, -, -, hacc⟩ := alarmOne_register_plain k rfl
  have hpg : (Reg.RTC.ALM_TIME 1 + 4 * k) / 0x1000 = 11 := by rw [almTime_one]; omega
  have hoff : (Reg.RTC.ALM_TIME 1 + 4 * k) % 0x1000 = 0x90 + 4 * k := by rw [almTime_one]; omega
  have hctl : 0x90 + 4 * k.val ≠ 8 := by omega
  have hevtEn : 0x90 + 4 * k.val ≠ 0x14 := by omega
  have hevt : 0x90 + 4 * k.val ≠ 0x1C := by omega
  have hblock : ¬ 0x90 + 4 * k.val < 0x40 := by omega
  simp only [State.routeWrite, hpg, hoff, beq_iff_eq, hctl, hevtEn, hevt, hblock, if_false, State.pageWrite_alarmOne,
    State.keepSet_not_w1c _ _ _ _ hacc]
  rfl

theorem exec_registerWrite_alarmOne {s : State} {r : Requester} {k : Fin 4} (h : s.passes r (Reg.RTC.ALM_TIME 1 + 4 * k)) (v : Word) :
    exec (.registerWrite r (BitVec.ofNat 32 (Reg.RTC.ALM_TIME 1 + 4 * k)) v none 0 []) s =
      .next ((s.claimed (Reg.RTC.ALM_TIME 1 + 4 * k)).alarmWrite r 1 (0x90 + 4 * k) v) := by
  obtain ⟨hdurable, hctl, hlive, -⟩ := alarmOne_register_plain k rfl
  have haddr : (BitVec.ofNat 32 (Reg.RTC.ALM_TIME 1 + 4 * k)).toNat = Reg.RTC.ALM_TIME 1 + 4 * k := by
    rw [BitVec.toNat_ofNat, almTime_one]
    omega
  have haligned : (Reg.RTC.ALM_TIME 1 + 4 * k) % 4 = 0 := by rw [almTime_one]; omega
  rw [exec_registerWrite_alone, haddr, State.writeAsCome_aligned _ _ _ _ haligned]
  simp only [State.registerWrite, hlive, Bool.false_eq_true, if_false, State.access_plain h hdurable hctl, State.routeWrite_alarmOne]

/-- Settles O58: while FP owns alarm 1, another requester's write, ARM or DISARM comes to `alarmOwned` and is counted; past it, DISARM is `alarmDisarm` by case. -/
theorem alarmOneBelongsToFp : Obligations.AlarmOneBelongsToFp := by
  intro r s taken
  refine ⟨fun k v htaken hpass => ?registers, fun htaken hpass => ?commands, fun a hpass hfree harmed => ?armed, fun a hpass hfree hidle => ?idle⟩
  case registers =>
    exact (exec_registerWrite_alarmOne hpass v).trans (congrArg _ (State.alarmWrite_taken (s.claimed _) htaken _ _))
  case commands =>
    have hdropped (eff : State → State) := (s.claimed (Reg.RTC.ALM_CTL 1)).alarmOwned_taken eff htaken
    exact ⟨(exec_alarmArm_pass (a := 1) hpass).trans (congrArg _ (hdropped _)),
      (exec_alarmDisarm_pass (a := 1) hpass).trans (congrArg _ (hdropped _))⟩
  case armed =>
    have hexec := exec_alarmDisarm_free hpass hfree
    rw [State.alarmDisarm_armed (s.claimed _) harmed] at hexec
    refine ⟨_, hexec, ?_, ?_, (Writes.refl _).wr _ _ (List.mem_singleton_self _)⟩
    · rw [State.almArmed, State.rd_wr_self]
      decide
    · rw [State.rd_wr_self]
      decide
  case idle =>
    rw [exec_alarmDisarm_free hpass hfree, State.alarmDisarm_idle (s.claimed _) hidle]

end Sys2Proof.Machine
end

section
/-!
PROOFS. The EN bits of TAMP.CFG (R427): what a write to CFG leaves in the register after SEAL, and what a read of it returns with TAMP_FORCE burned.
-/
namespace Sys2Proof.Machine

@[simp] theorem bit_or (v w : Word) (k : Nat) : bit (v ||| w) k = (bit v k || bit w k) := BitVec.getLsbD_or

@[simp] theorem bit_and (v w : Word) (k : Nat) : bit (v &&& w) k = (bit v k && bit w k) := BitVec.getLsbD_and

/-- Bits 0 to 5 are EN: all of them are in the mask of the field and in the mask of the register. -/
theorem bit_enMask {k : Nat} (hk : k < 6) : bit 0x3F k = true ∧ bit 0xFF3F k = true := by
  revert k
  decide

/-- TAMP.CFG is an RW register with the fields EN and PERIOD, kept in MRAM. -/
theorem regRow_tampCfg : regRow Reg.TAMP.CFG = some ⟨0x040, 1, 4, .rw, .durable, 0x838, 0xFF3F⟩ := by decide

/-! Writes (R427, R436). -/

section
variable (s : State) (v : Word)

/-- After SEAL, a write to CFG puts the EN bits that are set back into the word. -/
theorem State.writeTAMP_cfg_sealed (h : bit (s.rd Reg.FUSE.LIFECYCLE) 0 = true) :
    s.writeTAMP 0x40 v = s.wr Reg.TAMP.CFG ((v ||| s.rd Reg.TAMP.CFG &&& 0x3F) &&& 0xFF3F) := by
  simp [State.writeTAMP, State.plainWrite, regRow_tampCfg, h]

/-- The EN bits of the word that a sealed write leaves. -/
theorem bit_tampCfg_sealed (old : Word) {k : Nat} (hk : k < 6) : bit ((v ||| old &&& 0x3F) &&& 0xFF3F) k = (bit old k || bit v k) := by
  obtain ⟨hen, hcfg⟩ := bit_enMask hk
  rw [bit_and, bit_or, bit_and, hen, hcfg, Bool.and_true, Bool.and_true, Bool.or_comm]

/-- Past the gate, a write to CFG is the effect of R427: TAMP joins no group and CFG is no W1C register. -/
theorem State.routeWrite_tampCfg (r : Requester) (sets : Word) : s.routeWrite r Reg.TAMP.CFG v sets = s.writeTAMP 0x40 v := by
  have hpage : s.pageWrite r 7 0x40 v = s.writeTAMP 0x40 v := rfl
  have hpg : Reg.TAMP.CFG / 0x1000 = 7 := rfl
  have hoff : Reg.TAMP.CFG % 0x1000 = 0x40 := rfl
  have hkeep (t : State) (w : Word) : t.keepSet w Reg.TAMP.CFG v sets = t := State.keepSet_not_w1c t w v sets (by rw [regRow_tampCfg]; rfl)
  simp [State.routeWrite, State.groupsAfter, hpg, hoff, hpage, hkeep]

end

/-- The journal record of a durable write does not touch the register itself. -/
theorem State.rd_journalWrite (t old : State) {a b : Nat} (h : b ≠ Reg.SYS.JOURNAL_SEQ) : (t.journalWrite old a).rd b = t.rd b := by
  obtain ⟨-, -, hregs, -⟩ := State.journalWrite_frame (a := a) t old [] [Reg.SYS.JOURNAL_SEQ] (List.mem_singleton_self _)
  exact hregs b (mt List.mem_singleton.1 h)

theorem exec_registerWrite_tampCfg {s : State} {r : Requester} (h : s.passes r Reg.TAMP.CFG) (v : Word) :
    exec (.registerWrite r 0x7040 v none 0 []) s = .next (((s.claimed Reg.TAMP.CFG).writeTAMP 0x40 v).journalWrite s Reg.TAMP.CFG) := by
  have haddr : (0x7040 : Word).toNat = Reg.TAMP.CFG := rfl
  have hlive : State.liveCmd Reg.TAMP.CFG = false := by decide
  rw [exec_registerWrite_alone, haddr, State.writeAsCome_aligned _ _ _ _ (by decide)]
  simp [State.registerWrite, hlive, State.access_pass h, State.routeWrite_tampCfg]

/-! Reads (R427). -/

section
variable (s : State) (r : Requester)

/-- With TAMP_FORCE burned, CFG reads with every EN bit set. -/
theorem State.readValue_tampCfg_forced (h : bit (s.rd Reg.FUSE.LIFECYCLE) 2 = true) :
    s.readValue r Reg.TAMP.CFG = s.rd Reg.TAMP.CFG ||| 0x3F := by
  have hpage : s.pageRead r 7 0x40 = s.readTAMP 0x40 := rfl
  have hpg : Reg.TAMP.CFG / 0x1000 = 7 := rfl
  have hoff : Reg.TAMP.CFG % 0x1000 = 0x40 := rfl
  simp [State.readValue, regRow_tampCfg, hpg, hoff, hpage, State.readTAMP, h]

/-- A read of CFG does no more than answer. -/
theorem State.readEffect_tampCfg : s.readEffect r Reg.TAMP.CFG = s := rfl

/-- A single aligned read of 32 bits within BAR0 is its own read alone. -/
theorem State.readAsCome_aligned {a : Nat} (halign : a % 4 = 0) (hbar : a < 0x100000) : s.readAsCome r a false = s.registerRead r a := by
  simp [State.readAsCome, halign, Nat.not_le.2 hbar]

end

theorem exec_registerRead_tampCfg {s : State} {r : Requester} (h : s.reads r Reg.TAMP.CFG) :
    exec (.registerRead r 0x7040 false) s = .next (s.emit (.read r Reg.TAMP.CFG (s.readValue r Reg.TAMP.CFG))) := by
  have hexec : exec (.registerRead r 0x7040 false) s = .next (s.readAsCome r Reg.TAMP.CFG false) := rfl
  rw [hexec, State.readAsCome_aligned _ _ (by decide) (by decide), State.registerRead, State.readAccess_pass h, State.readEffect_tampCfg]

/-- Settles O59: a sealed write stores its word with the old EN bits put back, which its journal record leaves alone; a forced read answers with every EN bit set. -/
theorem sealedTamperEnablesStaySet : Obligations.SealedTamperEnablesStaySet := by
  intro r s v
  refine ⟨fun hsealed hpass => ?write, fun hforced hreads => ?read⟩
  case write =>
    refine ⟨_, exec_registerWrite_tampCfg hpass v, fun k hk => ?_⟩
    rw [State.rd_journalWrite _ _ (by decide), State.writeTAMP_cfg_sealed (s.claimed _) v hsealed, State.rd_wr_self]
    exact bit_tampCfg_sealed v (s.rd Reg.TAMP.CFG) hk
  case read =>
    refine ⟨_, exec_registerRead_tampCfg hreads, fun k hk => ?_⟩
    obtain ⟨hen, -⟩ := bit_enMask hk
    rw [s.readValue_tampCfg_forced r hforced, bit_or, hen, Bool.or_true]

end Sys2Proof.Machine
end
